-- ==== Sys2Proof/Word.lean ====
section
/-! DEFINITION. The words and index types of the FT-6412 (spec 0.7 Conventions) and the plainest list of
indices. Nothing here computes what a rule of the manual says. -/

namespace Sys2Proof

/-- One byte of a tag frame, the configuration image or the status record. -/
abbrev Byte := BitVec 8
/-- A station-time value: the 32-bit millisecond count or a deadline (0.7 Time, R158). -/
abbrev Time := BitVec 32
/-- A station ID; 0 stands for none, 65535 is invalid (0.7 Identifiers). -/
abbrev StationId := BitVec 16
/-- A programme ID; 0 is invalid (0.7 Identifiers). -/
abbrev ProgrammeId := BitVec 16
/-- A network ID, all values valid (0.7 Identifiers). -/
abbrev NetworkId := BitVec 8
/-- A tuning word or an oscillator phase, modulo 2^32 (R1). -/
abbrev TuningWord := BitVec 32
/-- A slot number, 0 to 63 (1.1). -/
abbrev Slot := Fin 64
/-- A programme path, 0 to 11 (0.6). -/
abbrev PathIx := Fin 12

/-- A complex sample of 16 bits in each part (R3, R4). -/
structure IQ where
  i : BitVec 16
  q : BitVec 16
deriving DecidableEq, Repr

/-- A complex sample carried at full width (R11, R15). -/
structure WideIQ where
  i : Int
  q : Int
deriving DecidableEq, Repr

/-- The 14 tag framers: one for each path, the survey framer and the monitor framer (2.2). -/
inductive FramerIx where
  | path (i : PathIx)
  | survey
  | monitor
deriving DecidableEq, Repr

/-- The two tones of the tag subcarrier (R21). -/
inductive Tone where
  | mark
  | space
deriving DecidableEq, Repr

/-- All indices below n in ascending order. -/
def indices : (n : Nat) → List (Fin n)
  | 0 => []
  | n + 1 => 0 :: (indices n).map Fin.succ

end Sys2Proof
end

