-- ==== Sys2Proof/Syntax.lean ====
section
/-! DEFINITION. The commands of the FT-6412: one constructor of Instr for each row of spec/opcode_table.json.
A command is one whole step of the part (95_what_each_step_holds.md). Where the manual lets two actions inside
one step be taken in either order, the order is an operand. -/

namespace Sys2Proof

/-- Which table takes a mass release first (R64: either order). -/
inductive ReleaseOrder where
  | claimsFirst
  | sourcesFirst
deriving DecidableEq, Repr

/-- The orders that the manual leaves free inside a FRAMER_OUTCOME. -/
structure OutcomeOrder where
  /-- the order of a mass release (R64) -/
  release : ReleaseOrder
  /-- how many heads the tuning queue takes before the path controller cancels the transmit entries of a path whose INTENT
  the frame withdraws: 0 for within the act (R122), more for a cancellation that an entry may outrun (R19, R98) -/
  cancelAfter : Nat
deriving DecidableEq, Repr

/-- The commands that the part acts on at a block boundary, as steps that may stand inside the order of a
BLOCK_BOUNDARY: the manual lets such a step come before the evaluation (R138, R144), before the check of a frame in
progress (R39) and before the assembly of the status record (R165). -/
inductive BoundaryStep where
  | loadEnd
  | configRetry
  | endOfListening
  | tuningEntryApplied
  | framerOutcome (f : FramerIx) (order : OutcomeOrder)
  | frameStart
  | neighbourSweep (sourcesFirst : List StationId)
  | sourceSweep
  | peerClaimExpiry
  | holdOffEnd (k : Slot)
  | collisionExpiry (k : Slot)
  | claimRetryDeadline (i : PathIx)
  | pathEvaluation (i : PathIx)
  | acquireTimeout (i : PathIx)
  | carrierCheckFail (i : PathIx)
  | lowCarrierLoss (i : PathIx)
  | tagLoss (i : PathIx)
  | holdoverExpired (i : PathIx)
  | txpermitChange (level : Bool)
  | muteEnd
  | lockoutEnd
  | faultHistoryExpiry
  | graceDeadline
  | txRestored (i : PathIx)
  | keyHoldExpiry
  | inhibitAlarm
  | failureLogExpiry
  | visitStart
  | visitTimeout
  | dwellStart
  | dwellCheckClose
  | dwellDeadline
  | statusRecord
deriving DecidableEq, Repr

/-- What a block boundary does after its opening, in an order that the manual leaves free: actions of its own (R16, R39,
R130, R138, R140), one of each path's for its report and for its bit, and among them steps of the same boundary. -/
inductive BoundaryAct where
  /-- the level controller takes the block report of one path (R130) -/
  | level (i : PathIx)
  /-- the governor takes the clip count of the block that ended (R140) -/
  | clips
  /-- the composite governor's evaluation (R133 to R138) -/
  | evaluation
  /-- the tag builder checks the frame in progress of one path and hands its next bit (R38, R39) -/
  | bit (i : PathIx)
  /-- a step of the same boundary, taken at this place -/
  | step (b : BoundaryStep)
deriving DecidableEq, Repr

/-- The reports of all paths, in ascending path index. -/
def BoundaryAct.levels : List BoundaryAct := (indices 12).map .level

/-- The bits of all paths, in ascending path index. -/
def BoundaryAct.bits : List BoundaryAct := (indices 12).map .bit

/-- The boundary's own actions, in the order taken when a command names no order of its own. -/
def BoundaryAct.all : List BoundaryAct := BoundaryAct.levels ++ [.clips, .evaluation] ++ BoundaryAct.bits

/-- The act is one of the boundary's own. -/
def BoundaryAct.isOwn : BoundaryAct → Bool
  | .step _ => false
  | .level _ => true
  | .clips => true
  | .evaluation => true
  | .bit _ => true

/-- The commands. -/
inductive Instr where
  /-- DEVICE_RESET (R159) -/
  | deviceReset
  /-- LOAD_END (R159 to R163) -/
  | loadEnd
  /-- CONFIG_RETRY (R163) -/
  | configRetry
  /-- END_OF_LISTENING (R164) -/
  | endOfListening
  /-- BLOCK_BOUNDARY (R158), with the order of its free actions and of the steps taken among them -/
  | blockBoundary (order : List BoundaryAct)
  /-- RESTORE (R136), which completes an evaluation that ended its BLOCK_BOUNDARY -/
  | restore
  /-- TUNING_ENTRY_APPLIED (R18) -/
  | tuningEntryApplied
  /-- BREAK_RECOGNISED of one framer (R24, R28) -/
  | breakRecognised (f : FramerIx)
  /-- LEAD_TIMEOUT of one framer (R25) -/
  | leadTimeout (f : FramerIx)
  /-- BYTE_GAP_TIMEOUT of one framer (R29) -/
  | byteGapTimeout (f : FramerIx)
  /-- FRAMER_OUTCOME of one framer (R41), with the order of a mass release it may cause and the time of the
  cancellation that a withdrawal in it leads to -/
  | framerOutcome (f : FramerIx) (order : OutcomeOrder)
  /-- FRAME_START (R36) -/
  | frameStart
  /-- NEIGHBOUR_SWEEP (R63), with the stations whose mass release the source table takes before the slot claim table does;
  every other release goes the other way round (R64) -/
  | neighbourSweep (sourcesFirst : List StationId)
  /-- SOURCE_SWEEP (R79) -/
  | sourceSweep
  /-- PEER_CLAIM_EXPIRY (R92) -/
  | peerClaimExpiry
  /-- HOLD_OFF_END at one slot (R97) -/
  | holdOffEnd (k : Slot)
  /-- COLLISION_EXPIRY at one slot (R101) -/
  | collisionExpiry (k : Slot)
  /-- CLAIM_RETRY_DEADLINE of one path (R105) -/
  | claimRetryDeadline (i : PathIx)
  /-- PATH_EVALUATION of one path (R113) -/
  | pathEvaluation (i : PathIx)
  /-- ACQUIRE_TIMEOUT of one path (R118) -/
  | acquireTimeout (i : PathIx)
  /-- CARRIER_CHECK_FAIL of one path (R116) -/
  | carrierCheckFail (i : PathIx)
  /-- LOW_CARRIER_LOSS of one path (R119) -/
  | lowCarrierLoss (i : PathIx)
  /-- TAG_LOSS of one path (R119) -/
  | tagLoss (i : PathIx)
  /-- HOLDOVER_EXPIRED of one path (R124) -/
  | holdoverExpired (i : PathIx)
  /-- TXPERMIT_CHANGE: the level taken (R155); true is high -/
  | txpermitChange (level : Bool)
  /-- MUTE_END (R141, R144) -/
  | muteEnd
  /-- LOCKOUT_END (R143, R144) -/
  | lockoutEnd
  /-- FAULT_HISTORY_EXPIRY (R142) -/
  | faultHistoryExpiry
  /-- GRACE_DEADLINE (R145) -/
  | graceDeadline
  /-- TX_RESTORED of one path (R154) -/
  | txRestored (i : PathIx)
  /-- KEY_HOLD_EXPIRY (R156) -/
  | keyHoldExpiry
  /-- INHIBIT_ALARM (R155) -/
  | inhibitAlarm
  /-- FAILURE_LOG_EXPIRY (R153) -/
  | failureLogExpiry
  /-- VISIT_START (R149) -/
  | visitStart
  /-- VISIT_TIMEOUT (R151) -/
  | visitTimeout
  /-- DWELL_START (R48) -/
  | dwellStart
  /-- DWELL_CHECK_CLOSE (R49) -/
  | dwellCheckClose
  /-- DWELL_DEADLINE (R52) -/
  | dwellDeadline
  /-- STATUS_RECORD (R165) -/
  | statusRecord
  /-- BAND_INPUT_SAMPLE (R3): the pair taken on the strobe, and the programme-channel samples that the
  decimation filters and notches of the 12 paths and of the survey receive side give, which are used at
  every 64th strobe (R4: their values are fixed by the part's design and not by the manual) -/
  | bandInputSample (sample : IQ) (paths : Vector IQ 12) (survey : IQ)
  /-- COUPLER_INPUT_SAMPLE (R147): as the band input, for the monitor receive side -/
  | couplerInputSample (sample : IQ) (monitor : IQ)
  /-- COMPOSITE_SAMPLE (R15): the samples that the 12 transmit sides give: what the interpolation filter, whose values
  are not the manual's (R13), and the oscillator make of the channel, of the tone at its phase (R12) and of the tag
  amplitude in use -/
  | compositeSample (sides : Vector WideIQ 12)
  /-- TAG_LINE_SAMPLE of one framer (R23): the tone whose energy exceeds the other's over 16 channel samples
  (R5) -/
  | tagLineSample (f : FramerIx) (tone : Tone)
  /-- CONFIG_BYTE_READ: the byte the configuration memory delivers (R159) -/
  | configByteRead (b : Byte)
  /-- STATUS_BIT_SENT (R165) -/
  | statusBitSent
deriving DecidableEq, Repr

end Sys2Proof
end

