-- ==== Sys2Proof/Decode.lean ====
section
/-! DEFINITION. The command a word spells by spec/opcode_table.json's bits. No row of the table gives bits (98_reader.md:
"n_rows_with_fixed": 0, "n_rows_with_fields": 0), so no word spells a command. -/

namespace Sys2Proof

/-- No row of the opcode table has bits: no word of any length spells a command. -/
def decodeTableWord (_nbits _w : Nat) : Option Instr := none

end Sys2Proof
end

