-- ==== Sys2Proof/Config.lean ====
section
/-! DEFINITION. What the configuration image fixes for a station (Tables 10-1 to 10-3): the parameters, the carry
entries and the band plan attributes, with the values in force before a valid load. The part has no free value: where
the manual leaves a circuit's output open (R4, R5, R13), the value is an operand of the command. -/

namespace Sys2Proof

/-- The band plan attribute of a slot (R2). -/
inductive SlotAttr where
  | barred
  | watch
  | transmit
  | both
deriving DecidableEq, Repr

/-- The parameters of Table 10-1. -/
structure Params where
  stationId : StationId
  networkId : NetworkId
  openFlag : Bool
  acceptOpen : Bool
  /-- guard distance, slots -/
  guardDistance : Nat
  /-- claim hold-off, s -/
  claimHoldOff : Nat
  /-- holdover, s -/
  holdover : Nat
  /-- neighbour timeout, s -/
  neighbourTimeout : Nat
  /-- silence grace, s -/
  silenceGrace : Nat
  /-- collision persistence, s -/
  collisionPersistence : Nat
  /-- acquire timeout, ms -/
  acquireTimeout : Nat
  /-- source penalty time, s -/
  sourcePenalty : Nat
  /-- listen time, s -/
  listenTime : Nat
  qMin : Nat
  hopPenalty : Nat
  switchMargin : Nat
  switchCount : Nat
  mFloor : Nat
  mGood : Nat
  gMin : Nat
  gMax : Nat
  pMax : Nat
  sFloor : Nat
  /-- clip limit, samples per block -/
  clipLimit : Nat
deriving DecidableEq, Repr

/-- The values in force from device reset until a valid load (R159, Table 10-3). -/
def Params.default : Params :=
  { stationId := 0, networkId := 0, openFlag := false, acceptOpen := true
    guardDistance := 1, claimHoldOff := 5, holdover := 30, neighbourTimeout := 120
    silenceGrace := 60, collisionPersistence := 5, acquireTimeout := 2000, sourcePenalty := 30
    listenTime := 10, qMin := 30, hopPenalty := 8, switchMargin := 10, switchCount := 3
    mFloor := 32, mGood := 256, gMin := 16, gMax := 65535, pMax := 4000000
    sFloor := 64, clipLimit := 64 }

/-- One carry entry (Table 10-2). -/
structure CarryEntry where
  enabled : Bool
  pinned : Bool
  programme : ProgrammeId
  priority : Nat
  /-- target amplitude T, a.u. -/
  target : Nat
  preferred : Slot
deriving DecidableEq, Repr

/-- A disabled carry entry (R159, R161). Its other fields are read by nothing. -/
def CarryEntry.disabled : CarryEntry :=
  { enabled := false, pinned := false, programme := 0, priority := 1, target := 1, preferred := 0 }

end Sys2Proof
end

