-- ==== Sys2Proof/Machine/State.lean ====
section
/-! DEFINITION. The state of the FT-6412 as plain data: every block of Table 0-1 with the state its chapter gives it,
the queue of waiting commands, the reasons a step can stop, and the state after device reset. -/

namespace Sys2Proof.Machine

open Sys2Proof

/-! ### Site and station -/

/-- The station states (Table 10-4). -/
inductive Station where
  | loading
  | quiet
  | listen
  | running
deriving DecidableEq, Repr

/-- The site transmit states (R139). -/
inductive Site where
  | transmitting
  | muted
  | lockedOut
  | inhibited
  | silent
deriving DecidableEq, Repr

/-- A transmit condition (R126). -/
inductive Cond where
  | off
  | tagOnly
  | full
deriving DecidableEq, Repr

/-! ### Timing unit -/

/-- The timing unit (R158), with two marks of the model's own: which once-a-boundary steps of the latest boundary
are still to be taken. -/
structure Timing where
  /-- millisecond count, which is station time -/
  ms : Time
  /-- seconds count, which is the uptime -/
  secs : BitVec 32
  /-- MODEL: the latest boundary reached a whole multiple of 1,000 ms -/
  wholeSecond : Bool
  /-- MODEL: the tuning queue has still to take its head at the latest boundary (R18: one entry a boundary) -/
  tuningDue : Bool
  /-- MODEL: the status record of the latest boundary has still to be assembled (R165) -/
  statusDue : Bool
deriving DecidableEq, Repr

/-! ### Configuration loader -/

/-- The configuration loader (chapter 10). -/
structure Loader where
  /-- a read of the image is in progress (R159, R163) -/
  reading : Bool
  /-- the bytes read so far, from address 0 upward -/
  image : List Byte
  retryDeadline : Option Time
  endOfListening : Option Time
  configInvalid : Bool
  configClamped : Bool
deriving DecidableEq, Repr

/-! ### Sample ports and sides -/

/-- A sample input port (R3, R147): its sample alignment within the block and the pair it last presented. -/
structure InputPort where
  /-- position of the next sample within the block, 0 to 16,383 -/
  alignment : Nat
  /-- the pair presented to the receive sides -/
  presented : IQ
deriving DecidableEq, Repr

/-- A receive side (1.4, R44, R147). -/
structure RxSide where
  word : TuningWord
  /-- the oscillator's phase accumulator (R1) -/
  phase : TuningWord
  /-- measurement accumulator: sum of sample magnitudes -/
  sum : Nat
  /-- measurement accumulator: samples summed, 0 to 256 -/
  count : Nat
  warmUp : Bool
  /-- M of the latest measurement report since the last retune (R73) -/
  latest : Option Nat
deriving DecidableEq, Repr

/-- The three values that a transmit side takes into use together (1.5). -/
structure TxSet where
  cond : Cond
  /-- programme gain, Q10 -/
  gain : Nat
  /-- tag amplitude, a.u. -/
  tag : Nat
deriving DecidableEq, Repr

/-- The set of a path that is OFF (R10). -/
def TxSet.silent : TxSet := { cond := .off, gain := 0, tag := 0 }

/-- A transmit side (1.5). -/
structure TxSide where
  word : TuningWord
  /-- the oscillator's phase accumulator (R1) -/
  phase : TuningWord
  slotInUse : Option Slot
  inUse : TxSet
  pendingSet : TxSet
  /-- the output slot of the path's record as it stood at the boundary that began the block (R13) -/
  recordSlot : Option Slot
  /-- the tag tone sent through the block; absent while the condition in use is OFF (R12) -/
  tone : Option Tone
  /-- the phase of the tag tone, which goes on through a change of bit (R12) -/
  tonePhase : TuningWord
  /-- the scaled programme sample of the channel (R11) -/
  channel : WideIQ
deriving DecidableEq, Repr

/-- The composite output port (1.6). -/
structure CompositePort where
  /-- clip count of the current block -/
  clips : Nat
  /-- the composite sample on TXI and TXQ -/
  out : IQ
deriving DecidableEq, Repr

/-! ### Tuning queue -/

/-- The side of a path that a tuning entry names (1.7). -/
inductive Side where
  | receive
  | transmit
deriving DecidableEq, Repr

/-- An entry of the tuning queue (1.7). -/
structure TuneEntry where
  path : PathIx
  side : Side
  slot : Slot
deriving DecidableEq, Repr

/-! ### Tag framers -/

/-- The framer states (Table 2-2). -/
inductive FramerState where
  | hunt
  | brk
  | lead
  | body
  | standby
deriving DecidableEq, Repr

/-- The five frame outcomes (2.2). GOOD carries the frame's bytes and its noise count (R33). -/
inductive FrameOutcome where
  | good (bytes : List Byte) (noise : Nat)
  | crcFail
  | framing
  | foreign
  | malformed
deriving DecidableEq, Repr

/-- A tag framer (R23). -/
structure Framer where
  state : FramerState
  buffer : List Byte
  noise : Nat
  crc : Byte
  /-- consecutive space samples since the last mark, saturating at 192 -/
  spaceRun : Nat
  /-- samples taken since the start edge, the edge as the first; absent while no edge is followed -/
  position : Option Nat
  /-- the limit count of R25 and R29; absent while none runs -/
  limit : Option Nat
  /-- space samples among the deciding samples of the current bit taken so far (R26, R27) -/
  votes : Nat
  /-- the data bits of the current byte read so far (R27) -/
  shift : Byte
  /-- a stop bit has been read as space and the run is watched (R28) -/
  stopSpace : Bool
  /-- the outcome decided at the latest sample and not yet reported to tag intake (R33) -/
  outcome : Option FrameOutcome
deriving DecidableEq, Repr

/-- The condition of every framer at device reset and after an order to HUNT (R23). -/
def Framer.cleared : Framer :=
  { state := .hunt, buffer := [], noise := 0, crc := 0, spaceRun := 0, position := none, limit := none
    votes := 0, shift := 0, stopSpace := false, outcome := none }

/-! ### Tag builder -/

/-- What the tag builder keeps for one path (2.4). -/
structure BuilderPath where
  /-- the bytes of the frame fixed at the frame start; absent when no snapshot was taken -/
  snapshot : Option (List Byte)
  bitPosition : Nat
  /-- the hop depth of the latest snapshot (R40) -/
  keptDepth : Nat
  /-- the abandoned mark (R39) -/
  abandoned : Bool
deriving DecidableEq, Repr

/-- The tag builder (2.4). -/
structure Builder where
  /-- milliseconds since the last expiry of the frame timer (R36) -/
  frameTimer : Nat
  paths : Vector BuilderPath 12
deriving DecidableEq, Repr

/-! ### Survey receiver -/

/-- The phases of a dwell in progress (Table 3-1); BETWEEN is the absence of a dwell. -/
inductive DwellPhase where
  | warmUp
  | check
  | listening
deriving DecidableEq, Repr

/-- A dwell in progress (3.3). -/
structure Dwell where
  phase : DwellPhase
  slot : Slot
  deadline : Time
  /-- check measurements received, 0 to 20 -/
  checks : Nat
  /-- of them, those at or above M_floor -/
  good : Nat
  /-- the dwell's latest measurement -/
  latest : Option Nat
deriving DecidableEq, Repr

/-- The survey receiver with its receive side and framer (chapter 3). -/
structure Survey where
  rx : RxSide
  framer : Framer
  /-- the dwell record; none is BETWEEN -/
  dwell : Option Dwell
  scanPosition : Slot
  /-- survey request queue, oldest at the head -/
  requests : List Slot
deriving DecidableEq, Repr

/-! ### Neighbour list -/

/-- Which kinds of framer have delivered a station's frames (R56). -/
inductive WhereHeard where
  | relay
  | survey
  | both
deriving DecidableEq, Repr

/-- A station record of the neighbour list (R56). -/
structure Neighbour where
  station : StationId
  network : NetworkId
  lastHeard : Time
  lastAbsent : Bool
  lowestDepth : Nat
  lowestDepthTime : Time
  whereHeard : WhereHeard
deriving DecidableEq, Repr

/-! ### Source table -/

/-- A source entry (Table 5-1). -/
structure Source where
  slot : Slot
  station : StationId
  programme : ProgrammeId
  depth : Nat
  /-- absent when the hop depth is 0 -/
  upstream : Option StationId
  m : Nat
  levelGrade : Nat
  integrityGrade : Nat
  absent : Bool
  quality : Nat
  lastHeard : Time
  barredUntil : Option Time
deriving DecidableEq, Repr

/-! ### Slot claim table -/

/-- The phase of an own claim (R89). -/
inductive OwnPhase where
  | none
  | intent
  | held
deriving DecidableEq, Repr

/-- The phase of a claim in a frame and of a peer record (R90). -/
inductive ClaimPhase where
  | intent
  | held
deriving DecidableEq, Repr

/-- A peer record (R90). -/
structure Peer where
  station : StationId
  phase : ClaimPhase
  pinned : Bool
  expiry : Time
deriving DecidableEq, Repr

/-- A slot entry (R89). -/
structure SlotEntry where
  attr : SlotAttr
  own : OwnPhase
  ownPath : Option PathIx
  ownPinned : Bool
  ownDeadline : Option Time
  collision : Option Time
  peers : List Peer
deriving DecidableEq, Repr

/-- What the slot claim table keeps for one path beside the 64 entries (R89). -/
structure PathWait where
  freed : Bool
  retryDeadline : Option Time
deriving DecidableEq, Repr

/-! ### Path controller -/

/-- The path states (Table 7-2). -/
inductive PathState where
  | idle
  | seeking
  | acquiring
  | waitSlot
  | claiming
  | on
  | switching
  | holdover
deriving DecidableEq, Repr

/-- The path event codes (Table 7-4). -/
inductive PathEvent where
  | sourceSelected
  | acquired
  | acquireFailed
  | sourceLost
  | switched
  | claimWon
  | claimWithdrawn
  | slotCollision
  | slotReleased
  | txFault
  | txRestored
  | shed
  | restored
  | holdoverExpired
deriving DecidableEq, Repr

/-- The carrier check of an acquisition (R116). -/
inductive CarrierCheck where
  | notStarted
  | warmUp
  | counting (n : Nat)
  | passed
deriving DecidableEq, Repr

/-- A selected source (Table 7-1). -/
structure Selected where
  slot : Slot
  station : StationId
  depth : Nat
deriving DecidableEq, Repr

/-- A path record (Table 7-1), with the transmit condition derived from it (R126). -/
structure PathRec where
  state : PathState
  event : Option PathEvent
  selected : Option Selected
  rxSlot : Option Slot
  output : Option Slot
  evalDeadline : Option Time
  acquireDeadline : Option Time
  check : CarrierCheck
  rxPending : Bool
  txPending : Bool
  /-- MODEL: how many heads the tuning queue takes before the cancellation of the path's transmit entries, whose INTENT was
  withdrawn, is taken (R19); 0 when none is owed -/
  cancelOwed : Nat
  lastSourceFrame : Option Time
  lowCarrier : Nat
  holdoverDeadline : Option Time
  /-- hysteresis candidate: the key of a source entry -/
  candidate : Option (Slot × StationId)
  candidateCount : Nat
  acquired : Bool
  txFaultDeadline : Option Time
  monitorFails : Nat
  /-- path gain G, Q10 -/
  g : Nat
  /-- block magnitude M as last written -/
  m : Nat
  shed : Bool
  /-- the derived transmit condition (R126) -/
  cond : Cond
deriving DecidableEq, Repr

/-! ### Composite governor -/

/-- The composite governor (chapter 8). CLIP_FAULT is set while the fault history is not empty (R142), so it has no
field of its own. -/
structure Governor where
  /-- applied backoff factor s -/
  backoff : Nat
  /-- soft-start cap s_cap -/
  cap : Nat
  /-- MODEL: the cap that the latest evaluation applied, which a RESTORE within that evaluation applies too -/
  evaluationCap : Nat
  restoreCandidate : Option PathIx
  restoreCount : Nat
  /-- each path's nominal amplitude A as the latest evaluation computed it -/
  amplitudes : Vector Nat 12
  /-- clip-fault times, oldest first -/
  faultHistory : List Time
  lastMuteEnd : Option Time
  muteDeadline : Option Time
  lockoutDeadline : Option Time
  graceDeadline : Option Time
  site : Site
  lockoutFlag : Bool
deriving DecidableEq, Repr

/-! ### Monitor receiver and site lines -/

/-- A verdict of the monitor receiver (9.3). -/
inductive Verdict where
  | pass
  | fail
deriving DecidableEq, Repr

/-- The phases of a visit in progress; BETWEEN is the absence of a visit. -/
inductive VisitPhase where
  | warmUp
  | listening
deriving DecidableEq, Repr

/-- A visit in progress (9.3). -/
structure Visit where
  phase : VisitPhase
  path : PathIx
  slot : Slot
  /-- the visited path's condition at the start of the visit -/
  cond : Cond
  deadline : Time
deriving DecidableEq, Repr

/-- The monitor receiver with its receive side and framer (9.2, 9.3). -/
structure Monitor where
  rx : RxSide
  framer : Framer
  visitPosition : PathIx
  /-- the visit record; none is BETWEEN -/
  visit : Option Visit
  verdicts : Vector (Option Verdict) 12
  failureLog : List Time
  chainFault : Bool
deriving DecidableEq, Repr

/-- The site lines (9.6). INHIBIT is set while the site transmit state is INHIBITED (R155), so it has no field of its
own. -/
structure SiteLines where
  /-- transmit permit level as last taken; true is high -/
  permit : Bool
  keyHoldDeadline : Option Time
  inhibitAlarmDeadline : Option Time
  inhibitAlarm : Bool
  /-- TXKEY asserted -/
  txkey : Bool
  /-- ALARM asserted -/
  alarm : Bool
deriving DecidableEq, Repr

/-! ### Status line -/

/-- The status line transmitter (10.5). -/
structure StatusLine where
  /-- the record buffer -/
  buffer : List Byte
  /-- bits of the buffer sent so far -/
  sent : Nat
  /-- the level of STOUT; true is high -/
  stout : Bool
deriving DecidableEq, Repr

/-! ### The whole part -/

/-- The state of the part and the queue of waiting commands, first in, first out. -/
structure State where
  pending : List Instr
  timing : Timing
  params : Params
  carry : Vector CarryEntry 12
  station : Station
  loader : Loader
  band : InputPort
  coupler : InputPort
  rx : Vector RxSide 12
  tx : Vector TxSide 12
  composite : CompositePort
  tuning : List TuneEntry
  framers : Vector Framer 12
  builder : Builder
  survey : Survey
  neighbours : List Neighbour
  neighbourOverflow : Bool
  sources : List Source
  slots : Vector SlotEntry 64
  waits : Vector PathWait 12
  pinnedCollision : Bool
  silentRelease : Bool
  paths : Vector PathRec 12
  gov : Governor
  mon : Monitor
  lines : SiteLines
  status : StatusLine
deriving DecidableEq, Repr

/-! ### Why a step can stop -/

/-- The part has no fault: the manual names no command that stops it. The one constructor is raised by no meaning;
it keeps the type inhabited for the host's interface. Safe: it is never answered. -/
inductive Fault where
  /-- Raised by nothing. Safe. -/
  | neverRaised
deriving DecidableEq, Repr

/-- Why a command can be refused. -/
inductive Refusal where
  /-- Raised by exec's arm of a command that has no meaning yet. Safe: the run stops. No arm uses it now. -/
  | notModelled (mnemonic : String)
deriving DecidableEq, Repr

/-! ### Device reset -/

/-- A receive side at device reset (R9, R44, R147). The oscillator's phase is the model's choice. -/
def RxSide.atReset : RxSide :=
  { word := 0, phase := 0, sum := 0, count := 0, warmUp := true, latest := none }

/-- A transmit side at device reset (R14). The oscillator's phase, the tone, its phase and the channel are the model's
choice. -/
def TxSide.atReset : TxSide :=
  { word := 0, phase := 0, slotInUse := none, inUse := .silent, pendingSet := .silent, recordSlot := none
    tone := none, tonePhase := 0, channel := ⟨0, 0⟩ }

/-- A slot entry at device reset (R89). -/
def SlotEntry.atReset : SlotEntry :=
  { attr := .barred, own := .none, ownPath := none, ownPinned := false, ownDeadline := none, collision := none
    peers := [] }

/-- A path record at device reset (Table 7-1). -/
def PathRec.atReset : PathRec :=
  { state := .idle, event := none, selected := none, rxSlot := none, output := none, evalDeadline := none
    acquireDeadline := none, check := .notStarted, rxPending := false, txPending := false, cancelOwed := 0
    lastSourceFrame := none, lowCarrier := 0, holdoverDeadline := none, candidate := none, candidateCount := 0, acquired := false
    txFaultDeadline := none, monitorFails := 0, g := 1024, m := 0, shed := false, cond := .off }

/-- The part right after device reset, with no command waiting. -/
def State.reset : State :=
  { pending := []
    timing := { ms := 0, secs := 0, wholeSecond := false, tuningDue := false, statusDue := false }
    params := Params.default
    carry := Vector.replicate 12 CarryEntry.disabled
    station := .loading
    loader := { reading := true, image := [], retryDeadline := none, endOfListening := none
                configInvalid := false, configClamped := false }
    band := { alignment := 0, presented := ⟨0, 0⟩ }
    coupler := { alignment := 0, presented := ⟨0, 0⟩ }
    rx := Vector.replicate 12 RxSide.atReset
    tx := Vector.replicate 12 TxSide.atReset
    composite := { clips := 0, out := ⟨0, 0⟩ }
    tuning := []
    framers := Vector.replicate 12 Framer.cleared
    builder := { frameTimer := 0
                 paths := Vector.replicate 12
                   { snapshot := none, bitPosition := 0, keptDepth := 15, abandoned := false } }
    survey := { rx := RxSide.atReset, framer := Framer.cleared, dwell := none, scanPosition := 0, requests := [] }
    neighbours := []
    neighbourOverflow := false
    sources := []
    slots := Vector.replicate 64 SlotEntry.atReset
    waits := Vector.replicate 12 { freed := false, retryDeadline := none }
    pinnedCollision := false
    silentRelease := false
    paths := Vector.replicate 12 PathRec.atReset
    gov := { backoff := 256, cap := 256, evaluationCap := 256, restoreCandidate := none, restoreCount := 0
             amplitudes := Vector.replicate 12 0, faultHistory := [], lastMuteEnd := none, muteDeadline := none
             lockoutDeadline := none, graceDeadline := none, site := .silent, lockoutFlag := false }
    mon := { rx := RxSide.atReset, framer := Framer.cleared, visitPosition := 0, visit := none
             verdicts := Vector.replicate 12 none, failureLog := [], chainFault := false }
    lines := { permit := false, keyHoldDeadline := none, inhibitAlarmDeadline := none, inhibitAlarm := false
               txkey := false, alarm := false }
    status := { buffer := [], sent := 0, stout := true } }

end Sys2Proof.Machine
end

