-- ==== Sys2Proof/Machine/Ops.lean ====
section
/-! DEFINITION. The named operations that the families share: station time and deadlines (0.7, R158), slot words and the
guard distance (R1, 0.7), bytes and the two CRCs (R34, R159), and one reader and one writer for each table of State. -/

namespace Sys2Proof.Machine

open Sys2Proof

/-! ### Station time (0.7 Time, R158) -/

/-- A deadline is reached when the signed 32-bit difference of now minus the deadline is zero or positive. -/
def reached (now deadline : Time) : Bool := decide (0 ≤ (now - deadline).toInt)

/-- An optional deadline is present and reached. -/
def dueAt (now : Time) : Option Time → Bool
  | none => false
  | some d => reached now d

/-- Now minus a past time, in ms: the wrapped 32-bit difference. -/
def age (now past : Time) : Nat := (now - past).toNat

/-- Now plus an interval of n ms, wrapping with the count. -/
def later (now : Time) (n : Nat) : Time := now + BitVec.ofNat 32 n

/-- Now plus an interval of n s. -/
def laterS (now : Time) (n : Nat) : Time := later now (1000 * n)

/-- Station time (R158). -/
def State.now (s : State) : Time := s.timing.ms

/-! ### Vectors -/

/-- One entry of a vector changed. -/
def upd {α : Type} {n : Nat} (v : Vector α n) (i : Fin n) (f : α → α) : Vector α n := v.set i.val (f v[i.val]) i.isLt

/-- Every entry of a vector changed, each with its index. -/
def updAll {α : Type} {n : Nat} (v : Vector α n) (f : Fin n → α → α) : Vector α n :=
  Vector.ofFn (fun i => f i v[i.val])

/-! ### Slots (R1, 0.7) -/

/-- The tuning word of a slot: (k − 32) × 52,428,800 modulo 2^32 (R1). -/
def slotWord (k : Slot) : TuningWord := BitVec.ofInt 32 (((k.val : Int) - 32) * 52428800)

/-- The slot whose word a side holds (R42). Every word a side is given is a slot's; slot 32 stands for any other. -/
def heardSlot (w : TuningWord) : Slot := ((indices 64).find? (fun k => slotWord k == w)).getD 32

/-- Two slots lie within the guard distance of each other (0.7 Slots and frequencies). -/
def withinGuard (g : Nat) (a b : Slot) : Bool := decide (a.val ≤ b.val + g) && decide (b.val ≤ a.val + g)

/-- The distance of two slots in slot numbers. -/
def slotDistance (a b : Slot) : Nat := (a.val - b.val) + (b.val - a.val)

/-- The slot after k, and slot 0 after slot 63 (R47). -/
def nextSlot (k : Slot) : Slot := if h : k.val + 1 < 64 then ⟨k.val + 1, h⟩ else 0

/-- The path after i, and path 0 after path 11 (R148). -/
def nextPath (i : PathIx) : PathIx := if h : i.val + 1 < 12 then ⟨i.val + 1, h⟩ else 0

/-- All 64 slots in ascending order from k on, going on at slot 0 after slot 63 (R47). -/
def slotsFrom (k : Slot) : List Slot :=
  (indices 64).filter (fun j => decide (k.val ≤ j.val)) ++ (indices 64).filter (fun j => decide (j.val < k.val))

/-- All 12 paths in ascending order from i on, going on at path 0 after path 11 (R148). -/
def pathsFrom (i : PathIx) : List PathIx :=
  (indices 12).filter (fun j => decide (i.val ≤ j.val)) ++ (indices 12).filter (fun j => decide (j.val < i.val))

/-! ### Bytes and CRCs -/

/-- The byte of value n modulo 256. -/
def byteOf (n : Nat) : Byte := BitVec.ofNat 8 n

/-- A 16-bit value as two bytes, MSB first (0.7 Byte layouts). -/
def bytes16 (n : Nat) : List Byte := [byteOf (n / 256), byteOf n]

/-- A 32-bit value as four bytes, MSB first. -/
def bytes32 (n : Nat) : List Byte := [byteOf (n / 16777216), byteOf (n / 65536), byteOf (n / 256), byteOf n]

/-- Byte k of a list, 0 past its end. -/
def byteAt (bs : List Byte) (k : Nat) : Byte := bs.getD k 0

/-- Two bytes read MSB first. -/
def word16 (hi lo : Byte) : BitVec 16 := hi ++ lo

/-- The two-byte field at offset k. -/
def field16 (bs : List Byte) (k : Nat) : Nat := (byteAt bs k).toNat * 256 + (byteAt bs (k + 1)).toNat

/-- The four-byte field at offset k. -/
def field32 (bs : List Byte) (k : Nat) : Nat := field16 bs k * 65536 + field16 bs (k + 2)

/-- The bit positions of a byte from bit 7 to bit 0. -/
def bitsDown : List Nat := [7, 6, 5, 4, 3, 2, 1, 0]

/-- One bit folded into the tag CRC (R34): x^8 + x^5 + x^4 + x^2 + 1. -/
def crc8Bit (acc : Byte) (bit : Bool) : Byte :=
  let shifted := acc <<< 1
  if acc.getLsbD 7 == bit then shifted else shifted ^^^ 0x35#8

/-- One byte folded into the tag CRC, from its bit 7 to its bit 0 (R34). -/
def crc8Byte (acc b : Byte) : Byte := bitsDown.foldl (fun a k => crc8Bit a (b.getLsbD k)) acc

/-- The tag CRC of a run of bytes (R34). -/
def crc8 (bs : List Byte) : Byte := bs.foldl crc8Byte 0

/-- One bit folded into the CRC-16 (R159): x^16 + x^12 + x^5 + 1. -/
def crc16Bit (acc : BitVec 16) (bit : Bool) : BitVec 16 :=
  let shifted := acc <<< 1
  if acc.getLsbD 15 == bit then shifted else shifted ^^^ 0x1021#16

/-- One byte folded into the CRC-16 (R159). -/
def crc16Byte (acc : BitVec 16) (b : Byte) : BitVec 16 := bitsDown.foldl (fun a k => crc16Bit a (b.getLsbD k)) acc

/-- The CRC-16 of a run of bytes, initial value 0xFFFF (R159). -/
def crc16 (bs : List Byte) : BitVec 16 := bs.foldl crc16Byte 0xFFFF#16

/-! ### One reader and one writer for each table -/

/-- The record of a path. -/
def State.path (s : State) (i : PathIx) : PathRec := s.paths[i.val]

/-- The record of a path changed. -/
def State.modPath (s : State) (i : PathIx) (f : PathRec → PathRec) : State := { s with paths := upd s.paths i f }

/-- The entry of a slot. -/
def State.slot (s : State) (k : Slot) : SlotEntry := s.slots[k.val]

/-- The entry of a slot changed. -/
def State.modSlot (s : State) (k : Slot) (f : SlotEntry → SlotEntry) : State := { s with slots := upd s.slots k f }

/-- What the slot claim table keeps for a path. -/
def State.wait (s : State) (i : PathIx) : PathWait := s.waits[i.val]

/-- What the slot claim table keeps for a path, changed. -/
def State.modWait (s : State) (i : PathIx) (f : PathWait → PathWait) : State := { s with waits := upd s.waits i f }

/-- The receive side of a path. -/
def State.rxSide (s : State) (i : PathIx) : RxSide := s.rx[i.val]

/-- The receive side of a path changed. -/
def State.modRx (s : State) (i : PathIx) (f : RxSide → RxSide) : State := { s with rx := upd s.rx i f }

/-- The transmit side of a path. -/
def State.txSide (s : State) (i : PathIx) : TxSide := s.tx[i.val]

/-- The transmit side of a path changed. -/
def State.modTx (s : State) (i : PathIx) (f : TxSide → TxSide) : State := { s with tx := upd s.tx i f }

/-- The carry entry of a path (R161: carry entry c is the carry entry of path c). -/
def State.carryOf (s : State) (i : PathIx) : CarryEntry := s.carry[i.val]

/-- A tag framer. -/
def State.framer (s : State) : FramerIx → Framer
  | .path i => s.framers[i.val]
  | .survey => s.survey.framer
  | .monitor => s.mon.framer

/-- A tag framer changed. -/
def State.modFramer (s : State) (ix : FramerIx) (f : Framer → Framer) : State :=
  match ix with
  | .path i => { s with framers := upd s.framers i f }
  | .survey => { s with survey := { s.survey with framer := f s.survey.framer } }
  | .monitor => { s with mon := { s.mon with framer := f s.mon.framer } }

/-- The receive side whose tag line feeds a framer. -/
def State.rxOf (s : State) : FramerIx → RxSide
  | .path i => s.rxSide i
  | .survey => s.survey.rx
  | .monitor => s.mon.rx

/-- What the tag builder keeps for a path. -/
def State.builderPath (s : State) (i : PathIx) : BuilderPath := s.builder.paths[i.val]

/-- What the tag builder keeps for a path, changed. -/
def State.modBuilder (s : State) (i : PathIx) (f : BuilderPath → BuilderPath) : State :=
  { s with builder := { s.builder with paths := upd s.builder.paths i f } }

/-- The latest verdict of a path (9.3). -/
def State.verdict (s : State) (i : PathIx) : Option Verdict := s.mon.verdicts[i.val]

/-- The latest verdict of a path written. -/
def State.setVerdict (s : State) (i : PathIx) (v : Option Verdict) : State :=
  { s with mon := { s.mon with verdicts := upd s.mon.verdicts i (fun _ => v) } }

/-- The nominal amplitude A of a path at the latest evaluation (8.2). -/
def State.amplitude (s : State) (i : PathIx) : Nat := s.gov.amplitudes[i.val]

/-- A step done for every path in ascending index. -/
def forPaths (f : PathIx → State → State) (s : State) : State := (indices 12).foldl (fun t i => f i t) s

/-- A step done for every slot in ascending number. -/
def forSlots (f : Slot → State → State) (s : State) : State := (indices 64).foldl (fun t k => f k t) s

/-- A receive side given a new word: the block that begins is a warm-up block (R8, R48, R149). -/
def RxSide.retune (w : TuningWord) (r : RxSide) : RxSide := { r with word := w, warmUp := true, latest := none }

/-- The block report of a receive side (R7): none for a warm-up block, else M. -/
def RxSide.report (r : RxSide) : Option Nat := if r.warmUp then none else some (r.sum / 256)

/-- A receive side after its block report: the accumulator at 0 and the warm-up flag clear (R7). -/
def RxSide.close (r : RxSide) : RxSide :=
  { r with sum := 0, count := 0, warmUp := false
           latest := match r.report with | some m => some m | none => r.latest }

end Sys2Proof.Machine
end

