-- ==== Sys2Proof/WellFormed.lean ====
section
/-! DEFINITION. Which commands are well formed. Every operand but one is well formed by its type (a path below
12, a slot below 64, a byte, a vector of 12 samples). The order of a block boundary must name each of its own actions
once; the steps that stand among them are free. -/

namespace Sys2Proof

/-- An order of a block boundary names each of its own actions once, among any steps. -/
def orderOk (order : List BoundaryAct) : Bool := (order.filter BoundaryAct.isOwn).isPerm BoundaryAct.all

/-- The commands a sender may give. -/
def Instr.wellFormed : Instr → Bool
  | .blockBoundary order => orderOk order
  | .deviceReset | .loadEnd | .configRetry | .endOfListening | .restore | .tuningEntryApplied => true
  | .breakRecognised _ | .leadTimeout _ | .byteGapTimeout _ | .framerOutcome _ _ | .frameStart => true
  | .neighbourSweep _ | .sourceSweep | .peerClaimExpiry | .holdOffEnd _ | .collisionExpiry _ => true
  | .claimRetryDeadline _ | .pathEvaluation _ | .acquireTimeout _ | .carrierCheckFail _ => true
  | .lowCarrierLoss _ | .tagLoss _ | .holdoverExpired _ | .txpermitChange _ | .muteEnd => true
  | .lockoutEnd | .faultHistoryExpiry | .graceDeadline | .txRestored _ | .keyHoldExpiry => true
  | .inhibitAlarm | .failureLogExpiry | .visitStart | .visitTimeout | .dwellStart => true
  | .dwellCheckClose | .dwellDeadline | .statusRecord | .bandInputSample _ _ _ => true
  | .couplerInputSample _ _ | .compositeSample _ | .tagLineSample _ _ | .configByteRead _ => true
  | .statusBitSent => true

end Sys2Proof
end

