-- ==== Sys2Proof/Machine/Operands.lean ====
section
/-! DEFINITION. What the operands of the commands stand for: sample magnitudes and scaled samples (R6, R11, R15), the
order of a block boundary's free actions, the fields of a tag frame (Table 2-3) and the tag-line sample (R5). -/

namespace Sys2Proof.Machine

open Sys2Proof

/-! ### Samples -/

/-- The magnitude of one part of a sample. -/
def partMagnitude (x : BitVec 16) : Nat := x.toInt.natAbs

/-- The sample magnitude of R6, capped at 32767. -/
def sampleMagnitude (x : IQ) : Nat :=
  let a := partMagnitude x.i
  let b := partMagnitude x.q
  min 32767 (max a b + min a b / 2)

/-- A programme sample's part at a programme gain: the product divided by 1024 toward zero (R11). -/
def scalePart (gain : Nat) (x : BitVec 16) : Int := (x.toInt * (gain : Int)).tdiv 1024

/-- The channel of a transmit side that takes a programme sample (R11): scaled while FULL, empty otherwise. -/
def scaledSample (set : TxSet) (x : IQ) : WideIQ :=
  match set.cond with
  | .full => ⟨scalePart set.gain x.i, scalePart set.gain x.q⟩
  | .tagOnly => ⟨0, 0⟩
  | .off => ⟨0, 0⟩

/-- A sum saturated to 16 bits (R15). -/
def saturate16 (x : Int) : BitVec 16 := BitVec.ofInt 16 (max (-32768) (min 32767 x))

/-- A sum lies outside the range of 16 bits (R15). -/
def outside16 (x : Int) : Bool := decide (x < -32768) || decide (32767 < x)

/-- The samples a block holds at the band input and at the composite output (1.3). -/
def samplesPerBlock : Nat := 16384

/-- A channel sample ends at every 64th sample (R4). R4 fixes one in 64, aligned with the block; that it is the last of
each group of 64 is the model's choice (log entry 18). -/
def endsChannelSample (alignment : Nat) : Bool := alignment % 64 == 63

/-! ### The order of a block boundary -/

/-- The order a block boundary takes its free actions in: the command's own when it names each once. -/
def boundaryOrder (order : List BoundaryAct) : List BoundaryAct :=
  if orderOk order then order else BoundaryAct.all

/-! ### Tag-line samples -/

/-- The tag-line sample that reaches a framer: mark through a warm-up block (R5). -/
def presentedTone (warmUp : Bool) (tone : Tone) : Tone := if warmUp then .mark else tone

/-! ### The fields of a tag frame (Table 2-3) -/

/-- A claim of a frame's claim list. -/
structure Claim where
  slot : Slot
  phase : ClaimPhase
  pinned : Bool
deriving DecidableEq, Repr

/-- The fields of a good frame. -/
structure Frame where
  network : NetworkId
  openFlag : Bool
  absent : Bool
  station : StationId
  programme : ProgrammeId
  depth : Nat
  upstream : StationId
  claims : List Claim
deriving DecidableEq, Repr

/-- The claim count n in a frame's byte 2. -/
def claimCount (bs : List Byte) : Nat := (byteAt bs 2).toNat % 16

/-- The slot in bits 5 to 0 of a claim byte. -/
def claimSlot (b : Byte) : Slot := ⟨b.toNat % 64, Nat.mod_lt _ (by decide)⟩

/-- One claim byte read. -/
def readClaim (b : Byte) : Claim :=
  { slot := claimSlot b, phase := if b.getLsbD 6 then .held else .intent, pinned := b.getLsbD 7 }

/-- One claim as a claim byte. -/
def claimByte (pinned held : Bool) (k : Slot) : Byte :=
  byteOf ((if pinned then 128 else 0) + (if held then 64 else 0) + k.val)

/-- The fields of a frame's bytes. -/
def readFrame (bs : List Byte) : Frame :=
  { network := byteAt bs 1
    openFlag := (byteAt bs 2).getLsbD 7
    absent := (byteAt bs 2).getLsbD 6
    station := word16 (byteAt bs 3) (byteAt bs 4)
    programme := word16 (byteAt bs 5) (byteAt bs 6)
    depth := (byteAt bs 7).toNat / 16
    upstream := word16 (byteAt bs 8) (byteAt bs 9)
    claims := ((bs.drop 10).take (claimCount bs)).map readClaim }

/-- The upstream station a source entry takes from a frame: absent at hop depth 0 (R69, R71). -/
def Frame.upstreamOf (f : Frame) : Option StationId := if f.depth == 0 then none else some f.upstream

end Sys2Proof.Machine
end

