-- ==== Sys2Proof/Machine/Flags.lean ====
section
/-! DEFINITION. The derived levels and flags: the transmit condition of a path (R126), TXKEY (R156), ALARM (R157), the
site flags (Table 10-5), and the acts that follow a change of a condition or of an output slot (R150, R152). -/

namespace Sys2Proof.Machine

open Sys2Proof

/-- The transmit condition of a path (R126). -/
def condOf (site : Site) (p : PathRec) : Cond :=
  if p.txFaultDeadline.isSome || site != .transmitting then .off
  else match p.state with
    | .on => if p.shed then .tagOnly else .full
    | .claiming => .tagOnly
    | .switching => .tagOnly
    | .holdover => .tagOnly
    | .idle => .off
    | .seeking => .off
    | .acquiring => .off
    | .waitSlot => .off

/-- The path's condition is TAG_ONLY or FULL. -/
def State.onAir (s : State) (i : PathIx) : Bool := (s.path i).cond != .off

/-- At least one path's condition is TAG_ONLY or FULL (R156). -/
def State.anyOnAir (s : State) : Bool := (indices 12).any s.onAir

/-- The ALARM level (R157). -/
def alarmOf (s : State) : Bool :=
  (s.station == .quiet) || (s.gov.site == .lockedOut) || s.mon.chainFault || s.lines.inhibitAlarm

/-- The site lines derive ALARM again (R157). -/
def alarmUpdate (s : State) : State := { s with lines := { s.lines with alarm := alarmOf s } }

/-- TXKEY follows the derived conditions (R156): asserted while a path is on the air, and held for 10 s after the last
one has turned OFF. -/
def keyUpdate (s : State) : State :=
  if s.anyOnAir then { s with lines := { s.lines with txkey := true, keyHoldDeadline := none } }
  else if s.lines.txkey && s.lines.keyHoldDeadline.isNone then
    { s with lines := { s.lines with keyHoldDeadline := some (later s.now 10000) } }
  else s

/-- A monitor visit in progress on a path ends with no verdict (R150). -/
def cutVisitOf (i : PathIx) (s : State) : State :=
  match s.mon.visit with
  | none => s
  | some v => if v.path == i then { s with mon := { s.mon with visit := none } } else s

/-- A monitor visit in progress ends with no verdict (R150). -/
def cutVisit (s : State) : State := { s with mon := { s.mon with visit := none } }

/-- A path's condition turns to c: the visit of that path is cut (R150), its latest verdict becomes absent at OFF
(R152), and the key follows (R156). -/
def turnCond (i : PathIx) (c : Cond) (s : State) : State :=
  let s1 := cutVisitOf i (s.modPath i (fun p => { p with cond := c }))
  let s2 := if c == .off then s1.setVerdict i none else s1
  keyUpdate s2

/-- The path controller derives a path's condition again (R126). -/
def refreshPath (i : PathIx) (s : State) : State :=
  let c := condOf s.gov.site (s.path i)
  if c == (s.path i).cond then s else turnCond i c s

/-- The path controller derives every path's condition again (R139). -/
def refreshAll (s : State) : State := forPaths refreshPath s

/-- A path goes to a state. Leaving ON clears the hysteresis candidate and count (R87); the condition is derived
again (R126). -/
def movePath (i : PathIx) (st : PathState) (s : State) : State :=
  refreshPath i (s.modPath i (fun p =>
    if p.state == .on && st != .on then { p with state := st, candidate := none, candidateCount := 0 }
    else { p with state := st }))

/-- The last event code of a path is written (R127). -/
def recordEvent (i : PathIx) (e : PathEvent) (s : State) : State := s.modPath i (fun p => { p with event := some e })

/-- A path's output slot is written. A change cuts a visit of the path (R150). -/
def setOutput (i : PathIx) (o : Option Slot) (s : State) : State :=
  let s1 := s.modPath i (fun p => { p with output := o })
  if (s.path i).output == o then s1 else cutVisitOf i s1

/-- Claiming is permitted (R95). -/
def State.claimingPermitted (s : State) : Bool := (s.station == .running) && (s.gov.site == .transmitting)

/-- The CLIP_FAULT site flag (R142). -/
def State.clipFault (s : State) : Bool := !s.gov.faultHistory.isEmpty

/-- The INHIBIT site flag (R155). -/
def State.inhibitFlag (s : State) : Bool := s.gov.site == .inhibited

/-- One flag at its bit of the site flag word. -/
def flagBit (b : Bool) (k : Nat) : Nat := if b then 2 ^ k else 0

/-- The site flag word of the status record (Table 10-5, bytes 12 and 13). -/
def siteFlags (s : State) : Nat :=
  flagBit s.loader.configInvalid 0 + flagBit s.loader.configClamped 1 + flagBit s.neighbourOverflow 2 +
  flagBit s.pinnedCollision 3 + flagBit s.mon.chainFault 4 + flagBit s.clipFault 5 + flagBit s.gov.lockoutFlag 6 +
  flagBit s.inhibitFlag 7 + flagBit s.silentRelease 8

end Sys2Proof.Machine
end

