-- ==== Sys2Proof/Machine/Tuning.lean ====
section
/-! DEFINITION. The tuning queue (1.7) and the command TUNING_ENTRY_APPLIED (R18, R19). -/

namespace Sys2Proof.Machine

open Sys2Proof

/-- The most entries the tuning queue holds (Table 0-5). -/
def tuningCapacity : Nat := 4

/-- An entry is for a path and side. -/
def TuneEntry.isFor (i : PathIx) (side : Side) (e : TuneEntry) : Bool := (e.path == i) && (e.side == side)

/-- The queue after a tuning request: replaced in place, appended, or refused when full (R17). -/
def tuneInto (i : PathIx) (side : Side) (k : Slot) (q : List TuneEntry) : List TuneEntry :=
  if q.any (TuneEntry.isFor i side) then q.map (fun e => if e.isFor i side then { e with slot := k } else e)
  else if q.length < tuningCapacity then q ++ [⟨i, side, k⟩]
  else q

/-- A tuning request (R17). -/
def tuneRequest (i : PathIx) (side : Side) (k : Slot) (s : State) : State :=
  { s with tuning := tuneInto i side k s.tuning }

/-- A cancellation names an entry: it is of the path, and of the side when a side is named (R20). -/
def TuneEntry.isNamed (i : PathIx) (side : Option Side) (e : TuneEntry) : Bool :=
  match side with
  | none => e.path == i
  | some d => e.isFor i d

/-- A cancellation of a path's entries, of one side when a side is named (R20). -/
def tuneCancel (i : PathIx) (side : Option Side) (s : State) : State :=
  { s with tuning := s.tuning.filter (fun e => !e.isNamed i side) }

/-- The queue holds an entry of a path and side (R115). -/
def tuneQueued (i : PathIx) (side : Side) (s : State) : Bool := s.tuning.any (TuneEntry.isFor i side)

/-- The check of a head entry (R18). -/
def tuneCheck (e : TuneEntry) (s : State) : Bool :=
  match e.side with
  | .receive => (s.path e.path).rxSlot == some e.slot
  | .transmit => ((s.slot e.slot).own != .none) && ((s.slot e.slot).ownPath == some e.path)

/-- A path has an acquisition running (7.4). -/
def acquiring (st : PathState) : Bool := (st == .acquiring) || (st == .switching)

/-- A receive entry applied: the new word and a warm-up block, the framer to HUNT (R8), receive pending cleared (R115)
and the carrier check of an acquisition started (R116). -/
def applyReceive (i : PathIx) (k : Slot) (s : State) : State :=
  ((s.modRx i (RxSide.retune (slotWord k))).modFramer (.path i) (fun _ => Framer.cleared)).modPath i
    (fun p => { p with rxPending := false, check := if acquiring p.state then .warmUp else p.check })

/-- A transmit entry applied: the new word and slot in use (R14), transmit pending cleared (R115). -/
def applyTransmit (i : PathIx) (k : Slot) (s : State) : State :=
  (s.modTx i (fun t => { t with word := slotWord k, slotInUse := some k })).modPath i
    (fun p => { p with txPending := false })

/-- An entry that has passed its check is applied (R18). -/
def applyEntry (e : TuneEntry) (s : State) : State :=
  match e.side with
  | .receive => applyReceive e.path e.slot s
  | .transmit => applyTransmit e.path e.slot s

/-- The boundary takes the head of the tuning queue: it leaves the queue, and it is applied when it passes (R18) or
dropped with every other entry of its path when it fails (R19). -/
def takeTuningHead (s : State) : State :=
  match s.tuning with
  | [] => s
  | e :: rest =>
    if tuneCheck e s then applyEntry e { s with tuning := rest }
    else { s with tuning := rest.filter (fun x => x.path != e.path) }

/-- An entry is named by a cancellation that falls due behind the head just taken. -/
def cancelDue (s : State) (e : TuneEntry) : Bool := (e.side == .transmit) && ((s.path e.path).cancelOwed == 1)

/-- The cancellations that are owed come one head nearer, and those that fall due are taken: the transmit entries of their
paths leave the queue (R19, R20). -/
def takeCancels (s : State) : State :=
  { s with
    tuning := s.tuning.filter (fun e => !cancelDue s e)
    paths := updAll s.paths (fun _ p => { p with cancelOwed := p.cancelOwed - 1 }) }

/-- The cancellation that a path owes is taken. -/
def settleCancel (i : PathIx) (s : State) : State :=
  if (s.path i).cancelOwed = 0 then s
  else (tuneCancel i (some .transmit) s).modPath i (fun p => { p with cancelOwed := 0 })

/-- TUNING_ENTRY_APPLIED (R18): one head is taken at a block boundary and no more, and then the cancellations that fall due
behind it (R19). -/
def tuningEntryApplied (s : State) : State :=
  if s.timing.tuningDue then takeCancels (takeTuningHead { s with timing := { s.timing with tuningDue := false } })
  else s

end Sys2Proof.Machine
end

