-- ==== Sys2Proof/Machine/Claims.lean ====
section
/-! DEFINITION. The slot claim table (chapter 6): eligibility and the guard check, peer claims and their re-tests,
choose-and-claim, outcomes handed to the path controller within the table's act, freed notices and releases; and the
commands PEER_CLAIM_EXPIRY, HOLD_OFF_END, COLLISION_EXPIRY and CLAIM_RETRY_DEADLINE. -/

namespace Sys2Proof.Machine

open Sys2Proof

/-! ### Eligibility (R94) -/

/-- Some path record holds a receive slot within the guard distance of slot k (R94 test 4). -/
def guarded (s : State) (k : Slot) : Bool :=
  (indices 12).any (fun i =>
    match (s.path i).rxSlot with
    | none => false
    | some r => withinGuard s.params.guardDistance r k)

/-- The attribute allows an own claim (Table 1-2). -/
def mayTransmit (a : SlotAttr) : Bool := (a == .transmit) || (a == .both)

/-- A slot is eligible for an own claim (R94). -/
def eligible (s : State) (k : Slot) : Bool :=
  mayTransmit (s.slot k).attr && ((s.slot k).own == .none) && (s.slot k).peers.isEmpty && !guarded s k

/-- A path's preferred slot passes the test of a pinned claim (R99). -/
def pinnedEligible (s : State) (k : Slot) : Bool :=
  mayTransmit (s.slot k).attr && ((s.slot k).own == .none) && !(s.slot k).peers.any (fun p => p.pinned) &&
  !guarded s k

/-- Some slot is eligible. -/
def anyEligible (s : State) : Bool := (indices 64).any (eligible s)

/-- Of two candidate slots, the later one is taken only when it is nearer to the preferred slot (R95). -/
def nearerSlot (preferred : Slot) (best : Option Slot) (k : Slot) : Option Slot :=
  match best with
  | none => some k
  | some b => if slotDistance k preferred < slotDistance b preferred then some k else some b

/-- The eligible slot nearest to the preferred slot, the lower-numbered of two at equal distance (R95). -/
def nearestEligible (s : State) (preferred : Slot) : Option Slot :=
  ((indices 64).filter (eligible s)).foldl (nearerSlot preferred) none

/-- Some slot names the path as its own path (R95). -/
def holdsSlot (s : State) (i : PathIx) : Bool := (indices 64).any (fun k => (s.slot k).ownPath == some i)

/-! ### Flags and marks of the table -/

/-- A slot is in a pinned collision (R102). -/
def SlotEntry.pinnedClash (e : SlotEntry) : Bool := (e.own == .held) && e.ownPinned && e.peers.any (fun p => p.pinned)

/-- The table derives PINNED_COLLISION again (R102). -/
def pinnedUpdate (s : State) : State :=
  { s with pinnedCollision := (indices 64).any (fun k => (s.slot k).pinnedClash) }

/-- A freed notice to every path in WAIT_SLOT (R103, R104). -/
def noticeWaiting (s : State) : State :=
  forPaths (fun i t => if (t.path i).state == .waitSlot then t.modWait i (fun w => { w with freed := true }) else t) s

/-- Some slot is eligible after an event that was not eligible before it (R103). -/
def newlyEligible (before after : State) : Bool :=
  (indices 64).any (fun k => eligible after k && !eligible before k)

/-- The freed notices of an event of the table (R103). -/
def noticeFreed (before after : State) : State :=
  if after.claimingPermitted && newlyEligible before after then noticeWaiting after else after

/-! ### Outcomes handed to a path (R122, R123) -/

/-- The state in which a lost slot leaves a path (R122, R123). -/
def slotLostState : PathState → PathState
  | .claiming => .waitSlot
  | .on => .waitSlot
  | .switching => .acquiring
  | .holdover => .seeking
  | .idle => .idle
  | .seeking => .seeking
  | .acquiring => .acquiring
  | .waitSlot => .waitSlot

/-- A path's output slot is cleared, with transmit pending (R122). -/
def clearOutput (i : PathIx) (s : State) : State :=
  (setOutput i none s).modPath i (fun p => { p with txPending := false })

/-- A path's output slot is cleared, with transmit pending and the path's transmit entries (R115, R122). -/
def dropOutput (i : PathIx) (s : State) : State := tuneCancel i (some .transmit) (clearOutput i s)

/-- A path loses its output slot to the slot claim table. Its transmit entries leave the queue within the act (R122), or
the cancellation is owed for some heads more and they stand until it is taken or one of them fails at the head (R19, R98;
log entry 21). -/
def loseOutput (cancelAfter : Nat) (i : PathIx) (s : State) : State :=
  if cancelAfter = 0 then dropOutput i s else (clearOutput i s).modPath i (fun p => { p with cancelOwed := cancelAfter })

/-- A path takes CLAIM_WITHDRAWN, SLOT_COLLISION or SLOT_RELEASED (R122, R123). A holdover deadline becomes absent
when the path leaves its slot (R124). -/
def slotLost (cancelAfter : Nat) (i : PathIx) (e : PathEvent) (s : State) : State :=
  movePath i (slotLostState (s.path i).state)
    (recordEvent i e ((loseOutput cancelAfter i s).modPath i (fun p => { p with holdoverDeadline := none })))

/-- A slot's own claim is removed; its attribute and its peer records stay (R98, R101, R107, R108). -/
def SlotEntry.cleared (e : SlotEntry) : SlotEntry :=
  { e with own := .none, ownPath := none, ownPinned := false, ownDeadline := none, collision := none }

/-- A path has lost its slot to a peer: its freed mark is cleared and its retry deadline set (R105). -/
def startRetry (i : PathIx) (s : State) : State :=
  s.modWait i (fun _ => { freed := false, retryDeadline := some (laterS s.now s.params.claimHoldOff) })

/-- An own claim is lost to a peer: the entry is cleared, its path takes the outcome and its retry deadline is set. -/
def loseToPeer (cancelAfter : Nat) (k : Slot) (e : PathEvent) (s : State) : State :=
  let s1 := s.modSlot k SlotEntry.cleared
  match (s.slot k).ownPath with
  | none => s1
  | some i => startRetry i (slotLost cancelAfter i e s1)

/-! ### Re-tests of a slot (R98, R100) -/

/-- A peer record withdraws an own INTENT (R98). -/
def Peer.withdraws (own : StationId) (p : Peer) : Bool := p.pinned || (p.phase == .held) || decide (p.station < own)

/-- A contending record (R100). -/
def Peer.contends (p : Peer) : Bool := (p.phase == .held) || p.pinned

/-- A slot is in collision (R100). -/
def SlotEntry.inCollision (e : SlotEntry) : Bool :=
  (e.own == .held) && !e.ownPinned && e.peers.any Peer.contends

/-- The collision timing of a slot starts, stands or stops (R100). -/
def collisionTest (k : Slot) (s : State) : State :=
  s.modSlot k (fun e =>
    if e.inCollision then
      match e.collision with
      | none => { e with collision := some (laterS s.now s.params.collisionPersistence) }
      | some _ => e
    else { e with collision := none })

/-- A slot whose peer list has changed is tested again: withdrawal of an INTENT (R98), collision timing of a HELD
claim (R100). -/
def retestSlot (cancelAfter : Nat) (k : Slot) (s : State) : State :=
  match (s.slot k).own with
  | .none => s
  | .intent =>
    if (s.slot k).peers.any (Peer.withdraws s.params.stationId) then loseToPeer cancelAfter k .claimWithdrawn s else s
  | .held => collisionTest k s

/-- Every slot whose peer list differs from what it was is tested again. -/
def retestChanged (cancelAfter : Nat) (before after : State) : State :=
  forSlots (fun k t => if (after.slot k).peers == (before.slot k).peers then t else retestSlot cancelAfter k t) after

/-- An event that rewrites peer lists, with the re-tests and the freed notices that follow it (R91 to R93). -/
def peerEvent (cancelAfter : Nat) (f : Slot → List Peer → List Peer) (s : State) : State :=
  let s1 := { s with slots := updAll s.slots (fun k e => { e with peers := f k e.peers }) }
  noticeFreed s (pinnedUpdate (retestChanged cancelAfter s s1))

/-! ### Choose-and-claim (R95, R96, R99, R121) -/

/-- The marks of a path after a claim is taken (R95), with SILENT_RELEASE clear (R108). -/
def claimMarks (i : PathIx) (s : State) : State :=
  { (s.modWait i (fun _ => { freed := false, retryDeadline := none })) with silentRelease := false }

/-- The path records its new output slot and asks for its transmit word (R121). A cancellation that it still owes comes
before its request. -/
def takeOutput (i : PathIx) (k : Slot) (s : State) : State :=
  tuneRequest i .transmit k ((setOutput i (some k) (settleCancel i s)).modPath i (fun p => { p with txPending := true }))

/-- An INTENT taken on slot k (R96): the path goes to CLAIMING (R121). -/
def takeIntent (i : PathIx) (k : Slot) (s : State) : State :=
  let s1 := s.modSlot k (fun e =>
    { e with own := .intent, ownPath := some i, ownPinned := false, collision := none
             ownDeadline := some (laterS s.now s.params.claimHoldOff) })
  pinnedUpdate (movePath i .claiming (takeOutput i k (claimMarks i s1)))

/-- A pinned claim taken on slot k in one step (R99): the path goes to ON with CLAIM_WON (R121). -/
def takePinned (i : PathIx) (k : Slot) (s : State) : State :=
  let s1 := s.modSlot k (fun e =>
    { e with own := .held, ownPath := some i, ownPinned := true, ownDeadline := none, collision := none })
  pinnedUpdate (movePath i .on (recordEvent i .claimWon (takeOutput i k (claimMarks i s1))))

/-- A refused request clears the path's freed mark (R95). -/
def refuseClaim (i : PathIx) (s : State) : State := s.modWait i (fun w => { w with freed := false })

/-- A choose-and-claim request of a path in WAIT_SLOT (R95). -/
def chooseAndClaim (i : PathIx) (s : State) : State :=
  if !s.claimingPermitted then refuseClaim i s
  else if holdsSlot s i then refuseClaim i s
  else if (s.carryOf i).pinned && pinnedEligible s (s.carryOf i).preferred then
    takePinned i (s.carryOf i).preferred s
  else
    match nearestEligible s (s.carryOf i).preferred with
    | some k => takeIntent i k s
    | none => refuseClaim i s

/-- The requests of the marked paths in WAIT_SLOT, in ascending path index (R121). -/
def serveMarks (s : State) : State :=
  forPaths (fun i t => if (t.wait i).freed && ((t.path i).state == .waitSlot) then chooseAndClaim i t else t) s

/-! ### Release (R107, R108) -/

/-- The slot that names a path gives up its own claim (R107). -/
def releaseClaim (i : PathIx) (s : State) : State :=
  pinnedUpdate { s with slots := updAll s.slots (fun _ e => if e.ownPath == some i then e.cleared else e) }

/-- One slot of a silent release: the claim is cleared and its path takes SLOT_RELEASED (R108). -/
def silentSlot (k : Slot) (s : State) : State :=
  if (s.slot k).own == .none then s
  else
    let s1 := s.modSlot k SlotEntry.cleared
    match (s.slot k).ownPath with
    | none => s1
    | some i => slotLost 0 i .slotReleased s1

/-- A silent release (R108): every own claim is given up, SILENT_RELEASE is set and PINNED_COLLISION is clear. No freed
notice is sent. -/
def silentReleaseAll (s : State) : State :=
  { (forSlots silentSlot s) with silentRelease := true, pinnedCollision := false }

/-! ### Peer lists -/

/-- The most peer records a slot holds (Table 0-5). -/
def peerCapacity : Nat := 4

/-- A record at the place its station ID gives it (R90). -/
def placePeer (p : Peer) : List Peer → List Peer
  | [] => [p]
  | q :: rest => if p.station < q.station then p :: q :: rest else q :: placePeer p rest

/-- A record inserted under the capacity rule (R90): into a full list it displaces the highest station ID, when it is
lower than that. -/
def insertPeer (p : Peer) (ps : List Peer) : List Peer :=
  if ps.length < peerCapacity then placePeer p ps
  else
    match ps.getLast? with
    | none => placePeer p ps
    | some top => if p.station < top.station then placePeer p ps.dropLast else ps

/-- A station's claim written into a slot's peer list (R91). -/
def writePeer (p : Peer) (ps : List Peer) : List Peer :=
  if ps.any (fun q => q.station == p.station) then ps.map (fun q => if q.station == p.station then p else q)
  else insertPeer p ps

/-- A station's record removed from a peer list. -/
def removePeer (st : StationId) (ps : List Peer) : List Peer := ps.filter (fun q => q.station != st)

/-- The claim that a frame's claim set holds on slot k (R91): HELD on the heard slot, else what the list says. -/
def claimOn (claims : List Claim) (heard k : Slot) : Option (ClaimPhase × Bool) :=
  match claims.find? (fun c => c.slot == k) with
  | some c => some (if k == heard then .held else c.phase, c.pinned)
  | none => if k == heard then some (.held, false) else none

/-- A slot's peer list after a frame of a station (R91). -/
def replacePeer (st : StationId) (claims : List Claim) (heard : Slot) (expiry : Time) (k : Slot) (ps : List Peer) :
    List Peer :=
  match claimOn claims heard k with
  | none => removePeer st ps
  | some (phase, pinned) => writePeer { station := st, phase := phase, pinned := pinned, expiry := expiry } ps

/-- The slot claim table takes a good frame of a held station (R91), and the requests of the paths it marks follow. -/
def takeClaims (cancelAfter : Nat) (st : StationId) (claims : List Claim) (heard : Slot) (s : State) : State :=
  serveMarks (peerEvent cancelAfter (replacePeer st claims heard (laterS s.now s.params.neighbourTimeout)) s)

/-- The slot claim table takes a mass release (R93). -/
def releaseStationClaims (st : StationId) (s : State) : State :=
  serveMarks (peerEvent 0 (fun _ ps => removePeer st ps) s)

/-! ### The table's own tests at a block boundary -/

/-- PEER_CLAIM_EXPIRY (R92). -/
def peerClaimExpiry (s : State) : State :=
  serveMarks (peerEvent 0 (fun _ ps => ps.filter (fun p => !reached s.now p.expiry)) s)

/-- The owner of a slot takes CLAIM_WON (R122). -/
def claimWon (k : Slot) (s : State) : State :=
  match (s.slot k).ownPath with
  | none => s
  | some i => if (s.path i).state == .claiming then movePath i .on (recordEvent i .claimWon s) else s

/-- HOLD_OFF_END at slot k (R97). -/
def holdOffEnd (k : Slot) (s : State) : State :=
  if ((s.slot k).own == .intent) && dueAt s.now (s.slot k).ownDeadline && s.claimingPermitted then
    pinnedUpdate (collisionTest k (claimWon k (s.modSlot k (fun e => { e with own := .held, ownDeadline := none }))))
  else s

/-- A contending record of this slot takes the own claim at a collision expiry (R101). -/
def Peer.wins (own : StationId) (p : Peer) : Bool := p.contends && (p.pinned || decide (p.station < own))

/-- The collision deadline of a slot still in collision is set again (R101). -/
def restartCollision (k : Slot) (s : State) : State :=
  s.modSlot k (fun e =>
    if e.inCollision then { e with collision := some (laterS s.now s.params.collisionPersistence) }
    else { e with collision := none })

/-- COLLISION_EXPIRY at slot k (R101). -/
def collisionExpiry (k : Slot) (s : State) : State :=
  if dueAt s.now (s.slot k).collision then
    if (s.slot k).inCollision && (s.slot k).peers.any (Peer.wins s.params.stationId) then
      serveMarks (noticeFreed s (pinnedUpdate (loseToPeer 0 k .slotCollision s)))
    else restartCollision k s
  else s

/-- CLAIM_RETRY_DEADLINE of path i (R105). -/
def claimRetryDeadline (i : PathIx) (s : State) : State :=
  if dueAt s.now (s.wait i).retryDeadline then
    let s1 := s.modWait i (fun w => { w with retryDeadline := none })
    if ((s.path i).state == .waitSlot) && s.claimingPermitted && anyEligible s then
      serveMarks (s1.modWait i (fun w => { w with freed := true }))
    else s1
  else s

end Sys2Proof.Machine
end

