-- ==== Sys2Proof/Machine/Sources.lean ====
section
/-! DEFINITION. The source table and the selector (chapter 5): grades, the order of the table, admission, update and
replacement of an entry, eligibility, the best-source rule and the switch decision. What the path controller makes of a
notice stands in Paths.lean; the events of the table that hand notices stand in Intake.lean. -/

namespace Sys2Proof.Machine

open Sys2Proof

/-- The most entries the source table holds (Table 0-5). -/
def sourceCapacity : Nat := 32

/-! ### Grades (R74, R75, R78) -/

/-- The level grade of a magnitude (R74). -/
def levelGrade (p : Params) (m : Nat) : Nat :=
  if m < p.mFloor then 0 else min 100 ((m - p.mFloor) * 100 / (p.mGood - p.mFloor))

/-- The integrity target of a frame's noise count (R75). -/
def integrityTarget (noise : Nat) : Nat := 100 - 5 * noise

/-- The quality that the grades and the absent flag give (R78). -/
def qualityOf (level integrity : Nat) (absent : Bool) : Nat := if absent then 0 else min level integrity

/-- An entry with its quality recomputed (R78). -/
def Source.regrade (e : Source) : Source := { e with quality := qualityOf e.levelGrade e.integrityGrade e.absent }

/-- The score of an entry (R78). -/
def score (p : Params) (e : Source) : Int := (e.quality : Int) - (p.hopPenalty : Int) * (e.depth : Int)

/-! ### Keys and order (R67) -/

/-- An entry has the key (slot, station). -/
def Source.hasKey (k : Slot) (st : StationId) (e : Source) : Bool := (e.slot == k) && (e.station == st)

/-- The order of the table: by slot, then by station ID. -/
def keyBefore (a b : Source) : Bool :=
  decide (a.slot < b.slot) || ((a.slot == b.slot) && decide (a.station < b.station))

/-- An entry at the place its key gives it. -/
def placeSource (e : Source) : List Source → List Source
  | [] => [e]
  | x :: rest => if keyBefore e x then e :: x :: rest else x :: placeSource e rest

/-- The entry of a key. -/
def findSource (k : Slot) (st : StationId) (es : List Source) : Option Source := es.find? (Source.hasKey k st)

/-- A path's selected source names the key. -/
def PathRec.selects (p : PathRec) (k : Slot) (st : StationId) : Bool :=
  match p.selected with
  | none => false
  | some x => (x.slot == k) && (x.station == st)

/-- The entry is the selected entry of some path (5.2). -/
def isSelected (s : State) (e : Source) : Bool := (indices 12).any (fun i => (s.path i).selects e.slot e.station)

/-! ### Taking a frame (R68 to R72) -/

/-- The programme ID is that of an enabled carry entry. -/
def carried (s : State) (pr : ProgrammeId) : Bool :=
  (indices 12).any (fun i => (s.carryOf i).enabled && ((s.carryOf i).programme == pr))

/-- The match rule (R68). -/
def matchesCarry (s : State) (f : Frame) : Bool :=
  carried s f.programme && ((f.network == s.params.networkId) || (f.openFlag && s.params.acceptOpen))

/-- The entry that a matching frame admits (R69). -/
def newSource (s : State) (f : Frame) (heard : Slot) (noise : Nat) (latest : Option Nat) : Source :=
  Source.regrade
    { slot := heard, station := f.station, programme := f.programme, depth := f.depth, upstream := f.upstreamOf
      m := latest.getD 0
      levelGrade := match latest with | some m => levelGrade s.params m | none => 0
      integrityGrade := integrityTarget noise, absent := f.absent, quality := 0, lastHeard := s.now
      barredUntil := none }

/-- A held entry updated by a matching frame (R71). -/
def updateSource (s : State) (f : Frame) (noise : Nat) (latest : Option Nat) (e : Source) : Source :=
  Source.regrade
    { e with
      programme := f.programme, depth := f.depth, upstream := f.upstreamOf, absent := f.absent
      m := match latest with | some m => m | none => e.m
      levelGrade := match latest with | some m => levelGrade s.params m | none => e.levelGrade
      integrityGrade := (e.integrityGrade + integrityTarget noise) / 2
      lastHeard := s.now }

/-- Entry b is removed rather than entry a, which stands before it in the table: lower Q, then older last heard, then
the later place (R70). -/
def removedBefore (now : Time) (a b : Source) : Bool :=
  if b.quality != a.quality then decide (b.quality < a.quality)
  else decide (age now a.lastHeard ≤ age now b.lastHeard)

/-- The entry that makes room in a full table (R70): among those that no path has selected. -/
def replacementVictim (s : State) : Option Source :=
  (s.sources.filter (fun e => !isSelected s e)).foldl
    (fun best e => match best with
      | none => some e
      | some a => if removedBefore s.now a e then some e else some a) none

/-- The table with a new entry, one unselected entry removed first when it is full (R69, R70). -/
def admitSource (s : State) (e : Source) : List Source :=
  if s.sources.length < sourceCapacity then placeSource e s.sources
  else
    match replacementVictim s with
    | some v => placeSource e (s.sources.filter (fun x => !x.hasKey v.slot v.station))
    | none => s.sources

/-! ### Eligibility and the best source (R83 to R85) -/

/-- Some own claim stands within the guard distance of a slot (R83 test 7). -/
def nearOwnClaim (s : State) (k : Slot) : Bool :=
  (indices 64).any (fun j => ((s.slot j).own != .none) && withinGuard s.params.guardDistance j k)

/-- A penalty holds until its barred-until is reached (R83 test 6). -/
def barred (now : Time) (e : Source) : Bool :=
  match e.barredUntil with
  | none => false
  | some t => !reached now t

/-- An entry is eligible for a path (R83). -/
def sourceEligible (s : State) (i : PathIx) (e : Source) : Bool :=
  (s.carryOf i).enabled && (e.programme == (s.carryOf i).programme) &&
  (e.station != s.params.stationId) && (e.upstream != some s.params.stationId) && decide (e.depth ≤ 14) &&
  decide (s.params.qMin ≤ e.quality) && !barred s.now e && !nearOwnClaim s e.slot

/-- An entry is fresh (5.2). -/
def fresh (now : Time) (e : Source) : Bool := decide (age now e.lastHeard ≤ 30000)

/-- Entry a ranks before entry b (R84): higher score, lower hop depth, lower slot, lower station ID. -/
def ranksBefore (p : Params) (a b : Source) : Bool :=
  if score p a != score p b then decide (score p b < score p a)
  else if a.depth != b.depth then decide (a.depth < b.depth)
  else if a.slot != b.slot then decide (a.slot < b.slot)
  else decide (a.station < b.station)

/-- The first-ranked entry of a list. -/
def bestOf (p : Params) (es : List Source) : Option Source :=
  es.foldl (fun best e => match best with
    | none => some e
    | some a => if ranksBefore p e a then some e else some a) none

/-- The best fresh entry for a path (R84). -/
def bestFresh (s : State) (i : PathIx) : Option Source :=
  bestOf s.params (s.sources.filter (fun e => sourceEligible s i e && fresh s.now e))

/-- The stale slot of a best-source answer (R84). -/
def staleSlot (s : State) (i : PathIx) : Option Slot :=
  match bestOf s.params (s.sources.filter (sourceEligible s i)) with
  | none => none
  | some e => if fresh s.now e then none else some e.slot

/-! ### The switch decision (R86) -/

/-- The path's selected entry as the table holds it. -/
def selectedEntry (s : State) (i : PathIx) : Option Source :=
  match (s.path i).selected with
  | none => none
  | some x => findSource x.slot x.station s.sources

/-- The best fresh entry beats the selected entry by more than the switch margin (R86). -/
def beatsByMargin (p : Params) (b sel : Source) : Bool := decide (score p sel + (p.switchMargin : Int) < score p b)

/-- The hysteresis count that a decision for B gives before it is compared with the switch count (R86). -/
def nextCount (p : PathRec) (b : Source) : Nat :=
  if p.candidate == some (b.slot, b.station) then p.candidateCount + 1 else 1

/-- The entry that a switch decision may propose: B, when it is present, is not S and beats it by the margin. -/
def switchRival (s : State) (i : PathIx) : Option Source :=
  match bestFresh s i, selectedEntry s i with
  | some b, some sel =>
    if b.hasKey sel.slot sel.station then none else if beatsByMargin s.params b sel then some b else none
  | _, _ => none

/-- The path's hysteresis fields after a switch decision (R86). -/
def decideHysteresis (s : State) (i : PathIx) (p : PathRec) : PathRec :=
  match switchRival s i with
  | none => { p with candidate := none, candidateCount := 0 }
  | some b =>
    if s.params.switchCount ≤ nextCount p b then { p with candidate := none, candidateCount := 0 }
    else { p with candidate := some (b.slot, b.station), candidateCount := nextCount p b }

/-- The answer of a switch decision: the entry to switch to, or none for "stay" (R86). -/
def switchAnswer (s : State) (i : PathIx) : Option Source :=
  match switchRival s i with
  | none => none
  | some b => if s.params.switchCount ≤ nextCount (s.path i) b then some b else none

/-! ### Penalties, integrity failures, empty slots -/

/-- Every entry of a key changed. -/
def modSource (k : Slot) (st : StationId) (f : Source → Source) (s : State) : State :=
  { s with sources := s.sources.map (fun e => if e.hasKey k st then f e else e) }

/-- A penalty request (R82). -/
def penalise (k : Slot) (st : StationId) (s : State) : State :=
  modSource k st (fun e => { e with barredUntil := some (laterS s.now s.params.sourcePenalty) }) s

/-- An integrity failure halves I_g (R76). -/
def halveIntegrity (e : Source) : Source := Source.regrade { e with integrityGrade := e.integrityGrade / 2 }

/-- An integrity failure on a path (R76): charged to the selected entry when the receive side is tuned to its slot. -/
def integrityFailure (i : PathIx) (s : State) : State :=
  match (s.path i).selected with
  | none => s
  | some x => if (s.rxSide i).word == slotWord x.slot then modSource x.slot x.station halveIntegrity s else s

/-- An empty-slot report (R77). -/
def emptySlot (k : Slot) (s : State) : State :=
  { s with sources := s.sources.map (fun e => if e.slot == k then Source.regrade { e with levelGrade := 0 } else e) }

end Sys2Proof.Machine
end

