-- ==== Sys2Proof/Machine/Survey.lean ====
section
/-! DEFINITION. The survey receiver (chapter 3): survey requests, the choice of a dwell's slot, the dwell, and the
commands DWELL_START, DWELL_CHECK_CLOSE and DWELL_DEADLINE. -/

namespace Sys2Proof.Machine

open Sys2Proof

/-- The most slots the survey request queue holds (Table 0-5). -/
def surveyCapacity : Nat := 8

/-- The station state in which the survey receiver dwells and takes requests (R45). -/
def listening (st : Station) : Bool := (st == .listen) || (st == .running)

/-- The survey may scan a slot (Table 1-2). -/
def mayWatch (a : SlotAttr) : Bool := (a == .watch) || (a == .both)

/-- The slot is the dwell slot of a dwell in progress (R53). -/
def inDwell (s : State) (k : Slot) : Bool :=
  match s.survey.dwell with
  | none => false
  | some d => d.slot == k

/-- A survey request (R53). -/
def surveyRequest (k : Slot) (s : State) : State :=
  if listening s.station && mayWatch (s.slot k).attr && !s.survey.requests.contains k && !inDwell s k &&
      decide (s.survey.requests.length < surveyCapacity) then
    { s with survey := { s.survey with requests := s.survey.requests ++ [k] } }
  else s

/-- A slot may be dwelt on: it is no path's receive slot and carries no own claim (R46). -/
def dwellable (s : State) (k : Slot) : Bool :=
  !((indices 12).any (fun i => (s.path i).rxSlot == some k)) && ((s.slot k).own == .none)

/-- The request queue from its first slot that may be dwelt on: that slot and the queue behind it (R46). Every head
before it is discarded. -/
def serveRequests (s : State) : List Slot → Option (Slot × List Slot)
  | [] => none
  | k :: rest => if dwellable s k then some (k, rest) else serveRequests s rest

/-- The round-robin choice (R47). -/
def roundRobin (s : State) : Option Slot :=
  (slotsFrom s.survey.scanPosition).find? (fun k => mayWatch (s.slot k).attr && dwellable s k)

/-- A dwell starts on slot k (R48). -/
def startDwell (k : Slot) (s : State) : State :=
  { s with survey :=
    { s.survey with
      rx := s.survey.rx.retune (slotWord k)
      framer := Framer.cleared
      dwell := some { phase := .warmUp, slot := k, deadline := later s.now 700, checks := 0, good := 0, latest := none } } }

/-- The survey receiver chooses a slot and starts the dwell (R46, R47). -/
def chooseDwell (s : State) : State :=
  match serveRequests s s.survey.requests with
  | some (k, rest) => startDwell k { s with survey := { s.survey with requests := rest } }
  | none =>
    let s1 := { s with survey := { s.survey with requests := [] } }
    match roundRobin s with
    | some k => startDwell k { s1 with survey := { s1.survey with scanPosition := nextSlot k } }
    | none => s1

/-- DWELL_START (R46 to R48): taken in BETWEEN, in LISTEN and RUNNING. -/
def dwellStart (s : State) : State :=
  if listening s.station && s.survey.dwell.isNone then chooseDwell s else s

/-- The dwell record enters BETWEEN. -/
def endDwell (s : State) : State := { s with survey := { s.survey with dwell := none } }

/-- DWELL_CHECK_CLOSE (R49): with 20 check measurements, on to LISTENING, or EMPTY with its report (R50). -/
def dwellCheckClose (s : State) : State :=
  match s.survey.dwell with
  | none => s
  | some d =>
    if (d.phase == .check) && decide (20 ≤ d.checks) then
      if 1 ≤ d.good then { s with survey := { s.survey with dwell := some { d with phase := .listening } } }
      else endDwell (emptySlot d.slot s)
    else s

/-- DWELL_DEADLINE (R52): a dwell in LISTENING at its deadline ends as UNREAD. -/
def dwellDeadline (s : State) : State :=
  match s.survey.dwell with
  | none => s
  | some d => if (d.phase == .listening) && reached s.now d.deadline then endDwell s else s

/-- A good survey frame ends a dwell in LISTENING as COMPLETED (R51). -/
def dwellFrame (s : State) : State :=
  match s.survey.dwell with
  | none => s
  | some d => if d.phase == .listening then endDwell s else s

/-- The dwell takes the survey receive side's block report (R48, R49). The check stands once it has 20
measurements. -/
def Dwell.takeReport (p : Params) (report : Option Nat) (d : Dwell) : Dwell :=
  match d.phase, report with
  | .warmUp, none => { d with phase := .check }
  | .warmUp, some _ => d
  | .check, none => d
  | .check, some m =>
    if d.checks < 20 then
      { d with checks := d.checks + 1, good := if p.mFloor ≤ m then d.good + 1 else d.good, latest := some m }
    else { d with latest := some m }
  | .listening, none => d
  | .listening, some m => { d with latest := some m }

/-- The survey receive side closes its block. Until the station enters LISTEN its warm-up flag stays set (R55), so that its
blocks are all reported as warm-up, its demodulator presents mark and its framer stays in HUNT (log entry 20). -/
def closeSurvey (st : Station) (r : RxSide) : RxSide := if listening st then r.close else { r.close with warmUp := true }

/-- The survey receive side closes its block and the dwell takes the report (R44). -/
def surveyReport (s : State) : State :=
  { s with survey :=
    { s.survey with
      rx := closeSurvey s.station s.survey.rx
      dwell := s.survey.dwell.map (Dwell.takeReport s.params s.survey.rx.report) } }

end Sys2Proof.Machine
end

