-- ==== Sys2Proof/Machine/Paths.lean ====
section
/-! DEFINITION. The path controller (chapter 7): selection, acquisition, loss of a source, the evaluation and its tuning
upkeep, what it takes from block reports, good frames and notices; and the commands PATH_EVALUATION, ACQUIRE_TIMEOUT,
CARRIER_CHECK_FAIL, LOW_CARRIER_LOSS, TAG_LOSS and HOLDOVER_EXPIRED. -/

namespace Sys2Proof.Machine

open Sys2Proof

/-- The states in which a path watches its acquired source (R119). -/
def watching (st : PathState) : Bool := (st == .waitSlot) || (st == .claiming) || (st == .on)

/-! ### Selection (R114) -/

/-- The record of a path that selects entry e (R114). -/
def selectedRecord (now : Time) (timeout : Nat) (e : Source) (p : PathRec) : PathRec :=
  { p with
    selected := some { slot := e.slot, station := e.station, depth := e.depth }
    rxSlot := some e.slot
    candidate := none, candidateCount := 0
    acquireDeadline := some (later now timeout)
    check := .notStarted, rxPending := true, lastSourceFrame := none
    holdoverDeadline := if p.state == .on then none else p.holdoverDeadline }

/-- A selection (R114): the record is written, the receive tuning is asked for, the path goes to its new state, and the
slot claim table takes the receive-slot notice (R106). R114 puts these in one act and R121 the requests of the paths that the
notice frees behind the table's event; that the selecting path's own tuning request comes before theirs is the model's
choice (log entry 29). -/
def selectSource (i : PathIx) (e : Source) (st : PathState) (s : State) : State :=
  let s1 := s.modPath i (selectedRecord s.now s.params.acquireTimeout e)
  let s2 := recordEvent i .sourceSelected (tuneRequest i .receive e.slot s1)
  serveMarks (noticeFreed s (movePath i st s2))

/-! ### Loss of a source (R118 to R120) -/

/-- The record of a path whose source is lost (R119). -/
def PathRec.sourceCleared (p : PathRec) : PathRec :=
  { p with
    selected := none, rxSlot := none, lowCarrier := 0, lastSourceFrame := none, acquireDeadline := none
    check := .notStarted, candidate := none, candidateCount := 0, rxPending := false }

/-- A path's selected source and receive slot are cleared, with its receive entries cancelled (R119). -/
def clearSource (i : PathIx) (s : State) : State :=
  tuneCancel i (some .receive) (s.modPath i PathRec.sourceCleared)

/-- The penalty of a failed acquisition (R118, R82). -/
def penaliseSelected (i : PathIx) (s : State) : State :=
  match (s.path i).selected with
  | none => s
  | some x => penalise x.slot x.station s

/-- A holdover deadline is started when none is running (R118, R120). -/
def startHoldover (i : PathIx) (s : State) : State :=
  s.modPath i (fun p =>
    { p with holdoverDeadline := match p.holdoverDeadline with
        | some d => some d
        | none => some (laterS s.now s.params.holdover) })

/-- An acquisition ends as failed (R118): from ACQUIRING to SEEKING, from SWITCHING to HOLDOVER. -/
def acquireFail (i : PathIx) (s : State) : State :=
  let s1 := recordEvent i .acquireFailed (clearSource i (penaliseSelected i s))
  let s2 := if (s.path i).state == .switching then movePath i .holdover (startHoldover i s1)
    else movePath i .seeking s1
  serveMarks (noticeFreed s s2)

/-- The acts of a source lost in a watched state, before the freed notices it causes (R120). From CLAIMING the receive-slot
notice (R119) and the release request (R120) are one event for the freed notices, so a waiting path may take the released
slot in its one request; the choice is the model's (log entry 27). -/
def loseSource (i : PathIx) (s : State) : State :=
  let s1 := recordEvent i .sourceLost (clearSource i s)
  match (s.path i).state with
  | .waitSlot => movePath i .seeking s1
  | .claiming => movePath i .seeking (dropOutput i (releaseClaim i s1))
  | .on => movePath i .holdover
      (s1.modPath i (fun p => { p with holdoverDeadline := some (laterS s.now s.params.holdover) }))
  | .idle => s
  | .seeking => s
  | .acquiring => s
  | .switching => s
  | .holdover => s

/-- A source lost reaches a path (R119, R120). A path without a selected source does nothing. -/
def sourceLost (i : PathIx) (s : State) : State :=
  if (s.path i).selected.isNone then s
  else if acquiring (s.path i).state then acquireFail i s
  else if watching (s.path i).state then serveMarks (noticeFreed s (loseSource i s))
  else s

/-! ### Notices of the source table (R81) -/

/-- A "changed" notice is a source lost (R119). -/
def lostByChange (s : State) (i : PathIx) (e : Source) : Bool :=
  e.absent || (e.programme != (s.carryOf i).programme) || (e.depth == 15) || (e.upstream == some s.params.stationId)

/-- A path takes a "changed" notice of its selected entry (R81, R119). -/
def takeChanged (e : Source) (i : PathIx) (s : State) : State :=
  if (s.path i).selects e.slot e.station then
    if lostByChange s i e then sourceLost i s
    else s.modPath i (fun p => { p with selected := p.selected.map (fun x => { x with depth := e.depth }) })
  else s

/-- The notice of a changed entry goes to the paths that have selected it. -/
def noticeChanged (e : Source) (s : State) : State := forPaths (takeChanged e) s

/-- A path takes a "removed" notice of its selected entry (R81). -/
def takeRemoved (e : Source) (i : PathIx) (s : State) : State :=
  if (s.path i).selects e.slot e.station then sourceLost i s else s

/-- The notice of a removed entry goes to the paths that have selected it. -/
def noticeRemoved (s : State) (e : Source) : State := forPaths (takeRemoved e) s

/-! ### Good frames (R117, R119) -/

/-- A good frame is of the path's selected source: its station, the path's programme, heard on the receive slot. -/
def ofSelected (s : State) (i : PathIx) (st : StationId) (pr : ProgrammeId) (heard : Slot) : Bool :=
  match (s.path i).selected with
  | none => false
  | some x => (x.station == st) && ((s.carryOf i).programme == pr) && ((s.path i).rxSlot == some heard)

/-- The record of a path whose acquisition ends as acquired (R117). -/
def acquiredRecord (now : Time) (p : PathRec) : PathRec :=
  { p with acquireDeadline := none, lastSourceFrame := some now, lowCarrier := 0, acquired := true }

/-- An acquisition ends as acquired (R117): from ACQUIRING to WAIT_SLOT with a choose-and-claim request at once, from
SWITCHING to ON. -/
def acquire (i : PathIx) (s : State) : State :=
  let s1 := s.modPath i (acquiredRecord s.now)
  if (s.path i).state == .switching then
    movePath i .on (recordEvent i .switched (s1.modPath i (fun p => { p with holdoverDeadline := none })))
  else chooseAndClaim i (movePath i .waitSlot (recordEvent i .acquired s1))

/-- The path controller takes a good frame heard by a path (R117, R119). -/
def takeGoodFrame (i : PathIx) (st : StationId) (pr : ProgrammeId) (heard : Slot) (s : State) : State :=
  if ofSelected s i st pr heard then
    if acquiring (s.path i).state then
      if (s.path i).check == .passed then acquire i s else s
    else if watching (s.path i).state then s.modPath i (fun p => { p with lastSourceFrame := some s.now })
    else s
  else s

/-! ### Block reports (R116, R119) -/

/-- The carrier check takes a report (R116). A check of 20 measurements stands until its failure is taken. -/
def CarrierCheck.takeReport (mFloor : Nat) (report : Option Nat) (c : CarrierCheck) : CarrierCheck :=
  match c, report with
  | .warmUp, none => .counting 0
  | .counting n, some m => if 20 ≤ n then .counting n else if mFloor ≤ m then .passed else .counting (n + 1)
  | .warmUp, some _ => .warmUp
  | .counting n, none => .counting n
  | .notStarted, _ => .notStarted
  | .passed, _ => .passed

/-- The low-carrier count takes a report (R119). A count of 50 stands until the loss is taken. -/
def lowCarrierCount (mFloor : Nat) (report : Option Nat) (n : Nat) : Nat :=
  match report with
  | none => n
  | some m => if 50 ≤ n then n else if m < mFloor then n + 1 else 0

/-- The path controller takes a path's block report. -/
def PathRec.takeReport (mFloor : Nat) (report : Option Nat) (p : PathRec) : PathRec :=
  { p with
    check := p.check.takeReport mFloor report
    lowCarrier := if watching p.state then lowCarrierCount mFloor report p.lowCarrier else p.lowCarrier }

/-! ### Deadlines and counts -/

/-- ACQUIRE_TIMEOUT of path i (R118). -/
def acquireTimeout (i : PathIx) (s : State) : State :=
  if acquiring (s.path i).state && dueAt s.now (s.path i).acquireDeadline then acquireFail i s else s

/-- The carrier check has failed: 20 measurements, none at M_floor (R116). -/
def CarrierCheck.failed : CarrierCheck → Bool
  | .counting n => decide (20 ≤ n)
  | .notStarted => false
  | .warmUp => false
  | .passed => false

/-- CARRIER_CHECK_FAIL of path i (R116). -/
def carrierCheckFail (i : PathIx) (s : State) : State :=
  if acquiring (s.path i).state && (s.path i).check.failed then acquireFail i s else s

/-- LOW_CARRIER_LOSS of path i (R119). -/
def lowCarrierLoss (i : PathIx) (s : State) : State :=
  if watching (s.path i).state && decide (50 ≤ (s.path i).lowCarrier) then sourceLost i s else s

/-- 2,000 ms have passed since the last source frame (R119). -/
def tagSilent (now : Time) (last : Option Time) : Bool :=
  match last with
  | none => false
  | some t => decide (2000 ≤ age now t)

/-- TAG_LOSS of path i (R119). -/
def tagLoss (i : PathIx) (s : State) : State :=
  if watching (s.path i).state && tagSilent s.now (s.path i).lastSourceFrame then sourceLost i s else s

/-- The acts of a holdover expiry, before the freed notices it causes (R124). -/
def expireHoldover (i : PathIx) (s : State) : State :=
  let s1 := s.modPath i (fun p => { p with holdoverDeadline := none })
  let s2 := recordEvent i .holdoverExpired (dropOutput i (releaseClaim i s1))
  movePath i (if (s.path i).state == .switching then .acquiring else .seeking) s2

/-- HOLDOVER_EXPIRED of path i (R124). -/
def holdoverExpired (i : PathIx) (s : State) : State :=
  if (((s.path i).state == .holdover) || ((s.path i).state == .switching)) && dueAt s.now (s.path i).holdoverDeadline then
    serveMarks (noticeFreed s (expireHoldover i s))
  else s

/-! ### The evaluation (R112, R113, R115) -/

/-- Tuning upkeep of one side (R115). -/
def upkeepSide (i : PathIx) (side : Side) (wanted : Bool) (slot : Option Slot) (s : State) : State :=
  match slot with
  | none => s
  | some k => if wanted && !tuneQueued i side s then tuneRequest i side k s else s

/-- Tuning upkeep of a path (R115). The manual gives no order of its two requests; the model asks for the receive side first,
its choice (log entry 22). -/
def tuningUpkeep (i : PathIx) (s : State) : State :=
  let s1 := upkeepSide i .receive (s.path i).rxPending (s.path i).rxSlot s
  upkeepSide i .transmit (s1.path i).txPending (s1.path i).output s1

/-- The stale slot of a best-source answer is handed to the survey receiver (R85). -/
def askSurvey (i : PathIx) (s : State) : State :=
  match staleSlot s i with
  | none => s
  | some k => surveyRequest k s

/-- A best fresh entry leads to a selection (R113). -/
def selectBest (i : PathIx) (st : PathState) (s : State) : State :=
  match bestFresh s i with
  | none => s
  | some e => selectSource i e st s

/-- The switch decision of a path in ON (R86) and the switch it may lead to (R113). -/
def decideSwitch (i : PathIx) (s : State) : State :=
  let s1 := askSurvey i (s.modPath i (decideHysteresis s i))
  match switchAnswer s i with
  | none => s1
  | some e => selectSource i e .switching s1

/-- What an evaluation does by the path's state (R113). -/
def evaluateByState (i : PathIx) (s : State) : State :=
  match (s.path i).state with
  | .seeking => selectBest i .acquiring (askSurvey i s)
  | .holdover => selectBest i .switching (askSurvey i s)
  | .on => decideSwitch i s
  | .idle => s
  | .acquiring => s
  | .waitSlot => s
  | .claiming => s
  | .switching => s

/-- The path has an evaluation to take (R112). -/
def evaluationDue (i : PathIx) (s : State) : Bool :=
  listening s.station && ((s.path i).state != .idle) && dueAt s.now (s.path i).evalDeadline

/-- PATH_EVALUATION of path i (R112, R113). Tuning upkeep runs after the state's own act; the manual gives no order of the
two, so this is the model's choice (log entry 22). -/
def pathEvaluation (i : PathIx) (s : State) : State :=
  if evaluationDue i s then
    let s1 := s.modPath i (fun p => { p with evalDeadline := p.evalDeadline.map (fun d => later d 1000) })
    tuningUpkeep i (evaluateByState i s1)
  else s

end Sys2Proof.Machine
end

