-- ==== Sys2Proof/Machine/Levels.lean ====
section
/-! DEFINITION. The level controller and the composite governor's evaluation (8.1, 8.2), with the command RESTORE. -/

namespace Sys2Proof.Machine

open Sys2Proof

/-! ### Gain of one path (R130 to R132) -/

/-- A value brought into a range; the nearer end outside it (0.7 Arithmetic). -/
def clampTo (lo hi v : Nat) : Nat := if v < lo then lo else if hi < v then hi else v

/-- The desired gain for a measurement (R131). -/
def desiredGain (p : Params) (target m : Nat) : Nat := clampTo p.gMin p.gMax (target * 1024 / m)

/-- The gain after one slew toward the desired gain (R132). -/
def slewGain (old want : Nat) : Nat :=
  let step := max 1 (old / 64)
  if old < want then min want (old + step)
  else if want < old then max want (old - step)
  else old

/-- A path record takes a measurement M in a state in which the level controller acts (R130 to R132). -/
def PathRec.takeLevel (p : Params) (target m : Nat) (r : PathRec) : PathRec :=
  if m < p.mFloor then { r with m := m }
  else if r.acquired then { r with m := m, g := desiredGain p target m, acquired := false }
  else { r with m := m, g := slewGain r.g (desiredGain p target m) }

/-- The level controller takes one path's block report (R130). Each path's report has its own place in the order of a
boundary, before the evaluation or after it (log entry 23). -/
def levelPath (reports : Vector (Option Nat) 12) (i : PathIx) (s : State) : State :=
  if watching (s.path i).state then
    match reports[i.val] with
    | none => s
    | some m => s.modPath i (PathRec.takeLevel s.params (s.carryOf i).target m)
  else s

/-! ### Amplitudes and the backoff factor (R133, R134) -/

/-- A path's amplitude at full level (R133, R136). -/
def fullAmplitude (p : PathRec) : Nat := min 4095 (p.m * p.g / 1024)

/-- A path's nominal amplitude (R133). -/
def nominalAmplitude (p : PathRec) : Nat :=
  match p.cond with
  | .full => fullAmplitude p
  | .tagOnly => 256
  | .off => 0

/-- The composite sum P (R134). -/
def compositeSum (s : State) : Nat :=
  ((indices 12).map (fun i => nominalAmplitude (s.path i) * nominalAmplitude (s.path i))).sum

/-- The largest s up to n with s² × P within the bound; 0 when none is. -/
def largestWithin (power bound : Nat) : Nat → Nat
  | 0 => 0
  | n + 1 => if (n + 1) * (n + 1) * power ≤ bound then n + 1 else largestWithin power bound n

/-- The backoff factor that a composite sum calls for (R134). -/
def backoffFor (pMax power : Nat) : Nat :=
  if power ≤ pMax then 256 else largestWithin power (pMax * 65536) 255

/-- s_computed of the state as it stands (R134). -/
def computedBackoff (s : State) : Nat := backoffFor s.params.pMax (compositeSum s)

/-! ### Shed and restore (R135, R136, R138) -/

/-- The shed flag of every path that is not ON is cleared, with no event (R138). -/
def clearShedFlags (s : State) : State :=
  { s with paths := updAll s.paths (fun _ p => if p.state == .on then p else { p with shed := false }) }

/-- Of two FULL paths, the later is shed when its priority number is at least as large (R135). -/
def shedChoice (s : State) (best : Option PathIx) (i : PathIx) : Option PathIx :=
  if (s.path i).cond == .full then
    match best with
    | none => some i
    | some b => if (s.carryOf b).priority ≤ (s.carryOf i).priority then some i else some b
  else best

/-- The path to shed: FULL, of the largest priority number, then of the highest index (R135). -/
def shedPath (s : State) : Option PathIx := (indices 12).foldl (shedChoice s) none

/-- One path is shed (R135). -/
def shedOne (i : PathIx) (s : State) : State :=
  refreshPath i (recordEvent i .shed (s.modPath i (fun p => { p with shed := true })))

/-- The shed loop (R135). Each turn takes one FULL path down, so 12 turns are enough. -/
def shedLoop : Nat → State → State
  | 0, s => s
  | n + 1, s =>
    if computedBackoff s < s.params.sFloor then
      match shedPath s with
      | none => s
      | some i => shedLoop n (shedOne i s)
    else s

/-- A path may be restored (R136). -/
def restorable (p : PathRec) : Bool := p.shed && (p.state == .on) && (p.cond == .tagOnly)

/-- Of two paths that may be restored, the later is taken only for a smaller priority number (R136). -/
def restoreChoice (s : State) (best : Option PathIx) (i : PathIx) : Option PathIx :=
  if restorable (s.path i) then
    match best with
    | none => some i
    | some b => if (s.carryOf i).priority < (s.carryOf b).priority then some i else some b
  else best

/-- The restore candidate of the state as it stands (R136). -/
def restoreCandidate (s : State) : Option PathIx := (indices 12).foldl (restoreChoice s) none

/-- P′ for a candidate (R136). -/
def restoredSum (s : State) (i : PathIx) : Nat :=
  compositeSum s - 256 * 256 + fullAmplitude (s.path i) * fullAmplitude (s.path i)

/-- The most the restore count reaches (R136). -/
def restoreLimit : Nat := 1000

/-- The restore test of an evaluation (R136): the recorded candidate and its count. -/
def restoreTest (s : State) : State :=
  match restoreCandidate s with
  | none => { s with gov := { s.gov with restoreCandidate := none, restoreCount := 0 } }
  | some i =>
    if s.gov.restoreCandidate == some i then
      if s.params.sFloor + 16 ≤ backoffFor s.params.pMax (restoredSum s i) then
        { s with gov := { s.gov with restoreCount := min restoreLimit (s.gov.restoreCount + 1) } }
      else { s with gov := { s.gov with restoreCount := 0 } }
    else { s with gov := { s.gov with restoreCandidate := some i, restoreCount := 0 } }

/-! ### The applied factor and the pending sets (R10, R137) -/

/-- The nominal amplitude after backoff (R10). -/
def effectiveAmplitude (a backoff : Nat) : Nat := a * backoff / 256

/-- The pending set that the governor writes for a path (R10). -/
def pendingFor (backoff : Nat) (p : PathRec) : TxSet :=
  match p.cond with
  | .off => TxSet.silent
  | .tagOnly => { cond := .tagOnly, gain := 0, tag := backoff }
  | .full =>
    { cond := .full, gain := p.g * backoff / 256, tag := effectiveAmplitude (fullAmplitude p) backoff / 16 }

/-- The pending set of every path is written (R10). -/
def writePending (backoff : Nat) (s : State) : State :=
  { s with tx := updAll s.tx (fun i t => { t with pendingSet := pendingFor backoff (s.path i) }) }

/-- The applied factor is fixed under a cap, the amplitudes recorded and the pending sets written (R137). -/
def applyBackoff (cap : Nat) (s : State) : State :=
  let b := min (computedBackoff s) cap
  let s1 := { s with gov := { s.gov with
    backoff := b, evaluationCap := cap, amplitudes := Vector.ofFn (fun i => nominalAmplitude (s.path i)) } }
  writePending b s1

/-- s_cap rises by 8, up to 256 (R137). -/
def raiseCap (s : State) : State := { s with gov := { s.gov with cap := min 256 (s.gov.cap + 8) } }

/-- The composite governor's evaluation (R133 to R138), up to a restore that it may call for. -/
def compositeEvaluation (s : State) : State :=
  let s1 := restoreTest (shedLoop 12 (clearShedFlags s))
  raiseCap (applyBackoff s1.gov.cap s1)

/-- One path is restored (R136). -/
def restoreOne (i : PathIx) (s : State) : State :=
  let s1 := recordEvent i .restored (s.modPath i (fun p => { p with shed := false }))
  refreshPath i { s1 with gov := { s1.gov with restoreCandidate := none, restoreCount := 0 } }

/-- RESTORE (R136): the count has reached 1,000, so the candidate is restored within the evaluation, whose applied
factor and pending sets follow under the cap it applied. It is taken at once after the evaluation, by the boundary
itself when another act of the boundary follows (log entry 5). -/
def restore (s : State) : State :=
  match s.gov.restoreCandidate with
  | none => s
  | some i =>
    if restoreLimit ≤ s.gov.restoreCount then applyBackoff s.gov.evaluationCap (restoreOne i s) else s

end Sys2Proof.Machine
end

