-- ==== Sys2Proof/Machine/Site.lean ====
section
/-! DEFINITION. The site transmit state (R139) with all that follows a change of it, clip faults, mute, lockout and
silence grace (8.5, 8.6), the site lines (9.6), and the commands TXPERMIT_CHANGE, MUTE_END, LOCKOUT_END,
FAULT_HISTORY_EXPIRY, GRACE_DEADLINE, KEY_HOLD_EXPIRY and INHIBIT_ALARM. -/

namespace Sys2Proof.Machine

open Sys2Proof

/-! ### The site transmit state (R139) -/

/-- The site transmit state derived from its inputs (R139). -/
def siteOf (station : Station) (lockout mute : Option Time) (permit : Bool) : Site :=
  if station != .running then .silent
  else if lockout.isSome then .lockedOut
  else if mute.isSome then .muted
  else if !permit then .inhibited
  else .transmitting

/-- The derived site transmit state of a state of the part. -/
def State.derivedSite (s : State) : Site :=
  siteOf s.station s.gov.lockoutDeadline s.gov.muteDeadline s.lines.permit

/-- The site is silenced by a mute, a lockout or an inhibit (R145). -/
def Site.silenced (x : Site) : Bool := (x == .muted) || (x == .lockedOut) || (x == .inhibited)

/-- The grace deadline after a change of the site transmit state (R145). -/
def graceAfter (now : Time) (grace : Nat) (old new : Site) (deadline : Option Time) : Option Time :=
  if new == .transmitting then none
  else if new.silenced && !old.silenced then some (laterS now grace)
  else deadline

/-- The site lines after a change of the site transmit state (R155). -/
def linesAfter (now : Time) (grace : Nat) (old new : Site) (l : SiteLines) : SiteLines :=
  if new == .inhibited then { l with inhibitAlarmDeadline := some (laterS now grace) }
  else if old == .inhibited then { l with inhibitAlarmDeadline := none, inhibitAlarm := false }
  else l

/-- The new state is written, with the deadlines that follow the change. -/
def writeSite (new : Site) (s : State) : State :=
  { s with
    gov := { s.gov with
      site := new, graceDeadline := graceAfter s.now s.params.silenceGrace s.gov.site new s.gov.graceDeadline }
    lines := linesAfter s.now s.params.silenceGrace s.gov.site new s.lines }

/-- The site transmit state becomes new (R139): a visit is cut when the site leaves TRANSMITTING (R150), every
condition and ALARM are derived again, and a change into TRANSMITTING sends the freed notices of R104. -/
def enterSite (new : Site) (s : State) : State :=
  let s1 := writeSite new s
  let s2 := if s.gov.site == .transmitting then cutVisit s1 else s1
  let s3 := alarmUpdate (refreshAll s2)
  if s3.claimingPermitted then serveMarks (noticeWaiting s3) else s3

/-- The governor derives the site transmit state again (R139). -/
def rederiveSite (s : State) : State :=
  if s.derivedSite == s.gov.site then s else enterSite s.derivedSite s

/-! ### Clip faults (R140 to R144) -/

/-- The fault history without the times older than 60 s (R142). -/
def recentTimes (now : Time) (ts : List Time) : List Time := ts.filter (fun t => decide (age now t ≤ 60000))

/-- The length of a mute (R141). -/
def muteLength (now : Time) (lastEnd : Option Time) : Nat :=
  match lastEnd with
  | none => 500
  | some t => if age now t ≤ 10000 then 5000 else 500

/-- The governor's record of a clip fault: the history and the mute or lockout deadline (R140, R141, R143). -/
def Governor.recordFault (now : Time) (g : Governor) : Governor :=
  let history := recentTimes now g.faultHistory ++ [now]
  if 3 ≤ history.length then
    { g with faultHistory := history, lockoutDeadline := some (later now 900000), lockoutFlag := true }
  else { g with faultHistory := history, muteDeadline := some (later now (muteLength now g.lastMuteEnd)) }

/-- The pending set of every path is written OFF (R140). -/
def silencePending (s : State) : State :=
  { s with tx := updAll s.tx (fun _ t => { t with pendingSet := TxSet.silent }) }

/-- The acts of a clip fault (R140). -/
def clipFaultAct (s : State) : State :=
  silencePending (rederiveSite { s with gov := s.gov.recordFault s.now })

/-- The governor takes the clip count of the block that ended (R140). -/
def takeClipCount (clips : Nat) (s : State) : State :=
  if decide (s.params.clipLimit < clips) && (s.gov.site == .transmitting) then clipFaultAct s else s

/-- FAULT_HISTORY_EXPIRY (R142). -/
def faultHistoryExpiry (s : State) : State :=
  { s with gov := { s.gov with faultHistory := recentTimes s.now s.gov.faultHistory } }

/-- The s_cap at the end of a mute or a lockout (R144). -/
def softStartCap : Nat := 64

/-- MUTE_END (R141, R144). -/
def muteEnd (s : State) : State :=
  if dueAt s.now s.gov.muteDeadline then
    rederiveSite { s with gov := { s.gov with muteDeadline := none, lastMuteEnd := some s.now, cap := softStartCap } }
  else s

/-- LOCKOUT_END (R143, R144). -/
def lockoutEnd (s : State) : State :=
  if dueAt s.now s.gov.lockoutDeadline then
    rederiveSite { s with gov := { s.gov with
      lockoutDeadline := none, faultHistory := [], lastMuteEnd := none, lockoutFlag := false, cap := softStartCap } }
  else s

/-- GRACE_DEADLINE (R145): the governor orders a silent release (R108). -/
def graceDeadline (s : State) : State :=
  if dueAt s.now s.gov.graceDeadline then
    silentReleaseAll { s with gov := { s.gov with graceDeadline := none } }
  else s

/-! ### Site lines (R155, R156) -/

/-- TXPERMIT_CHANGE (R155): the level taken differs from the level held. -/
def txpermitChange (level : Bool) (s : State) : State :=
  if level == s.lines.permit then s else rederiveSite { s with lines := { s.lines with permit := level } }

/-- KEY_HOLD_EXPIRY (R156). -/
def keyHoldExpiry (s : State) : State :=
  if dueAt s.now s.lines.keyHoldDeadline then
    { s with lines := { s.lines with keyHoldDeadline := none, txkey := false } }
  else s

/-- INHIBIT_ALARM (R155). -/
def inhibitAlarm (s : State) : State :=
  if dueAt s.now s.lines.inhibitAlarmDeadline then
    alarmUpdate { s with lines := { s.lines with inhibitAlarmDeadline := none, inhibitAlarm := true } }
  else s

end Sys2Proof.Machine
end

