-- ==== Sys2Proof/Machine/Loader.lean ====
section
/-! DEFINITION. The configuration loader (10.2 to 10.4): the image, its judgement, clamping and carry entries, its use,
and the commands DEVICE_RESET, CONFIG_BYTE_READ, CONFIG_RETRY, LOAD_END and END_OF_LISTENING. -/

namespace Sys2Proof.Machine

open Sys2Proof

/-- The bytes of an image (10.2). -/
def imageLength : Nat := 141

/-- The image is valid (R159): marker, CRC-16 and station ID. -/
def imageValid (bs : List Byte) : Bool :=
  (field16 bs 0 == 0x4A36) && ((crc16 ((bs.drop 2).take 137)).toNat == field16 bs 139) &&
  (field16 bs 2 != 0) && (field16 bs 2 != 65535)

/-- The parameters as the image stores them (Table 10-1). -/
def storedParams (bs : List Byte) : Params :=
  { stationId := BitVec.ofNat 16 (field16 bs 2)
    networkId := byteAt bs 4
    openFlag := (byteAt bs 5).getLsbD 1
    acceptOpen := (byteAt bs 5).getLsbD 0
    guardDistance := (byteAt bs 6).toNat
    claimHoldOff := (byteAt bs 7).toNat
    holdover := field16 bs 8
    neighbourTimeout := field16 bs 10
    silenceGrace := field16 bs 12
    collisionPersistence := (byteAt bs 14).toNat
    acquireTimeout := field16 bs 15
    sourcePenalty := field16 bs 17
    listenTime := (byteAt bs 19).toNat
    qMin := (byteAt bs 20).toNat
    hopPenalty := (byteAt bs 21).toNat
    switchMargin := (byteAt bs 22).toNat
    switchCount := (byteAt bs 23).toNat
    mFloor := field16 bs 24
    mGood := field16 bs 26
    gMin := field16 bs 28
    gMax := field16 bs 30
    pMax := field32 bs 32
    sFloor := (byteAt bs 36).toNat
    clipLimit := field16 bs 37 }

/-- The parameters brought into their accepted ranges (R160, Table 10-1). -/
def settleParams (p : Params) : Params :=
  let timeout := clampTo 30 600 p.neighbourTimeout
  let floor := clampTo 1 4095 p.mFloor
  let gLow := clampTo 1 65535 p.gMin
  { p with
    guardDistance := clampTo 0 3 p.guardDistance
    claimHoldOff := clampTo 1 60 p.claimHoldOff
    holdover := clampTo 0 600 p.holdover
    neighbourTimeout := timeout
    silenceGrace := clampTo 10 (timeout / 2) p.silenceGrace
    collisionPersistence := clampTo 1 30 p.collisionPersistence
    acquireTimeout := clampTo 500 10000 p.acquireTimeout
    sourcePenalty := clampTo 5 300 p.sourcePenalty
    listenTime := clampTo 0 120 p.listenTime
    qMin := clampTo 0 100 p.qMin
    hopPenalty := clampTo 0 20 p.hopPenalty
    switchMargin := clampTo 0 50 p.switchMargin
    switchCount := clampTo 1 10 p.switchCount
    mFloor := floor
    mGood := clampTo (floor + 1) 32767 p.mGood
    gMin := gLow
    gMax := clampTo gLow 65535 p.gMax
    pMax := clampTo 1 16769025 p.pMax
    clipLimit := clampTo 1 16384 p.clipLimit }

/-- A band plan attribute's two bits (Table 10-1). -/
def readAttr : Nat → SlotAttr
  | 0 => .barred
  | 1 => .watch
  | 2 => .transmit
  | _ => .both

/-- The band plan attribute that the image gives slot k (Table 10-1): slot 4j + m in byte 39 + j, bits 7 − 2m and
6 − 2m. -/
def imageAttr (bs : List Byte) (k : Slot) : SlotAttr :=
  readAttr ((byteAt bs (39 + k.val / 4)).toNat / 2 ^ (6 - 2 * (k.val % 4)) % 4)

/-- The offset of carry entry c in the image (Table 10-1). -/
def carryOffset (c : Nat) : Nat := 55 + 7 * c

/-- The programme ID that the image gives carry entry c, when its enabled bit is set and the ID is not 0 (R161). -/
def imageProgramme (bs : List Byte) (c : Nat) : Option ProgrammeId :=
  let o := carryOffset c
  let pr := word16 (byteAt bs (o + 1)) (byteAt bs (o + 2))
  if (byteAt bs o).getLsbD 7 && pr != 0 then some pr else none

/-- Carry entry c remains enabled (R161): no entry of lower index that is still enabled carries its programme. Of
several entries with one programme the first keeps it, so an earlier entry with the programme is enough. -/
def carryEnabled (bs : List Byte) (c : Nat) : Bool :=
  (imageProgramme bs c).isSome &&
  !((List.range c).any (fun d => imageProgramme bs d == imageProgramme bs c))

/-- The preferred slot of carry entry c, clamped (R160). -/
def carryPreferred (bs : List Byte) (c : Nat) : Slot :=
  ⟨min 63 (byteAt bs (carryOffset c + 6)).toNat, Nat.lt_of_le_of_lt (Nat.min_le_left _ _) (by decide)⟩

/-- Carry entry c settled (R160, R161). -/
def settleCarry (bs : List Byte) (c : Nat) : CarryEntry :=
  let o := carryOffset c
  if carryEnabled bs c then
    { enabled := true
      pinned := (byteAt bs o).getLsbD 6 && mayTransmit (imageAttr bs (carryPreferred bs c))
      programme := word16 (byteAt bs (o + 1)) (byteAt bs (o + 2))
      priority := clampTo 1 8 (byteAt bs (o + 3)).toNat
      target := clampTo 1 4095 (field16 bs (o + 4))
      preferred := carryPreferred bs c }
  else CarryEntry.disabled

/-- Clamping changed a value of carry entry c, which remains enabled (R160). -/
def carryClamped (bs : List Byte) (c : Nat) : Bool :=
  let o := carryOffset c
  carryEnabled bs c &&
  (((settleCarry bs c).priority != (byteAt bs (o + 3)).toNat) ||
   ((settleCarry bs c).target != field16 bs (o + 4)) ||
   ((settleCarry bs c).preferred.val != (byteAt bs (o + 6)).toNat))

/-- Clamping changed a value of the image (R160): CONFIG_CLAMPED. -/
def imageClamped (bs : List Byte) : Bool :=
  (settleParams (storedParams bs) != storedParams bs) || ((List.range 12).any (carryClamped bs))

/-- The record of a path at a valid load (R112): SEEKING, with its first evaluation, when its carry entry is
enabled. -/
def loadPath (now : Time) (enabled : Bool) (i : PathIx) (p : PathRec) : PathRec :=
  if enabled && (p.state == .idle) then { p with state := .seeking, evalDeadline := some (later now (50 * i.val)) }
  else p

/-- The site's station becomes RUNNING (R164). -/
def enterRunning (s : State) : State :=
  rederiveSite { s with station := .running, loader := { s.loader with endOfListening := none } }

/-- END_OF_LISTENING (R164). -/
def endOfListening (s : State) : State :=
  if (s.station == .listen) && dueAt s.now s.loader.endOfListening then enterRunning s else s

/-- What a valid image writes (R160 to R162): parameters, carry entries, band plan, flags, paths, and LISTEN. -/
def installImage (bs : List Byte) (s : State) : State :=
  let carry := Vector.ofFn (fun c : PathIx => settleCarry bs c.val)
  { s with
    params := settleParams (storedParams bs)
    carry := carry
    slots := updAll s.slots (fun k e => { e with attr := imageAttr bs k })
    paths := updAll s.paths (fun i p => loadPath s.now (carry[i.val]).enabled i p)
    station := .listen
    loader := { reading := false, image := [], retryDeadline := none
                endOfListening := some (laterS s.now (settleParams (storedParams bs)).listenTime)
                configInvalid := false, configClamped := imageClamped bs } }

/-- A valid image is taken into use (R162). With a listen time of 0 the station passes through LISTEN at this
boundary (R164). -/
def acceptImage (bs : List Byte) (s : State) : State :=
  let s1 := alarmUpdate (rederiveSite (installImage bs s))
  if s1.params.listenTime == 0 then endOfListening s1 else s1

/-- An invalid image (R163): QUIET, CONFIG_INVALID, and a retry 10 s ahead. -/
def rejectImage (s : State) : State :=
  alarmUpdate (rederiveSite
    { s with
      station := .quiet
      loader := { s.loader with
        reading := false, image := [], retryDeadline := some (later s.now 10000), configInvalid := true } })

/-- A read of the image is complete and waits to be judged. -/
def loadComplete (s : State) : Bool := s.loader.reading && decide (imageLength ≤ s.loader.image.length)

/-- LOAD_END (R159). -/
def loadEnd (s : State) : State :=
  if loadComplete s then
    if imageValid s.loader.image then acceptImage s.loader.image s else rejectImage s
  else s

/-- CONFIG_RETRY (R163): in QUIET, at the retry deadline, the whole image is read again. -/
def configRetry (s : State) : State :=
  if (s.station == .quiet) && dueAt s.now s.loader.retryDeadline then
    { s with loader := { s.loader with retryDeadline := none, reading := true, image := [] } }
  else s

/-- CONFIG_BYTE_READ (R159): the loader takes the byte that the memory delivers, while it reads. -/
def configByteRead (b : Byte) (s : State) : State :=
  if s.loader.reading && decide (s.loader.image.length < imageLength) then
    { s with loader := { s.loader with image := s.loader.image ++ [b] } }
  else s

/-- DEVICE_RESET: every block in its reset state and the load started (R159). The commands waiting stay. -/
def deviceReset (s : State) : State := { State.reset with pending := s.pending }

end Sys2Proof.Machine
end

