-- ==== Sys2Proof/Machine/Tags.lean ====
section
/-! DEFINITION. The relay tag (chapter 2): a framer's work on one tag-line sample and its five ways out of a frame, and
the tag builder with the command FRAME_START. -/

namespace Sys2Proof.Machine

open Sys2Proof

/-! ### Framer constants -/

/-- A run of space samples that is a break (R24). -/
def breakRun : Nat := 192
/-- The limit count within which a start edge is looked for in LEAD (R25). -/
def leadLimit : Nat := 40
/-- The limit count within which a start edge is looked for in BODY (R29). -/
def gapLimit : Nat := 24
/-- The lead byte of a frame (Table 2-3). -/
def leadByte : Byte := 0xB4

/-! ### Conditions that a framer's next step waits on -/

/-- The framer reads bytes or looks for a start edge. -/
def Framer.inFrame (f : Framer) : Bool := (f.state == .lead) || (f.state == .body)

/-- A break is recognised (R24, R28). -/
def Framer.breakDue (f : Framer) : Bool :=
  decide (breakRun ≤ f.spaceRun) && f.outcome.isNone &&
  ((f.state == .hunt) || (f.state == .standby) || (f.inFrame && f.stopSpace))

/-- The limit count has passed a limit with no start edge under verification (R25, R29). -/
def Framer.limitPassed (f : Framer) (limit : Nat) : Bool :=
  decide (limit < f.limit.getD 0) && f.position.isNone && !f.stopSpace && f.outcome.isNone

/-- No start edge of the lead byte has come in time (R25). -/
def Framer.leadDue (f : Framer) : Bool := (f.state == .lead) && f.limitPassed leadLimit

/-- No start edge of a next byte has come in time (R29). -/
def Framer.gapDue (f : Framer) : Bool := (f.state == .body) && f.limitPassed gapLimit

/-- The framer in a state that holds no frame; its space-run count goes on (R24). -/
def Framer.rest (st : FramerState) (f : Framer) : Framer := { Framer.cleared with state := st, spaceRun := f.spaceRun }

/-! ### Bytes (R30 to R33) -/

/-- The network filter of the station (R31). -/
structure NetFilter where
  network : NetworkId
  acceptOpen : Bool
deriving DecidableEq, Repr

/-- A frame's byte 1 and open flag pass the network filter (R31). -/
def NetFilter.passes (nf : NetFilter) (bs : List Byte) : Bool :=
  (byteAt bs 1 == nf.network) || ((byteAt bs 2).getLsbD 7 && nf.acceptOpen)

/-- The outcome that the bytes of a frame decide at the byte just completed, which is byte j of bs; none while the frame
goes on (R31 to R33). crc is the CRC of the bytes before it. -/
def byteOutcome (nf : NetFilter) (bs : List Byte) (j : Nat) (crc : Byte) (noise : Nat) : Option FrameOutcome :=
  let n := claimCount bs
  if j == 2 && decide (12 < n) then some .malformed
  else if j == 2 && !nf.passes bs then some .foreign
  else if j == 4 && ((field16 bs 3 == 0) || (field16 bs 3 == 65535)) then some .malformed
  else if j == 6 && (field16 bs 5 == 0) then some .malformed
  else if decide (11 ≤ j) && decide (j < 10 + n) &&
      decide ((claimSlot (byteAt bs j)).val ≤ (claimSlot (byteAt bs (j - 1))).val) then some .malformed
  else if decide (10 ≤ j) && j == 10 + n then
    (if byteAt bs j == crc then some (.good bs noise) else some .crcFail)
  else none

/-- The framer completes a byte (R27, R30 to R33). -/
def Framer.completeByte (nf : NetFilter) (f : Framer) : Framer :=
  let b := f.shift
  let bs := f.buffer ++ [b]
  let f1 := { f with buffer := bs, position := none, votes := 0, limit := some 0 }
  if f.state == .lead then
    if b == leadByte then { f1 with state := .body, crc := crc8Byte 0 b } else { f1 with outcome := some .malformed }
  else
    match byteOutcome nf bs f.buffer.length f.crc f.noise with
    | some o => { f1 with outcome := some o }
    | none => { f1 with crc := crc8Byte f.crc b }

/-! ### Bits (R26, R27) -/

/-- The count of space samples with one more sample. -/
def addVote (space : Bool) (n : Nat) : Nat := if space then n + 1 else n

/-- A bit whose three deciding samples are not all alike is noisy (R27). -/
def noisyBit (votes : Nat) : Bool := (votes == 1) || (votes == 2)

/-- A start bit's sample j is taken (R26). The manual does not say whether sample 8 of a false edge, a space after a mark,
may itself be the new start edge; the model looks for one from sample 9 on, its choice (log entry 26). -/
def Framer.startSample (space : Bool) (p j : Nat) (f : Framer) : Framer :=
  let v := if j == 4 || j == 6 || j == 8 then addVote space f.votes else f.votes
  if j < 8 then { f with position := some p, votes := v, limit := f.limit.map (· + 1) }
  else if j == 8 then
    if 2 ≤ v then
      { f with position := some p, votes := 0, limit := none, noise := if v == 2 then f.noise + 1 else f.noise }
    else { f with position := none, votes := 0, limit := f.limit.map (· + 1) }
  else { f with position := some p }

/-- Data bit b, 1 to 8, decided with a count of space samples (R27): the byte fills from its least significant bit. -/
def fillBit (b votes : Nat) (shift : Byte) : Byte := if 2 ≤ votes then shift else shift ||| (1#8 <<< (b - 1))

/-- A data bit's or the stop bit's sample j of bit b is taken (R27, R28). The manual does not say whether sample 11 of a stop
bit read as space, when it is mark itself, is the mark sample that ends the frame as FRAMING; the model watches from the
sample after it on, its choice (log entry 30). -/
def Framer.bitSample (nf : NetFilter) (space : Bool) (p b j : Nat) (f : Framer) : Framer :=
  let v := if j == 9 || j == 10 || j == 11 then addVote space f.votes else f.votes
  if j == 11 then
    let f1 := { f with position := some p, votes := 0, noise := if noisyBit v then f.noise + 1 else f.noise }
    if b < 9 then { f1 with shift := fillBit b v f.shift }
    else if 2 ≤ v then { f1 with position := none, stopSpace := true }
    else f1.completeByte nf
  else { f with position := some p, votes := v }

/-- A sample is taken while a start edge is followed; p is its number from the edge (R26). -/
def Framer.byteSample (nf : NetFilter) (space : Bool) (p : Nat) (f : Framer) : Framer :=
  if p ≤ 16 then f.startSample space p p else f.bitSample nf space p ((p - 1) / 16) ((p - 1) % 16 + 1)

/-- The limit count within which the framer looks for a start edge (R25, R29). -/
def Framer.edgeLimit (f : Framer) : Nat := if f.state == .lead then leadLimit else gapLimit

/-- A sample is taken while a start edge is looked for; wasMark says that the sample before it was mark (R25, R26,
R29). -/
def Framer.edgeSample (space wasMark : Bool) (f : Framer) : Framer :=
  let lim := f.limit.getD 0 + 1
  if space && wasMark && decide (lim ≤ f.edgeLimit) then
    { f with limit := some lim, position := some 1, votes := 0, shift := 0 }
  else { f with limit := some lim }

/-- A sample is taken in LEAD or BODY. -/
def Framer.frameSample (nf : NetFilter) (space wasMark : Bool) (f : Framer) : Framer :=
  if f.outcome.isSome then f
  else if f.stopSpace then (if space then f else { f with stopSpace := false, outcome := some .framing })
  else match f.position with
    | none => f.edgeSample space wasMark
    | some p => f.byteSample nf space (p + 1)

/-- The space-run count after a sample (R24). -/
def nextRun (space : Bool) (run : Nat) : Nat := if space then min breakRun (run + 1) else 0

/-- A framer takes one tag-line sample (R23 to R33). -/
def Framer.sample (nf : NetFilter) (space : Bool) (f : Framer) : Framer :=
  let f1 := { f with spaceRun := nextRun space f.spaceRun }
  match f.state with
  | .hunt => f1
  | .standby => f1
  | .brk => if space then f1 else { f1 with state := .lead, limit := some 1 }
  | .lead => f1.frameSample nf space (f.spaceRun == 0)
  | .body => f1.frameSample nf space (f.spaceRun == 0)

/-- The network filter of the station's parameters (R31). -/
def State.netFilter (s : State) : NetFilter := { network := s.params.networkId, acceptOpen := s.params.acceptOpen }

/-- BREAK_RECOGNISED of a framer (R24, R28). -/
def breakRecognised (ix : FramerIx) (s : State) : State :=
  if (s.framer ix).breakDue then s.modFramer ix (Framer.rest .brk) else s

/-- LEAD_TIMEOUT of a framer (R25). -/
def leadTimeout (ix : FramerIx) (s : State) : State :=
  if (s.framer ix).leadDue then s.modFramer ix (Framer.rest .hunt) else s

/-- BYTE_GAP_TIMEOUT of a framer (R29). -/
def byteGapTimeout (ix : FramerIx) (s : State) : State :=
  if (s.framer ix).gapDue then s.modFramer ix (Framer.rest .hunt) else s

/-! ### The frame as sent (R22, R37) -/

/-- Bit-time t of a frame of these bytes (R22). -/
def frameTone (bs : List Byte) (t : Nat) : Tone :=
  if t < 20 then .space
  else if t < 21 then .mark
  else if t < 21 + 10 * bs.length then
    let r := (t - 21) % 10
    if r == 0 then .space
    else if r == 9 then .mark
    else if (byteAt bs ((t - 21) / 10)).getLsbD (r - 1) then .mark else .space
  else .mark

/-- The bit-times of a frame of these bytes that carry it: 131 + 10n (R22, R38). -/
def frameBits (bs : List Byte) : Nat := 21 + 10 * bs.length

/-- The claim bytes of a snapshot (R37): one for each slot with an own claim, in ascending slot order. -/
def claimBytes (s : State) : List Byte :=
  ((indices 64).filter (fun k => (s.slot k).own != .none)).map
    (fun k => claimByte (s.slot k).ownPinned ((s.slot k).own == .held) k)

/-- The hop depth that a path advertises (R37). -/
def advertisedDepth (p : PathRec) : Nat :=
  match p.selected with
  | none => 15
  | some x => min 15 (x.depth + 1)

/-- The upstream station that a path advertises (R37). -/
def advertisedUpstream (p : PathRec) : StationId :=
  match p.selected with
  | none => 0
  | some x => x.station

/-- The programme absent flag of a path's snapshot (R37). R37 also says that an advertised depth of 15 always comes with the
flag, yet its own formulas give a FULL path on a source of depth 14 the depth 15 with the flag clear; the model follows
the formulas, its choice (log entry 25). -/
def advertisedAbsent (p : PathRec) : Bool := (p.cond != .full) || p.selected.isNone

/-- The flag byte of a snapshot (Table 2-3, byte 2). -/
def flagByte (s : State) (absent : Bool) (n : Nat) : Byte :=
  byteOf (flagBit s.params.openFlag 7 + flagBit absent 6 + flagBit s.pinnedCollision 5 +
    flagBit s.loader.configClamped 4 + n)

/-- The monitor failure count of a snapshot, saturated at 15 (R37, R153). -/
def failureCount (s : State) : Nat := min 15 s.mon.failureLog.length

/-- The bytes of a path's snapshot before its CRC (R37, Table 2-3). -/
def snapshotBody (s : State) (i : PathIx) : List Byte :=
  let p := s.path i
  let claims := claimBytes s
  [leadByte, s.params.networkId, flagByte s (advertisedAbsent p) claims.length] ++
  bytes16 s.params.stationId.toNat ++ bytes16 (s.carryOf i).programme.toNat ++
  [byteOf (advertisedDepth p * 16 + failureCount s)] ++ bytes16 (advertisedUpstream p).toNat ++ claims

/-- The bytes of a path's snapshot (R37). -/
def snapshotBytes (s : State) (i : PathIx) : List Byte := snapshotBody s i ++ [crc8 (snapshotBody s i)]

/-! ### The tag builder (R36 to R40) -/

/-- The programme absent flag of a snapshot is clear. -/
def promisesFull (bs : List Byte) : Bool := !(byteAt bs 2).getLsbD 6

/-- The frame of a path is to be abandoned (R39). -/
def abandonDue (c : Cond) (b : BuilderPath) : Bool :=
  match b.snapshot with
  | none => false
  | some bs => promisesFull bs && decide (b.bitPosition < frameBits bs) && (c != .full)

/-- The tone that the builder hands at the path's bit position (R38, R39). -/
def BuilderPath.tone (b : BuilderPath) : Tone :=
  match b.snapshot with
  | none => .mark
  | some bs => if b.abandoned then .mark else frameTone bs b.bitPosition

/-- The builder's record of a path after the check of R39. -/
def BuilderPath.checked (c : Cond) (b : BuilderPath) : BuilderPath :=
  { b with abandoned := b.abandoned || abandonDue c b }

/-- A transmit side takes the tone handed to it, and discards it while its condition in use is OFF (R12). -/
def TxSide.takeTone (x : Tone) (t : TxSide) : TxSide := { t with tone := if t.inUse.cond == .off then none else some x }

/-- The builder checks one path's frame and hands its bit (R38, R39). Each path's check has its own place in the order of a
boundary, before a change of the path's condition or after it (log entry 23). -/
def handBit (i : PathIx) (s : State) : State :=
  let b := (s.builderPath i).checked (s.path i).cond
  (s.modBuilder i (fun _ => { b with bitPosition := b.bitPosition + 1 })).modTx i (TxSide.takeTone b.tone)


/-- A snapshot is taken for the path at this frame start (R37, R40). A frame start at the load-end boundary itself, sent after
LOAD_END, finds the station in LISTEN and takes one, as R37 has it, although R162 speaks of the first frame start after
that time; the choice is the model's (log entry 28). -/
def takesSnapshot (s : State) (i : PathIx) : Bool := listening s.station && (s.carryOf i).enabled

/-- What the builder keeps for a path from a frame start on (R36, R37, R39, R40). -/
def startFrame (s : State) (i : PathIx) (b : BuilderPath) : BuilderPath :=
  if takesSnapshot s i then
    { snapshot := some (snapshotBytes s i), bitPosition := 0, keptDepth := advertisedDepth (s.path i)
      abandoned := false }
  else { b with snapshot := none, bitPosition := 0, abandoned := false }

/-- The frame period, in ms (R36). -/
def framePeriod : Nat := 400

/-- A frame start (R36, R37): every path's snapshot and its bit position at 0. -/
def takeSnapshots (s : State) : State :=
  { s with builder :=
    { frameTimer := s.builder.frameTimer - framePeriod, paths := updAll s.builder.paths (startFrame s) } }

/-- The frame timer has expired (R36). -/
def frameTimerExpired (s : State) : Bool := decide (framePeriod ≤ s.builder.frameTimer)

/-- A frame start among the acts of its boundary (R36): the snapshots, and bit-time 0 handed for the block that begins.
`ahead` names the paths whose bit the boundary has still to hand: their hand-over gives bit-time 0. -/
def frameStartAmong (ahead : PathIx → Bool) (s : State) : State :=
  if frameTimerExpired s then forPaths (fun i t => if ahead i then t else handBit i t) (takeSnapshots s) else s

/-- FRAME_START (R36), sent after its boundary: every path's bit-time 0 is handed. -/
def frameStart (s : State) : State := frameStartAmong (fun _ => false) s

end Sys2Proof.Machine
end

