-- ==== Sys2Proof/Machine/Neighbours.lean ====
section
/-! DEFINITION. The neighbour list (chapter 4): taking a frame, replacement in a full list, mass release, the ageing
sweeps of the list and of the source table; the commands NEIGHBOUR_SWEEP and SOURCE_SWEEP. -/

namespace Sys2Proof.Machine

open Sys2Proof

/-- The most records the neighbour list holds (Table 0-5). -/
def neighbourCapacity : Nat := 24

/-- The kind of framer that delivered a frame (R42). -/
inductive FramerKind where
  | relay
  | survey
deriving DecidableEq, Repr

/-- Where heard of a record made by one frame (R58). -/
def FramerKind.whereHeard : FramerKind → WhereHeard
  | .relay => .relay
  | .survey => .survey

/-- Where heard after one more frame (R61). -/
def WhereHeard.add (w : WhereHeard) (k : FramerKind) : WhereHeard := if w == k.whereHeard then w else .both

/-! ### Mass release (R64, R80, R93) -/

/-- The source table removes entries and hands the notice of each that a path has selected (R79, R80). -/
def removeSources (gone : Source → Bool) (s : State) : State :=
  (s.sources.filter gone).foldl noticeRemoved { s with sources := s.sources.filter (fun e => !gone e) }

/-- The source table takes a mass release (R80). -/
def releaseStationSources (st : StationId) (s : State) : State := removeSources (fun e => e.station == st) s

/-- A mass release of a station, taken by the two tables in either order (R64). -/
def massRelease (order : ReleaseOrder) (st : StationId) (s : State) : State :=
  match order with
  | .claimsFirst => releaseStationSources st (releaseStationClaims st s)
  | .sourcesFirst => releaseStationClaims st (releaseStationSources st s)

/-! ### Taking a frame (R57 to R62) -/

/-- The record that a frame makes (R58). -/
def newNeighbour (now : Time) (f : Frame) (k : FramerKind) : Neighbour :=
  { station := f.station, network := f.network, lastHeard := now, lastAbsent := f.absent, lowestDepth := f.depth
    lowestDepthTime := now, whereHeard := k.whereHeard }

/-- The record refreshed by a frame (R61). -/
def Neighbour.refresh (now : Time) (f : Frame) (k : FramerKind) (r : Neighbour) : Neighbour :=
  let lower := decide (f.depth ≤ r.lowestDepth) || decide (60000 < age now r.lowestDepthTime)
  { r with
    lastHeard := now, lastAbsent := f.absent
    lowestDepth := if lower then f.depth else r.lowestDepth
    lowestDepthTime := if lower then now else r.lowestDepthTime
    whereHeard := r.whereHeard.add k }

/-- A record at the place its station ID gives it (R56). -/
def placeNeighbour (r : Neighbour) : List Neighbour → List Neighbour
  | [] => [r]
  | x :: rest => if r.station < x.station then r :: x :: rest else x :: placeNeighbour r rest

/-- The record of a station. -/
def findNeighbour (st : StationId) (ns : List Neighbour) : Option Neighbour := ns.find? (fun r => r.station == st)

/-- The station is held in the list. -/
def holdsNeighbour (s : State) (st : StationId) : Bool := (findNeighbour st s.neighbours).isSome

/-- Record a is the replacement candidate before record b (R59): older last heard, then SURVEY, then the larger lowest
depth, then the absent flag set, then the higher station ID. -/
def candidateBefore (now : Time) (a b : Neighbour) : Bool :=
  if age now a.lastHeard != age now b.lastHeard then decide (age now b.lastHeard < age now a.lastHeard)
  else if (a.whereHeard == .survey) != (b.whereHeard == .survey) then a.whereHeard == .survey
  else if a.lowestDepth != b.lowestDepth then decide (b.lowestDepth < a.lowestDepth)
  else if a.lastAbsent != b.lastAbsent then a.lastAbsent
  else decide (b.station < a.station)

/-- The replacement candidate (R59). -/
def replacementCandidate (now : Time) (ns : List Neighbour) : Option Neighbour :=
  ns.foldl (fun best r => match best with
    | none => some r
    | some b => if candidateBefore now r b then some r else some b) none

/-- A record removed from the list. -/
def dropNeighbour (st : StationId) (s : State) : State :=
  { s with neighbours := s.neighbours.filter (fun r => r.station != st) }

/-- A successful insertion (R58): NEIGHBOUR_OVERFLOW is cleared. -/
def insertNeighbour (r : Neighbour) (s : State) : State :=
  { s with neighbours := placeNeighbour r s.neighbours, neighbourOverflow := false }

/-- Every record of a station changed. -/
def modNeighbour (st : StationId) (f : Neighbour → Neighbour) (s : State) : State :=
  { s with neighbours := s.neighbours.map (fun r => if r.station == st then f r else r) }

/-- The age, in ms, that a candidate must pass to be evicted (R59). -/
def evictionAge : Nat := 10000

/-- A frame of an unheld station meets a full list (R59, R60). -/
def meetFullList (order : ReleaseOrder) (r : Neighbour) (s : State) : State :=
  match replacementCandidate s.now s.neighbours with
  | none => { s with neighbourOverflow := true }
  | some c =>
    if evictionAge < age s.now c.lastHeard then
      insertNeighbour r (massRelease order c.station (dropNeighbour c.station s))
    else { s with neighbourOverflow := true }

/-- The neighbour list takes a frame (R57). -/
def takeNeighbour (order : ReleaseOrder) (f : Frame) (k : FramerKind) (s : State) : State :=
  match findNeighbour f.station s.neighbours with
  | some r =>
    if r.network == f.network then modNeighbour f.station (Neighbour.refresh s.now f k) s
    else modNeighbour f.station (fun _ => newNeighbour s.now f k) (massRelease order f.station s)
  | none =>
    if s.neighbours.length < neighbourCapacity then insertNeighbour (newNeighbour s.now f k) s
    else meetFullList order (newNeighbour s.now f k) s

/-! ### Ageing (R63, R79) -/

/-- A time is older than the neighbour timeout (R63, R79). -/
def agedOut (p : Params) (now last : Time) : Bool := decide (1000 * p.neighbourTimeout ≤ age now last)

/-- The order in which the two tables take a station's mass release in a sweep (R64). -/
def sweepOrder (sourcesFirst : List StationId) (st : StationId) : ReleaseOrder :=
  if sourcesFirst.contains st then .sourcesFirst else .claimsFirst

/-- One step of the ageing sweep (R63). -/
def sweepStep (sourcesFirst : List StationId) (s : State) (r : Neighbour) : State :=
  if agedOut s.params s.now r.lastHeard then
    massRelease (sweepOrder sourcesFirst r.station) r.station (dropNeighbour r.station s)
  else s

/-- NEIGHBOUR_SWEEP (R63): on a whole second, the records in ascending station ID, each release in its own order (R64). -/
def neighbourSweep (sourcesFirst : List StationId) (s : State) : State :=
  if s.timing.wholeSecond then s.neighbours.foldl (sweepStep sourcesFirst) s else s

/-- SOURCE_SWEEP (R79): on a whole second. -/
def sourceSweep (s : State) : State :=
  if s.timing.wholeSecond then removeSources (fun e => agedOut s.params s.now e.lastHeard) s else s

end Sys2Proof.Machine
end

