-- ==== Sys2Proof/Machine/Monitor.lean ====
section
/-! DEFINITION. The monitor receiver (9.3 to 9.5): visits, verdicts, the chain test and transmit faults; the commands
VISIT_START, VISIT_TIMEOUT, TX_RESTORED and FAILURE_LOG_EXPIRY. -/

namespace Sys2Proof.Machine

open Sys2Proof

/-- The most times the failure log holds (R153). -/
def failureCapacity : Nat := 15

/-- A path may be visited (R148). -/
def mayVisit (s : State) (i : PathIx) : Bool :=
  s.onAir i && ((s.txSide i).inUse.cond != .off) && (s.txSide i).slotInUse.isSome &&
  ((s.txSide i).slotInUse == (s.path i).output)

/-- A visit starts on a path and its output slot (R149). -/
def startVisit (i : PathIx) (k : Slot) (s : State) : State :=
  { s with mon :=
    { s.mon with
      rx := s.mon.rx.retune (slotWord k)
      framer := Framer.cleared
      visitPosition := nextPath i
      visit := some { phase := .warmUp, path := i, slot := k, cond := (s.path i).cond, deadline := later s.now 700 } } }

/-- The path that the next visit takes (R148). -/
def visitChoice (s : State) : Option PathIx := (pathsFrom s.mon.visitPosition).find? (mayVisit s)

/-- The monitor receiver chooses a path and starts the visit (R148, R149). -/
def chooseVisit (s : State) : State :=
  match visitChoice s with
  | none => s
  | some i =>
    match (s.path i).output with
    | none => s
    | some k => startVisit i k s

/-- VISIT_START (R148, R149): taken in BETWEEN while the site is TRANSMITTING. -/
def visitStart (s : State) : State :=
  if s.mon.visit.isNone && (s.gov.site == .transmitting) then chooseVisit s else s

/-! ### Verdicts (R151, R152) -/

/-- The monitor fail count of every path that has no transmit fault becomes 0 (R152). -/
def clearFailCounts (s : State) : State :=
  { s with paths := updAll s.paths (fun _ p => if p.txFaultDeadline.isSome then p else { p with monitorFails := 0 }) }

/-- A passing verdict on a path (R152). -/
def passVerdict (i : PathIx) (s : State) : State :=
  let s1 := (cutVisit (s.modPath i (fun p => { p with monitorFails := 0 }))).setVerdict i (some .pass)
  if s.mon.chainFault then alarmUpdate (clearFailCounts { s1 with mon := { s1.mon with chainFault := false } }) else s1

/-- The failure log with one more time (R153): a full log first drops its oldest. -/
def logFailure (now : Time) (log : List Time) : List Time :=
  (if log.length < failureCapacity then log else log.drop (log.length + 1 - failureCapacity)) ++ [now]

/-- The number of paths on the air. -/
def onAirCount (s : State) : Nat := ((indices 12).filter s.onAir).length

/-- The chain fails (R152): at least two paths on the air, each with a latest verdict of FAIL. -/
def chainFails (s : State) : Bool :=
  decide (2 ≤ onAirCount s) && (indices 12).all (fun i => !s.onAir i || (s.verdict i == some .fail))

/-- A path enters transmit fault (R154). -/
def enterTxFault (i : PathIx) (s : State) : State :=
  refreshPath i (recordEvent i .txFault
    (s.modPath i (fun p => { p with txFaultDeadline := some (later s.now 30000) })))

/-- The record of a failing verdict, before the chain test (R152, R153). -/
def recordFail (i : PathIx) (s : State) : State :=
  let s1 := cutVisit (s.modPath i (fun p => { p with monitorFails := min 2 (p.monitorFails + 1) }))
  ({ s1 with mon := { s1.mon with failureLog := logFailure s.now s1.mon.failureLog } }).setVerdict i (some .fail)

/-- A failing verdict on a path (R152). -/
def failVerdict (i : PathIx) (s : State) : State :=
  let s1 := recordFail i s
  if s1.mon.chainFault || chainFails s1 then alarmUpdate { s1 with mon := { s1.mon with chainFault := true } }
  else if 2 ≤ (s1.path i).monitorFails then enterTxFault i s1
  else s1

/-- The own-tag check of a good monitor frame (R151). -/
def ownTagCheck (f : Frame) (s : State) : State :=
  match s.mon.visit with
  | none => s
  | some v =>
    if v.phase == .listening then
      if (f.station == s.params.stationId) && (f.programme == (s.carryOf v.path).programme) then passVerdict v.path s
      else failVerdict v.path s
    else s

/-- VISIT_TIMEOUT (R151). -/
def visitTimeout (s : State) : State :=
  match s.mon.visit with
  | none => s
  | some v => if (v.phase == .listening) && reached s.now v.deadline then failVerdict v.path s else s

/-- FAILURE_LOG_EXPIRY (R153). -/
def failureLogExpiry (s : State) : State :=
  { s with mon := { s.mon with failureLog := recentTimes s.now s.mon.failureLog } }

/-- The acts of a transmit fault's end (R154). -/
def endTxFault (i : PathIx) (s : State) : State :=
  refreshPath i (recordEvent i .txRestored
    (s.modPath i (fun p => { p with txFaultDeadline := none, monitorFails := 0 })))

/-- TX_RESTORED of path i (R154). -/
def txRestored (i : PathIx) (s : State) : State :=
  if dueAt s.now (s.path i).txFaultDeadline then endTxFault i s else s

/-- The visit takes the monitor receive side's block report (R147, R149): the warm-up report moves it to LISTENING. -/
def Visit.takeReport (report : Option Nat) (v : Visit) : Visit :=
  if (v.phase == .warmUp) && report.isNone then { v with phase := .listening } else v

/-- The monitor receive side closes its block and the visit takes the report. -/
def monitorReport (s : State) : State :=
  { s with mon :=
    { s.mon with rx := s.mon.rx.close, visit := s.mon.visit.map (Visit.takeReport s.mon.rx.report) } }

end Sys2Proof.Machine
end

