-- ==== Sys2Proof/Machine/Intake.lean ====
section
/-! DEFINITION. Tag intake (2.5): the routing of a framer's outcome, the source table's act on a frame, and the command
FRAMER_OUTCOME. -/

namespace Sys2Proof.Machine

open Sys2Proof

/-- The source table takes a good frame of a held station (R68 to R72). -/
def takeSourceFrame (f : Frame) (heard : Slot) (noise : Nat) (latest : Option Nat) (s : State) : State :=
  match findSource heard f.station s.sources with
  | none => if matchesCarry s f then { s with sources := admitSource s (newSource s f heard noise latest) } else s
  | some e =>
    if matchesCarry s f then
      noticeChanged (updateSource s f noise latest e) (modSource heard f.station (updateSource s f noise latest) s)
    else removeSources (Source.hasKey heard f.station) s

/-- The slot on which a framer's frame was heard (R42). -/
def heardBy (s : State) (ix : FramerIx) : Slot := heardSlot (s.rxOf ix).word

/-- The magnitude that the source table takes with a frame (R73). -/
def latestMeasurement (s : State) : FramerIx → Option Nat
  | .path i => (s.rxSide i).latest
  | .survey => s.survey.dwell.bind (fun d => d.latest)
  | .monitor => none

/-- The kind of a framer (R42). -/
def kindOf : FramerIx → FramerKind
  | .path _ => .relay
  | .survey => .survey
  | .monitor => .relay

/-- A good frame of a held station goes to the slot claim table, to the source table and, from a path framer, to the
path controller (R42). -/
def routeHeld (ix : FramerIx) (cancelAfter : Nat) (f : Frame) (noise : Nat) (s : State) : State :=
  let heard := heardBy s ix
  let s1 := takeClaims cancelAfter f.station f.claims heard s
  let s2 := takeSourceFrame f heard noise (latestMeasurement s1 ix) s1
  match ix with
  | .path i => takeGoodFrame i f.station f.programme heard s2
  | .survey => s2
  | .monitor => s2

/-- A good frame of another station goes to the neighbour list and, when the station is then held, on (R42). -/
def routeOther (ix : FramerIx) (order : OutcomeOrder) (f : Frame) (noise : Nat) (s : State) : State :=
  let s1 := takeNeighbour order.release f (kindOf ix) s
  if holdsNeighbour s1 f.station then routeHeld ix order.cancelAfter f noise s1 else s1

/-- A good frame of a path framer or of the survey framer (R42). -/
def routeGood (ix : FramerIx) (order : OutcomeOrder) (bs : List Byte) (noise : Nat) (s : State) : State :=
  let f := readFrame bs
  if f.station == s.params.stationId then s
  else
    let s1 := routeOther ix order f noise s
    match ix with
    | .survey => dwellFrame s1
    | .path _ => s1
    | .monitor => s1

/-- Tag intake takes an outcome in LISTEN or RUNNING (R41 to R43). -/
def routeOutcome (ix : FramerIx) (order : OutcomeOrder) (o : FrameOutcome) (s : State) : State :=
  match ix, o with
  | .monitor, .good bs _ => ownTagCheck (readFrame bs) s
  | .monitor, .crcFail => s
  | .path i, .good bs noise => routeGood (.path i) order bs noise s
  | .survey, .good bs noise => routeGood .survey order bs noise s
  | .path i, .crcFail => integrityFailure i s
  | .survey, .crcFail => s
  | _, .framing => s
  | _, .foreign => s
  | _, .malformed => s

/-- The state a framer takes with an outcome (R28, R30 to R33, R35): STANDBY after FOREIGN, HUNT after any other. -/
def outcomeState : FrameOutcome → FramerState
  | .foreign => .standby
  | .good _ _ => .hunt
  | .crcFail => .hunt
  | .framing => .hunt
  | .malformed => .hunt

/-- A framer reports an outcome and tag intake takes it; in LOADING and QUIET it goes to no block (R41). -/
def reportOutcome (ix : FramerIx) (order : OutcomeOrder) (o : FrameOutcome) (s : State) : State :=
  let s1 := s.modFramer ix (Framer.rest (outcomeState o))
  if listening s.station then routeOutcome ix order o s1 else s1

/-- FRAMER_OUTCOME of a framer (R41): the outcome that its latest sample decided. -/
def framerOutcome (ix : FramerIx) (order : OutcomeOrder) (s : State) : State :=
  match (s.framer ix).outcome with
  | none => s
  | some o => reportOutcome ix order o s

end Sys2Proof.Machine
end

