-- ==== Sys2Proof/Machine/Samples.lean ====
section
/-! DEFINITION. The sample streams (chapter 1, R44, R147) and the tag line (R23): the commands BAND_INPUT_SAMPLE,
COUPLER_INPUT_SAMPLE, COMPOSITE_SAMPLE and TAG_LINE_SAMPLE. -/

namespace Sys2Proof.Machine

open Sys2Proof

/-! ### Input ports and receive sides -/

/-- A port takes one pair and presents it unchanged (R3, R147). -/
def InputPort.take (x : IQ) (p : InputPort) : InputPort :=
  { alignment := (p.alignment + 1) % samplesPerBlock, presented := x }

/-- A receive side's oscillator adds its word once per input sample (R1). -/
def RxSide.advance (r : RxSide) : RxSide := { r with phase := r.phase + r.word }

/-- The most samples a block's measurement holds (1.4). -/
def measureSamples : Nat := 256

/-- A receive side measures one programme-channel sample (R6). -/
def RxSide.measure (x : IQ) (r : RxSide) : RxSide :=
  if r.count < measureSamples then { r with sum := r.sum + sampleMagnitude x, count := r.count + 1 } else r

/-- A receive side takes one input sample; a channel sample ends at every 64th (R4). -/
def RxSide.takeSample (ends : Bool) (x : IQ) (r : RxSide) : RxSide :=
  if ends then r.advance.measure x else r.advance

/-- The phase step of a tag tone at one channel sample (R12, R21): 80 kHz for mark and 64 kHz for space, at 256,000
samples a second and 2^32 to the turn. -/
def toneStep : Tone → TuningWord
  | .mark => 1342177280
  | .space => 1073741824

/-- The tone runs on by one channel sample (R12). Only the step follows the bit, so the phase is kept across a change of
bit. -/
def TxSide.advanceTone (t : TxSide) : TxSide :=
  match t.tone with
  | none => t
  | some x => { t with tonePhase := t.tonePhase + toneStep x }

/-- A transmit side takes a programme-channel sample of its own receive side (R11) and runs its tag tone on (R12). -/
def TxSide.takeProgramme (x : IQ) (t : TxSide) : TxSide := { t.advanceTone with channel := scaledSample t.inUse x }

/-- BAND_INPUT_SAMPLE (R3): the port pairs the sample and presents it to the 12 receive sides and the survey receiver;
at every 64th sample each of them measures a programme-channel sample (R4, R6), and each transmit side takes its path's
(R11) and its tone runs on (R12). -/
def bandInputSample (x : IQ) (chans : Vector IQ 12) (survey : IQ) (s : State) : State :=
  let ends := endsChannelSample s.band.alignment
  { s with
    band := s.band.take x
    rx := updAll s.rx (fun i r => r.takeSample ends chans[i.val])
    tx := if ends then updAll s.tx (fun i t => t.takeProgramme chans[i.val]) else s.tx
    survey := { s.survey with rx := s.survey.rx.takeSample ends survey } }

/-- COUPLER_INPUT_SAMPLE (R147): the coupler port pairs the sample and presents it to the monitor receive side. -/
def couplerInputSample (x chan : IQ) (s : State) : State :=
  { s with
    coupler := s.coupler.take x
    mon := { s.mon with rx := s.mon.rx.takeSample (endsChannelSample s.coupler.alignment) chan } }

/-! ### Composite output (R13, R15) -/

/-- A transmit side sends its samples to the port through this block (R13), which an OFF side never does (R11). -/
def TxSide.sends (t : TxSide) : Bool :=
  (t.inUse.cond != .off) && t.slotInUse.isSome && (t.slotInUse == t.recordSlot)

/-- The sample that a path's transmit side gives the port: what its filter and mixer give, or zero (R13). -/
def sideSample (s : State) (sides : Vector WideIQ 12) (i : PathIx) : WideIQ :=
  if (s.txSide i).sends then sides[i.val] else ⟨0, 0⟩

/-- The sum of the 12 in-phase parts, at full width (R15). -/
def sumI (s : State) (sides : Vector WideIQ 12) : Int := ((indices 12).map (fun i => (sideSample s sides i).i)).sum

/-- The sum of the 12 quadrature parts, at full width (R15). -/
def sumQ (s : State) (sides : Vector WideIQ 12) : Int := ((indices 12).map (fun i => (sideSample s sides i).q)).sum

/-- The most clips a block counts (R16). -/
def clipCapacity : Nat := 16384

/-- The composite port after one sample instant (R15). -/
def CompositePort.take (x y : Int) (c : CompositePort) : CompositePort :=
  { clips := if outside16 x || outside16 y then min clipCapacity (c.clips + 1) else c.clips
    out := ⟨saturate16 x, saturate16 y⟩ }

/-- COMPOSITE_SAMPLE (R15), with the 12 transmit oscillators (R1). -/
def compositeSample (sides : Vector WideIQ 12) (s : State) : State :=
  { s with
    composite := s.composite.take (sumI s sides) (sumQ s sides)
    tx := updAll s.tx (fun _ t => { t with phase := t.phase + t.word }) }

/-! ### Tag line (R5, R23) -/

/-- What the framer's latest sample decided is taken, when it has not been: a break (R24, R28), a limit passed (R25,
R29) or an outcome (R33). -/
def settleFramer (ix : FramerIx) (s : State) : State :=
  framerOutcome ix ⟨.claimsFirst, 0⟩ (byteGapTimeout ix (leadTimeout ix (breakRecognised ix s)))

/-- The framer takes the sample (R5, R23). -/
def feedFramer (ix : FramerIx) (tone : Tone) (s : State) : State :=
  s.modFramer ix (Framer.sample s.netFilter (presentedTone (s.rxOf ix).warmUp tone == .space))

/-- TAG_LINE_SAMPLE of a framer (R23). -/
def tagLineSample (ix : FramerIx) (tone : Tone) (s : State) : State := feedFramer ix tone (settleFramer ix s)

end Sys2Proof.Machine
end

