-- ==== Sys2Proof/Machine/Status.lean ====
section
/-! DEFINITION. The status record and the status line (10.5): the commands STATUS_RECORD and STATUS_BIT_SENT. -/

namespace Sys2Proof.Machine

open Sys2Proof

/-- The code of a station state (Table 10-5). -/
def Station.code : Station → Nat
  | .loading => 0
  | .quiet => 1
  | .listen => 2
  | .running => 3

/-- The code of a site transmit state (Table 10-5). -/
def Site.code : Site → Nat
  | .transmitting => 0
  | .muted => 1
  | .lockedOut => 2
  | .inhibited => 3
  | .silent => 4

/-- The code of a path state (Table 10-6). -/
def PathState.code : PathState → Nat
  | .idle => 0
  | .seeking => 1
  | .acquiring => 2
  | .waitSlot => 3
  | .claiming => 4
  | .on => 5
  | .switching => 6
  | .holdover => 7

/-- The code of a transmit condition (Table 10-6). -/
def Cond.code : Cond → Nat
  | .off => 0
  | .tagOnly => 1
  | .full => 2

/-- The code of a path event (Table 10-6). -/
def PathEvent.code : PathEvent → Nat
  | .sourceSelected => 1
  | .acquired => 2
  | .acquireFailed => 3
  | .sourceLost => 4
  | .switched => 5
  | .claimWon => 6
  | .claimWithdrawn => 7
  | .slotCollision => 8
  | .slotReleased => 9
  | .txFault => 10
  | .txRestored => 11
  | .shed => 12
  | .restored => 13
  | .holdoverExpired => 14

/-- The code of a last event code, 0 when absent (Table 10-6). -/
def eventCode (e : Option PathEvent) : Nat := (e.map PathEvent.code).getD 0

/-- The code of a slot, 0xFF when absent (Table 10-6). -/
def slotCode (k : Option Slot) : Nat := (k.map (fun x => x.val)).getD 255

/-- The station of a selected source, 0 when absent (Table 10-6). -/
def sourceCode (x : Option Selected) : Nat := (x.map (fun y => y.station.toNat)).getD 0

/-- The summary of a path (Table 10-6). -/
def pathSummary (s : State) (i : PathIx) : List Byte :=
  let p := s.path i
  [byteOf p.state.code, byteOf p.cond.code, byteOf (eventCode p.event), byteOf (slotCode p.rxSlot),
    byteOf (slotCode p.output)] ++
  bytes16 (sourceCode p.selected) ++ [byteOf (s.builderPath i).keptDepth] ++ bytes16 (s.amplitude i)

/-- Bytes 2 to 135 of the record (Table 10-5). -/
def recordBody (s : State) : List Byte :=
  bytes16 s.params.stationId.toNat ++ bytes32 s.timing.secs.toNat ++
  [byteOf s.station.code, byteOf s.gov.site.code] ++ bytes16 s.gov.backoff ++ bytes16 (siteFlags s) ++
  [byteOf s.neighbours.length, byteOf s.sources.length] ++ (indices 12).flatMap (pathSummary s)

/-- The status record (Table 10-5). -/
def statusBytes (s : State) : List Byte := [0x5A, 0xC3] ++ recordBody s ++ bytes16 (crc16 (recordBody s)).toNat

/-- STATUS_RECORD (R165): on a whole second the record is assembled and its sending starts. -/
def statusRecord (s : State) : State :=
  if s.timing.statusDue then
    { s with
      timing := { s.timing with statusDue := false }
      status := { s.status with buffer := statusBytes s, sent := 0 } }
  else s

/-- Bit k of a buffer as sent on STOUT (R165): a low start bit, 8 data bits least significant first, a high stop bit. -/
def lineBit (bs : List Byte) (k : Nat) : Bool :=
  if k % 10 == 0 then false
  else if k % 10 == 9 then true
  else (byteAt bs (k / 10)).getLsbD (k % 10 - 1)

/-- STATUS_BIT_SENT (R165): the next bit of the record buffer, and high after the last. -/
def statusBitSent (s : State) : State :=
  if s.status.sent < 10 * s.status.buffer.length then
    { s with status := { s.status with stout := lineBit s.status.buffer s.status.sent, sent := s.status.sent + 1 } }
  else { s with status := { s.status with stout := true } }

end Sys2Proof.Machine
end

