-- ==== Sys2Proof/Machine/Boundary.lean ====
section
/-! DEFINITION. The command BLOCK_BOUNDARY (R158): time, block reports, pending sets taken, and then the acts whose order
is free, with the steps of the same boundary that stand among them. -/

namespace Sys2Proof.Machine

open Sys2Proof

/-- The time is a whole multiple of 1,000 ms (R158). -/
def wholeSecondAt (ms : Time) : Bool := ms.toNat % 1000 == 0

/-- The timing unit at a block boundary (R158). -/
def Timing.tick (t : Timing) : Timing :=
  let ms := t.ms + 1
  let whole := wholeSecondAt ms
  { ms := ms, secs := if whole then t.secs + 1 else t.secs, wholeSecond := whole, tuningDue := true, statusDue := whole }

/-- The millisecond count, the seconds count and the frame timer advance (R158, R36). -/
def tickTime (s : State) : State :=
  { s with timing := s.timing.tick, builder := { s.builder with frameTimer := s.builder.frameTimer + 1 } }

/-- The block reports of the 12 receive sides (R7). -/
def blockReports (s : State) : Vector (Option Nat) 12 := Vector.ofFn (fun i => (s.rxSide i).report)

/-- Every receive side closes the block that ends, and the path controller takes the reports (R7, R116, R119). -/
def closeBlock (s : State) : State :=
  monitorReport (surveyReport
    { s with
      paths := updAll s.paths (fun i p => p.takeReport s.params.mFloor (s.rxSide i).report)
      rx := updAll s.rx (fun _ r => r.close) })

/-- The channel of a transmit side as its set comes into use: a side that is not FULL takes no programme samples, so its
channel holds no programme (R11). -/
def channelFor (set : TxSet) (c : WideIQ) : WideIQ :=
  match set.cond with
  | .full => c
  | .tagOnly => ⟨0, 0⟩
  | .off => ⟨0, 0⟩

/-- A transmit side takes its pending set into use, with the output slot of its path (R10, R11, R13). -/
def TxSide.takeSet (output : Option Slot) (t : TxSide) : TxSide :=
  { t with inUse := t.pendingSet, recordSlot := output, channel := channelFor t.pendingSet t.channel }

/-- Every transmit side takes its pending set into use (R10) and the path's output slot as it stands (R13). The model's
choice (log entry 19): the slot is latched in the opening, before the other acts and steps of this boundary, so a slot
that one of them writes or clears counts from the next block on. -/
def takePending (s : State) : State :=
  { s with tx := updAll s.tx (fun i t => t.takeSet (s.path i).output) }

/-- The composite port starts the block that begins with a clip count of 0 (R16). -/
def restartClips (s : State) : State := { s with composite := { s.composite with clips := 0 } }

/-- A step of the boundary, taken as its command is. `ahead` names the paths whose bit the boundary has still to hand: a
frame start leaves their bit-time 0 to that hand-over (R36). -/
def takeStep (ahead : PathIx → Bool) (b : BoundaryStep) (s : State) : State :=
  match b with
  | .loadEnd => loadEnd s
  | .configRetry => configRetry s
  | .endOfListening => endOfListening s
  | .tuningEntryApplied => tuningEntryApplied s
  | .framerOutcome f order => framerOutcome f order s
  | .frameStart => frameStartAmong ahead s
  | .neighbourSweep sourcesFirst => neighbourSweep sourcesFirst s
  | .sourceSweep => sourceSweep s
  | .peerClaimExpiry => peerClaimExpiry s
  | .holdOffEnd k => holdOffEnd k s
  | .collisionExpiry k => collisionExpiry k s
  | .claimRetryDeadline i => claimRetryDeadline i s
  | .pathEvaluation i => pathEvaluation i s
  | .acquireTimeout i => acquireTimeout i s
  | .carrierCheckFail i => carrierCheckFail i s
  | .lowCarrierLoss i => lowCarrierLoss i s
  | .tagLoss i => tagLoss i s
  | .holdoverExpired i => holdoverExpired i s
  | .txpermitChange level => txpermitChange level s
  | .muteEnd => muteEnd s
  | .lockoutEnd => lockoutEnd s
  | .faultHistoryExpiry => faultHistoryExpiry s
  | .graceDeadline => graceDeadline s
  | .txRestored i => txRestored i s
  | .keyHoldExpiry => keyHoldExpiry s
  | .inhibitAlarm => inhibitAlarm s
  | .failureLogExpiry => failureLogExpiry s
  | .visitStart => visitStart s
  | .visitTimeout => visitTimeout s
  | .dwellStart => dwellStart s
  | .dwellCheckClose => dwellCheckClose s
  | .dwellDeadline => dwellDeadline s
  | .statusRecord => statusRecord s

/-- One act of the boundary. `rest` is what the boundary has still to take after it. An evaluation that another act
follows is completed at once by the restore it calls for (R136); one that ends the boundary is completed by RESTORE. -/
def boundaryAct (reports : Vector (Option Nat) 12) (clips : Nat) (rest : List BoundaryAct) (a : BoundaryAct) (s : State) :
    State :=
  match a with
  | .level i => levelPath reports i s
  | .clips => takeClipCount clips s
  | .evaluation => if rest.isEmpty then compositeEvaluation s else restore (compositeEvaluation s)
  | .bit i => handBit i s
  | .step b => takeStep (fun i => rest.contains (.bit i)) b s

/-- The acts of a boundary, one after another. -/
def boundaryRun (reports : Vector (Option Nat) 12) (clips : Nat) : List BoundaryAct → State → State
  | [], s => s
  | a :: rest, s => boundaryRun reports clips rest (boundaryAct reports clips rest a s)

/-- What every block boundary does before its acts. -/
def openBoundary (s : State) : State := restartClips (takePending (closeBlock (tickTime s)))

/-- BLOCK_BOUNDARY (R158). The order decides, among the rest, whether a step that takes a path out of FULL comes before the
check of its frame (R39), before the evaluation (R138, R144) and before the status record (R165). A step outside the
order is sent as its own command after the boundary (log entry 3). -/
def blockBoundary (order : List BoundaryAct) (s : State) : State :=
  boundaryRun (blockReports s) s.composite.clips (boundaryOrder order) (openBoundary s)

end Sys2Proof.Machine
end

