-- ==== Sys2Proof/Machine/Commands.lean ====
section
/-! DEFINITION. The meaning of each command: one definition for each row of spec/opcode_table.json. A command whose
condition does not hold when it is taken (a deadline not reached, a queue empty) finds nothing to act on and leaves the
state as it is. -/

namespace Sys2Proof.Machine

open Sys2Proof

/-- What a command answers. -/
abbrev Result := Host.Outcome State Fault Refusal

/-- DEVICE_RESET (R159). -/
def execDeviceReset (s : State) : Result := .next (deviceReset s)

/-- LOAD_END (R159). -/
def execLoadEnd (s : State) : Result := .next (loadEnd s)

/-- CONFIG_RETRY (R163). -/
def execConfigRetry (s : State) : Result := .next (configRetry s)

/-- END_OF_LISTENING (R164). -/
def execEndOfListening (s : State) : Result := .next (endOfListening s)

/-- BLOCK_BOUNDARY (R158). -/
def execBlockBoundary (order : List BoundaryAct) (s : State) : Result := .next (blockBoundary order s)

/-- RESTORE (R136). -/
def execRestore (s : State) : Result := .next (restore s)

/-- TUNING_ENTRY_APPLIED (R18). -/
def execTuningEntryApplied (s : State) : Result := .next (tuningEntryApplied s)

/-- BREAK_RECOGNISED (R24). -/
def execBreakRecognised (f : FramerIx) (s : State) : Result := .next (breakRecognised f s)

/-- LEAD_TIMEOUT (R25). -/
def execLeadTimeout (f : FramerIx) (s : State) : Result := .next (leadTimeout f s)

/-- BYTE_GAP_TIMEOUT (R29). -/
def execByteGapTimeout (f : FramerIx) (s : State) : Result := .next (byteGapTimeout f s)

/-- FRAMER_OUTCOME (R41). -/
def execFramerOutcome (f : FramerIx) (order : OutcomeOrder) (s : State) : Result := .next (framerOutcome f order s)

/-- FRAME_START (R36). -/
def execFrameStart (s : State) : Result := .next (frameStart s)

/-- NEIGHBOUR_SWEEP (R63). -/
def execNeighbourSweep (sourcesFirst : List StationId) (s : State) : Result := .next (neighbourSweep sourcesFirst s)

/-- SOURCE_SWEEP (R79). -/
def execSourceSweep (s : State) : Result := .next (sourceSweep s)

/-- PEER_CLAIM_EXPIRY (R92). -/
def execPeerClaimExpiry (s : State) : Result := .next (peerClaimExpiry s)

/-- HOLD_OFF_END (R97). -/
def execHoldOffEnd (k : Slot) (s : State) : Result := .next (holdOffEnd k s)

/-- COLLISION_EXPIRY (R101). -/
def execCollisionExpiry (k : Slot) (s : State) : Result := .next (collisionExpiry k s)

/-- CLAIM_RETRY_DEADLINE (R105). -/
def execClaimRetryDeadline (i : PathIx) (s : State) : Result := .next (claimRetryDeadline i s)

/-- PATH_EVALUATION (R113). -/
def execPathEvaluation (i : PathIx) (s : State) : Result := .next (pathEvaluation i s)

/-- ACQUIRE_TIMEOUT (R118). -/
def execAcquireTimeout (i : PathIx) (s : State) : Result := .next (acquireTimeout i s)

/-- CARRIER_CHECK_FAIL (R116). -/
def execCarrierCheckFail (i : PathIx) (s : State) : Result := .next (carrierCheckFail i s)

/-- LOW_CARRIER_LOSS (R119). -/
def execLowCarrierLoss (i : PathIx) (s : State) : Result := .next (lowCarrierLoss i s)

/-- TAG_LOSS (R119). -/
def execTagLoss (i : PathIx) (s : State) : Result := .next (tagLoss i s)

/-- HOLDOVER_EXPIRED (R124). -/
def execHoldoverExpired (i : PathIx) (s : State) : Result := .next (holdoverExpired i s)

/-- TXPERMIT_CHANGE (R155). -/
def execTxpermitChange (level : Bool) (s : State) : Result := .next (txpermitChange level s)

/-- MUTE_END (R141). -/
def execMuteEnd (s : State) : Result := .next (muteEnd s)

/-- LOCKOUT_END (R143). -/
def execLockoutEnd (s : State) : Result := .next (lockoutEnd s)

/-- FAULT_HISTORY_EXPIRY (R142). -/
def execFaultHistoryExpiry (s : State) : Result := .next (faultHistoryExpiry s)

/-- GRACE_DEADLINE (R145). -/
def execGraceDeadline (s : State) : Result := .next (graceDeadline s)

/-- TX_RESTORED (R154). -/
def execTxRestored (i : PathIx) (s : State) : Result := .next (txRestored i s)

/-- KEY_HOLD_EXPIRY (R156). -/
def execKeyHoldExpiry (s : State) : Result := .next (keyHoldExpiry s)

/-- INHIBIT_ALARM (R155). -/
def execInhibitAlarm (s : State) : Result := .next (inhibitAlarm s)

/-- FAILURE_LOG_EXPIRY (R153). -/
def execFailureLogExpiry (s : State) : Result := .next (failureLogExpiry s)

/-- VISIT_START (R149). -/
def execVisitStart (s : State) : Result := .next (visitStart s)

/-- VISIT_TIMEOUT (R151). -/
def execVisitTimeout (s : State) : Result := .next (visitTimeout s)

/-- DWELL_START (R48). -/
def execDwellStart (s : State) : Result := .next (dwellStart s)

/-- DWELL_CHECK_CLOSE (R49). -/
def execDwellCheckClose (s : State) : Result := .next (dwellCheckClose s)

/-- DWELL_DEADLINE (R52). -/
def execDwellDeadline (s : State) : Result := .next (dwellDeadline s)

/-- STATUS_RECORD (R165). -/
def execStatusRecord (s : State) : Result := .next (statusRecord s)

/-- BAND_INPUT_SAMPLE (R3). -/
def execBandInputSample (sample : IQ) (paths : Vector IQ 12) (survey : IQ) (s : State) : Result := .next (bandInputSample sample paths survey s)

/-- COUPLER_INPUT_SAMPLE (R147). -/
def execCouplerInputSample (sample : IQ) (monitor : IQ) (s : State) : Result := .next (couplerInputSample sample monitor s)

/-- COMPOSITE_SAMPLE (R15). -/
def execCompositeSample (sides : Vector WideIQ 12) (s : State) : Result := .next (compositeSample sides s)

/-- TAG_LINE_SAMPLE (R23). -/
def execTagLineSample (f : FramerIx) (tone : Tone) (s : State) : Result := .next (tagLineSample f tone s)

/-- CONFIG_BYTE_READ (R159). -/
def execConfigByteRead (b : Byte) (s : State) : Result := .next (configByteRead b s)

/-- STATUS_BIT_SENT (R165). -/
def execStatusBitSent (s : State) : Result := .next (statusBitSent s)

end Sys2Proof.Machine
end

