-- ==== Sys2Proof/Machine/Dispatch.lean ====
section
/-! DEFINITION. The dispatch of a command to its meaning, one arm for each constructor of Instr. -/

namespace Sys2Proof.Machine

open Sys2Proof

def exec (i : Instr) (s : State) : Host.Outcome State Fault Refusal :=
  match i with
  | .deviceReset => Sys2Proof.Machine.execDeviceReset s
  | .loadEnd => Sys2Proof.Machine.execLoadEnd s
  | .configRetry => Sys2Proof.Machine.execConfigRetry s
  | .endOfListening => Sys2Proof.Machine.execEndOfListening s
  | .blockBoundary order => Sys2Proof.Machine.execBlockBoundary order s
  | .restore => Sys2Proof.Machine.execRestore s
  | .tuningEntryApplied => Sys2Proof.Machine.execTuningEntryApplied s
  | .breakRecognised f => Sys2Proof.Machine.execBreakRecognised f s
  | .leadTimeout f => Sys2Proof.Machine.execLeadTimeout f s
  | .byteGapTimeout f => Sys2Proof.Machine.execByteGapTimeout f s
  | .framerOutcome f order => Sys2Proof.Machine.execFramerOutcome f order s
  | .frameStart => Sys2Proof.Machine.execFrameStart s
  | .neighbourSweep order => Sys2Proof.Machine.execNeighbourSweep order s
  | .sourceSweep => Sys2Proof.Machine.execSourceSweep s
  | .peerClaimExpiry => Sys2Proof.Machine.execPeerClaimExpiry s
  | .holdOffEnd k => Sys2Proof.Machine.execHoldOffEnd k s
  | .collisionExpiry k => Sys2Proof.Machine.execCollisionExpiry k s
  | .claimRetryDeadline path => Sys2Proof.Machine.execClaimRetryDeadline path s
  | .pathEvaluation path => Sys2Proof.Machine.execPathEvaluation path s
  | .acquireTimeout path => Sys2Proof.Machine.execAcquireTimeout path s
  | .carrierCheckFail path => Sys2Proof.Machine.execCarrierCheckFail path s
  | .lowCarrierLoss path => Sys2Proof.Machine.execLowCarrierLoss path s
  | .tagLoss path => Sys2Proof.Machine.execTagLoss path s
  | .holdoverExpired path => Sys2Proof.Machine.execHoldoverExpired path s
  | .txpermitChange level => Sys2Proof.Machine.execTxpermitChange level s
  | .muteEnd => Sys2Proof.Machine.execMuteEnd s
  | .lockoutEnd => Sys2Proof.Machine.execLockoutEnd s
  | .faultHistoryExpiry => Sys2Proof.Machine.execFaultHistoryExpiry s
  | .graceDeadline => Sys2Proof.Machine.execGraceDeadline s
  | .txRestored path => Sys2Proof.Machine.execTxRestored path s
  | .keyHoldExpiry => Sys2Proof.Machine.execKeyHoldExpiry s
  | .inhibitAlarm => Sys2Proof.Machine.execInhibitAlarm s
  | .failureLogExpiry => Sys2Proof.Machine.execFailureLogExpiry s
  | .visitStart => Sys2Proof.Machine.execVisitStart s
  | .visitTimeout => Sys2Proof.Machine.execVisitTimeout s
  | .dwellStart => Sys2Proof.Machine.execDwellStart s
  | .dwellCheckClose => Sys2Proof.Machine.execDwellCheckClose s
  | .dwellDeadline => Sys2Proof.Machine.execDwellDeadline s
  | .statusRecord => Sys2Proof.Machine.execStatusRecord s
  | .bandInputSample sample paths survey => Sys2Proof.Machine.execBandInputSample sample paths survey s
  | .couplerInputSample sample monitor => Sys2Proof.Machine.execCouplerInputSample sample monitor s
  | .compositeSample sides => Sys2Proof.Machine.execCompositeSample sides s
  | .tagLineSample f tone => Sys2Proof.Machine.execTagLineSample f tone s
  | .configByteRead b => Sys2Proof.Machine.execConfigByteRead b s
  | .statusBitSent => Sys2Proof.Machine.execStatusBitSent s

end Sys2Proof.Machine
end

