-- ==== Sys2Proof/Safety.lean ====
section
/-! DEFINITION. What the statements call a safe state: the capacities and orders of the tables, the levels that follow from
others, the agreement of own claims with path records, the guard, and the sources that paths have selected; and the
frames of the acts of the path controller and the slot claim table. -/

namespace Sys2Proof.Machine

open Sys2Proof

/-! ### Tables (Table 0-5, R17, R45, R56, R67, R90, R153) -/

/-- No two entries of the tuning queue are for one path and side (1.7). -/
abbrev TuneDistinct (q : List TuneEntry) : Prop := q.Pairwise (fun a b => ¬(a.path = b.path ∧ a.side = b.side))

/-- The neighbour list is in rising station ID (R56). -/
abbrev NeighboursOrdered (ns : List Neighbour) : Prop := ns.Pairwise (fun a b => a.station < b.station)

/-- The source table is in the order of its keys (R67). -/
abbrev SourcesOrdered (es : List Source) : Prop := es.Pairwise (fun a b => keyBefore a b = true)

/-- A peer list holds at most 4 records in rising station ID (R90). -/
abbrev PeersOk (ps : List Peer) : Prop := ps.length ≤ peerCapacity ∧ ps.Pairwise (fun a b => a.station < b.station)

/-- The fault history holds at most 3 times, and fewer unless a lockout runs (Table 0-5, R142, R143): the third makes the
lockout, whose end empties it. -/
abbrev HistoryOk (g : Governor) : Prop :=
  g.faultHistory.length ≤ 3 ∧ (g.lockoutDeadline = none → g.faultHistory.length ≤ 2)

/-- Every table is within its capacity and in its order. -/
abbrev TablesOk (s : State) : Prop :=
  (s.tuning.length ≤ tuningCapacity ∧ TuneDistinct s.tuning) ∧
  (s.survey.requests.length ≤ surveyCapacity ∧ s.survey.requests.Nodup) ∧
  (s.neighbours.length ≤ neighbourCapacity ∧ NeighboursOrdered s.neighbours) ∧
  (s.sources.length ≤ sourceCapacity ∧ SourcesOrdered s.sources) ∧
  s.mon.failureLog.length ≤ failureCapacity ∧
  HistoryOk s.gov ∧
  (∀ k : Slot, PeersOk (s.slot k).peers)

/-! ### Levels that follow from others (R102, R126, R139, R156, R157) -/

/-- The site transmit state, the transmit conditions, ALARM and TXKEY are what their rules derive. -/
abbrev LevelsOk (s : State) : Prop :=
  s.gov.site = s.derivedSite ∧
  (∀ i : PathIx, (s.path i).cond = condOf s.gov.site (s.path i)) ∧
  s.lines.alarm = alarmOf s ∧
  (s.anyOnAir = true → s.lines.txkey = true) ∧
  (s.lines.keyHoldDeadline.isSome = (s.lines.txkey && !s.anyOnAir))

/-- PINNED_COLLISION is set just while an own pinned HELD slot holds a pinned peer record (R102). -/
abbrev PinnedFlagOk (s : State) : Prop :=
  s.pinnedCollision = true ↔ ∃ k : Slot, (s.slot k).own = .held ∧ (s.slot k).ownPinned = true ∧
    ∃ p ∈ (s.slot k).peers, p.pinned = true

/-! ### Own claims (R89, R100, R126) -/

/-- The fields of a slot entry agree with its own phase (R89, R100). -/
abbrev EntryOk (e : SlotEntry) : Prop :=
  (e.own = .none ↔ e.ownPath = none) ∧
  (e.own = .intent ↔ e.ownDeadline.isSome = true) ∧
  (e.ownPinned = true → e.own = .held) ∧
  (e.collision.isSome = true → e.own = .held ∧ e.ownPinned = false)

/-- The own phase of a path's output slot fits the path's state (Table 7-2). -/
def outputFits (s : State) (i : PathIx) : Bool :=
  match (s.path i).state, (s.path i).output with
  | .claiming, some k => (s.slot k).own == .intent
  | .on, some k => (s.slot k).own == .held
  | .switching, some k => (s.slot k).own == .held
  | .holdover, some k => (s.slot k).own == .held
  | .idle, none => true
  | .seeking, none => true
  | .acquiring, none => true
  | .waitSlot, none => true
  | _, _ => false

/-- Own claims and path records name each other, and each path's slot fits its state. -/
abbrev ClaimsOk (s : State) : Prop :=
  (∀ k : Slot, EntryOk (s.slot k)) ∧
  (∀ k : Slot, ∀ i : PathIx, (s.slot k).ownPath = some i ↔ (s.path i).output = some k) ∧
  (∀ i : PathIx, outputFits s i = true)

/-! ### Before a valid load (R41, R89, R111) -/

/-- The station has not taken a valid image. -/
def State.unloaded (s : State) : Bool := (s.station == .loading) || (s.station == .quiet)

/-- An image is read only before a valid load, and until then no path has a source and the source table is empty. -/
abbrev LoadingOk (s : State) : Prop :=
  (s.loader.reading = true → s.unloaded = true) ∧
  (s.unloaded = true → s.sources = [] ∧ ∀ i : PathIx, (s.path i).rxSlot = none ∧ (s.path i).selected = none)

/-- Until the station enters LISTEN the survey receiver holds its reset values, with its warm-up flag set and its framer in
HUNT on an idle line (R55). -/
abbrev SurveyHeldOk (s : State) : Prop :=
  s.unloaded = true → s.survey.rx.word = 0 ∧ s.survey.rx.warmUp = true ∧ s.survey.rx.latest = none ∧
    s.survey.framer.state = .hunt ∧ s.survey.framer.spaceRun = 0 ∧ s.survey.framer.outcome = none ∧
    s.survey.dwell = none ∧ s.survey.scanPosition = 0 ∧ s.survey.requests = []

/-! ### The guard (R83, R94) -/

/-- No own claim stands within the guard distance of a path's receive slot (R94). -/
abbrev GuardClear (s : State) : Prop :=
  ∀ k : Slot, ∀ i : PathIx, (s.slot k).own ≠ .none → ∀ r, (s.path i).rxSlot = some r →
    withinGuard s.params.guardDistance r k = false

/-! ### Sources (R78, R81) -/

/-- Every entry's quality is what its grades and absent flag give, and its grades are at most 100 (R78). -/
abbrev QualityOk (s : State) : Prop :=
  ∀ e ∈ s.sources, e.quality = qualityOf e.levelGrade e.integrityGrade e.absent ∧
    e.levelGrade ≤ 100 ∧ e.integrityGrade ≤ 100

/-- A path holds a selected source in the states that Table 7-2 gives one, and in no other. -/
def hasSource (st : PathState) : Bool := acquiring st || watching st

/-- The entry that a path has selected is in the table and may be taken: not from the own station, not with the own
station upstream, not at depth 15 (R81). -/
def selectionSafe (s : State) (x : Selected) : Bool :=
  match findSource x.slot x.station s.sources with
  | none => false
  | some e => (e.station != s.params.stationId) && (e.upstream != some s.params.stationId) && decide (e.depth ≤ 14)

/-- Every path has a selected source just in the states that have one, and each is safe (R81, Table 7-2). -/
abbrev SelectionsOk (s : State) : Prop :=
  ∀ i : PathIx, (s.path i).selected.isSome = hasSource (s.path i).state ∧
    ∀ x, (s.path i).selected = some x → selectionSafe s x = true

/-! ### Transmit channels (R11) -/

/-- The channel of a side whose condition in use is not FULL holds no programme (R11). -/
abbrev ChannelsOk (s : State) : Prop :=
  ∀ i : PathIx, (s.txSide i).inUse.cond ≠ .full → (s.txSide i).channel = ⟨0, 0⟩

/-! ### Frames -/

/-- t is s but for what an act of the path controller or of the slot claim table may write. -/
def ActFrame (s t : State) : Prop :=
  t = { s with
    tuning := t.tuning, sources := t.sources, slots := t.slots, waits := t.waits
    pinnedCollision := t.pinnedCollision, silentRelease := t.silentRelease, paths := t.paths
    mon := { s.mon with visit := t.mon.visit, verdicts := t.mon.verdicts }
    lines := { s.lines with txkey := t.lines.txkey, keyHoldDeadline := t.lines.keyHoldDeadline } }

/-- t is s but for what a change of the site transmit state may write: what an act may, and the site fields that R139,
R145, R155 and R157 name. -/
def SiteFrame (s t : State) : Prop :=
  t = { s with
    tuning := t.tuning, sources := t.sources, slots := t.slots, waits := t.waits
    pinnedCollision := t.pinnedCollision, silentRelease := t.silentRelease, paths := t.paths
    gov := { s.gov with site := t.gov.site, graceDeadline := t.gov.graceDeadline }
    mon := { s.mon with visit := t.mon.visit, verdicts := t.mon.verdicts }
    lines := { s.lines with
      txkey := t.lines.txkey, keyHoldDeadline := t.lines.keyHoldDeadline
      inhibitAlarmDeadline := t.lines.inhibitAlarmDeadline, inhibitAlarm := t.lines.inhibitAlarm
      alarm := t.lines.alarm } }

/-- No path holds a freed mark: every mark is served within the act that sets it (R121). -/
abbrev MarksServed (s : State) : Prop := ∀ i : PathIx, (s.wait i).freed = false

/-- A path of s with its condition derived again under the site transmit state of t (R126). -/
def rederived (s t : State) (i : PathIx) : PathRec := { s.path i with cond := condOf t.gov.site (s.path i) }

/-- After a change of the site transmit state from s to t: every path that does not wait for a slot is as it was but for
its condition, and a path that still waits, and holds no slot, found none eligible when claiming is permitted (R104,
R121). -/
abbrev SitePaths (s t : State) : Prop :=
  (∀ i : PathIx, (s.path i).state ≠ .waitSlot → t.path i = rederived s t i) ∧
  (t.claimingPermitted = true → ∀ i : PathIx, (s.path i).state = .waitSlot → holdsSlot s i = false →
    (t.path i).state = .waitSlot → anyEligible t = false)

/-- A path that waited for a slot in s, and held none, waits on in t. -/
abbrev WaitsOn (s t : State) (i : PathIx) : Prop :=
  (s.path i).state = .waitSlot ∧ holdsSlot s i = false ∧ (t.path i).state = .waitSlot

/-- The waiting paths have asked for what came free between s and t: while one waits on, no slot is left eligible that was
not so before (R103, R121). -/
abbrev WaitersAsk (s t : State) : Prop :=
  s.claimingPermitted = true → ∀ i : PathIx, WaitsOn s t i → ∀ k : Slot, eligible t k = true → eligible s k = true

/-- Own HELD claims stand from s to t: the slot, its path and its pinned mark (R92, R106). -/
abbrev HeldClaimsStand (s t : State) : Prop :=
  ∀ k : Slot, (s.slot k).own = .held → (t.slot k).own = .held ∧ (t.slot k).ownPath = (s.slot k).ownPath ∧
    (t.slot k).ownPinned = (s.slot k).ownPinned

/-- What an act on path i leaves of the rest: every path that does not wait for a slot, every peer record and every own
HELD claim of another path. A freed notice that the act causes may let a waiting path claim (R103, R121). -/
abbrev OthersStand (i : PathIx) (s t : State) : Prop :=
  (∀ j : PathIx, j ≠ i → (s.path j).state ≠ .waitSlot → t.path j = s.path j) ∧
  (∀ k : Slot, (t.slot k).peers = (s.slot k).peers) ∧
  (∀ k : Slot, (s.slot k).own = .held → (s.slot k).ownPath ≠ some i → t.slot k = s.slot k)

/-- The chain fails on a failing verdict of path i, taken in s (R152): CHAIN_FAULT is set before, or at least two paths
are on the air and every one of them but i has FAIL as its latest verdict. -/
abbrev ChainFails (s : State) (i : PathIx) : Prop :=
  s.mon.chainFault = true ∨
    (2 ≤ onAirCount s ∧ ∀ j : PathIx, s.onAir j = true → j = i ∨ s.verdict j = some .fail)

/-- t is s after a failing verdict on path i (R152 to R154). -/
abbrev FailTaken (s : State) (i : PathIx) (t : State) : Prop :=
  ActFrame { s with
    mon := { s.mon with failureLog := t.mon.failureLog, chainFault := t.mon.chainFault }
    lines := { s.lines with alarm := t.lines.alarm } } t ∧
  t.mon.failureLog = (if s.mon.failureLog.length < 15 then s.mon.failureLog
    else s.mon.failureLog.drop (s.mon.failureLog.length - 14)) ++ [s.now] ∧
  t.mon.visit = none ∧
  (∀ j : PathIx, j ≠ i → t.path j = s.path j ∧ t.verdict j = s.verdict j) ∧
  t.slots = s.slots ∧ t.waits = s.waits ∧ t.sources = s.sources ∧ t.tuning = s.tuning ∧
  (ChainFails s i → t.mon.chainFault = true ∧ t.lines.alarm = true ∧ t.verdict i = some .fail ∧
    t.path i = { s.path i with monitorFails := min 2 ((s.path i).monitorFails + 1) }) ∧
  (¬ChainFails s i → (s.path i).monitorFails = 0 → t.mon.chainFault = false ∧ t.lines.alarm = s.lines.alarm ∧
    t.verdict i = some .fail ∧ t.path i = { s.path i with monitorFails := 1 }) ∧
  (¬ChainFails s i → 1 ≤ (s.path i).monitorFails → t.mon.chainFault = false ∧ t.lines.alarm = s.lines.alarm ∧
    t.path i = { s.path i with
      monitorFails := 2, txFaultDeadline := some (later s.now 30000), event := some .txFault, cond := .off })

/-- A command is taken and the part goes on in a state with the property. -/
def Answers (c : Instr) (s : State) (P : State → Prop) : Prop := ∃ t, exec c s = .next t ∧ P t

/-! ### Settled values and held stations -/

/-- w is v brought into a range: v itself inside it, the nearer end outside it (R160). -/
abbrev NearestIn (lo hi v w : Nat) : Prop :=
  (lo ≤ w ∧ w ≤ hi) ∧ (lo ≤ v → v ≤ hi → w = v) ∧ (v < lo → w = lo) ∧ (hi < v → w = hi)

/-- The neighbour list holds a frame's station once it has taken the frame, and has ordered a mass release of a station or
of none: none for a record refreshed (R61) or inserted (R58), the station itself for a record started afresh (R62), and
the candidate's for one put in its place (R59). -/
def FrameHeld (s : State) (f : Frame) (released : Option StationId) : Prop :=
  (∃ r ∈ s.neighbours, r.station = f.station ∧
    released = if r.network = f.network then none else some f.station) ∨
  ((∀ r ∈ s.neighbours, r.station ≠ f.station) ∧
    ((s.neighbours.length < 24 ∧ released = none) ∨
      (s.neighbours.length = 24 ∧ ∃ c, replacementCandidate s.now s.neighbours = some c ∧
        10000 < age s.now c.lastHeard ∧ released = some c.station)))

/-! ### Requests of an evaluation (R17, R53, R85, R115) -/

/-- The tuning queue q has become t by a request of path i for a side on slot k (R17): replaced in place, appended, or
refused by a full queue. -/
abbrev Requested (i : PathIx) (side : Side) (k : Slot) (q t : List TuneEntry) : Prop :=
  ((∃ e ∈ q, e.path = i ∧ e.side = side) →
    t = q.map (fun e => if e.path = i ∧ e.side = side then { e with slot := k } else e)) ∧
  ((∀ e ∈ q, ¬(e.path = i ∧ e.side = side)) → q.length < 4 → t = q ++ [⟨i, side, k⟩]) ∧
  ((∀ e ∈ q, ¬(e.path = i ∧ e.side = side)) → 4 ≤ q.length → t = q)

/-- Upkeep of one side took the tuning queue from q to t (R115): a request when the side is pending, has a slot and has no
entry in the queue, and else nothing. -/
abbrev SideUpkeep (i : PathIx) (side : Side) (wanted : Bool) (slot : Option Slot) (q t : List TuneEntry) : Prop :=
  (∀ k, slot = some k → wanted = true → (∀ e ∈ q, ¬(e.path = i ∧ e.side = side)) → Requested i side k q t) ∧
  (slot = none ∨ wanted = false ∨ (∃ e ∈ q, e.path = i ∧ e.side = side) → t = q)

/-- Tuning upkeep of path i with record p took the tuning queue from q to t (R115), the receive side first. -/
abbrev Upkeep (i : PathIx) (p : PathRec) (q t : List TuneEntry) : Prop :=
  ∃ r, SideUpkeep i .receive p.rxPending p.rxSlot q r ∧ SideUpkeep i .transmit p.txPending p.output r t

/-- From s to t the survey receiver has taken the request of path i for a stale slot, or none when no slot is stale (R53,
R85). -/
abbrev StaleAsked (s t : State) (i : PathIx) : Prop :=
  (staleSlot s i = none → t.survey = s.survey) ∧
  (∀ k, staleSlot s i = some k → t.survey = { s.survey with requests := t.survey.requests } ∧
    t.survey.requests =
      if (s.station = .listen ∨ s.station = .running) ∧ ((s.slot k).attr = .watch ∨ (s.slot k).attr = .both) ∧
        k ∉ s.survey.requests ∧ (∀ d, s.survey.dwell = some d → d.slot ≠ k) ∧ s.survey.requests.length < 8
      then s.survey.requests ++ [k] else s.survey.requests)

/-! ### Steps inside a boundary -/

/-- The command that a step inside a BLOCK_BOUNDARY stands for. -/
def stepCommand : BoundaryStep → Instr
  | .loadEnd => .loadEnd
  | .configRetry => .configRetry
  | .endOfListening => .endOfListening
  | .tuningEntryApplied => .tuningEntryApplied
  | .framerOutcome f order => .framerOutcome f order
  | .frameStart => .frameStart
  | .neighbourSweep sourcesFirst => .neighbourSweep sourcesFirst
  | .sourceSweep => .sourceSweep
  | .peerClaimExpiry => .peerClaimExpiry
  | .holdOffEnd k => .holdOffEnd k
  | .collisionExpiry k => .collisionExpiry k
  | .claimRetryDeadline i => .claimRetryDeadline i
  | .pathEvaluation i => .pathEvaluation i
  | .acquireTimeout i => .acquireTimeout i
  | .carrierCheckFail i => .carrierCheckFail i
  | .lowCarrierLoss i => .lowCarrierLoss i
  | .tagLoss i => .tagLoss i
  | .holdoverExpired i => .holdoverExpired i
  | .txpermitChange level => .txpermitChange level
  | .muteEnd => .muteEnd
  | .lockoutEnd => .lockoutEnd
  | .faultHistoryExpiry => .faultHistoryExpiry
  | .graceDeadline => .graceDeadline
  | .txRestored i => .txRestored i
  | .keyHoldExpiry => .keyHoldExpiry
  | .inhibitAlarm => .inhibitAlarm
  | .failureLogExpiry => .failureLogExpiry
  | .visitStart => .visitStart
  | .visitTimeout => .visitTimeout
  | .dwellStart => .dwellStart
  | .dwellCheckClose => .dwellCheckClose
  | .dwellDeadline => .dwellDeadline
  | .statusRecord => .statusRecord

/-- The order holds no step, only the boundary's own acts. -/
abbrev PlainOrder (order : List BoundaryAct) : Prop := ∀ b : BoundaryStep, .step b ∉ order

/-! ### A frame on the air (R22, 2.1) -/

/-- The bytes are a whole frame that a framer with this network filter reads as GOOD (R30 to R33). -/
def readable (nf : NetFilter) (bs : List Byte) : Bool :=
  decide (bs.length = 11 + claimCount bs) && decide (claimCount bs ≤ 12) && (byteAt bs 0 == leadByte) && nf.passes bs &&
  (field16 bs 3 != 0) && (field16 bs 3 != 65535) && (field16 bs 5 != 0) &&
  decide (((bs.drop 10).take (claimCount bs)).Pairwise (fun a b => (claimSlot a).val < (claimSlot b).val)) &&
  (byteAt bs (10 + claimCount bs) == crc8 (bs.take (10 + claimCount bs)))

/-- Byte j of bs, as it completes, ends the frame with outcome o (R30 to R33): a lead byte that is not 0xB4, a claim count
above 12, a network that does not pass, a reserved station ID, programme ID 0, a claim out of order, or the last byte,
which the CRC decides. noise is the noise count up to this byte. -/
def FrameEnds (nf : NetFilter) (bs : List Byte) (noise j : Nat) (o : FrameOutcome) : Prop :=
  let at' := fun k => (byteAt bs k).toNat
  let n := at' 2 % 16
  (j = 0 ∧ at' 0 ≠ 0xB4 ∧ o = .malformed) ∨
  (j = 2 ∧ 12 < n ∧ o = .malformed) ∨
  (j = 2 ∧ n ≤ 12 ∧ byteAt bs 1 ≠ nf.network ∧ ((byteAt bs 2).getLsbD 7 = false ∨ nf.acceptOpen = false) ∧ o = .foreign) ∨
  (j = 4 ∧ (256 * at' 3 + at' 4 = 0 ∨ 256 * at' 3 + at' 4 = 65535) ∧ o = .malformed) ∨
  (j = 6 ∧ 256 * at' 5 + at' 6 = 0 ∧ o = .malformed) ∨
  (11 ≤ j ∧ j < 10 + n ∧ at' j % 64 ≤ at' (j - 1) % 64 ∧ o = .malformed) ∨
  (j = 10 + n ∧ 10 ≤ j ∧ byteAt bs j ≠ crc8 (bs.take j) ∧ o = .crcFail) ∨
  (j = 10 + n ∧ 10 ≤ j ∧ byteAt bs j = crc8 (bs.take j) ∧ o = .good (bs.take (j + 1)) noise)

/-- The samples that are space, of those numbered ps from the start edge as sample 1; xs are the samples after the edge. -/
def spacesAt (xs : List Tone) (ps : List Nat) : Nat := (ps.filter (fun p => xs[p - 2]? == some .space)).length

/-- The space samples among the three that decide bit b of a byte, 1 to 8 for the data bits and 9 for the stop bit (R27). -/
def bitSpaces (xs : List Tone) (b : Nat) : Nat := spacesAt xs [16 * b + 9, 16 * b + 10, 16 * b + 11]

/-- The tag-line samples of a frame, 16 a bit-time, from its first up to the one that decides its last stop bit (R26,
R27). -/
def frameSamples (bs : List Byte) : List Tone :=
  ((List.range (frameBits bs)).flatMap (fun t => List.replicate 16 (frameTone bs t))).take (16 * (frameBits bs - 1) + 11)

/-- A run of tag-line samples taken by one framer. -/
def feedTones (ix : FramerIx) (xs : List Tone) (s : State) : State := xs.foldl (fun t x => tagLineSample ix x t) s

end Sys2Proof.Machine
end

