-- ==== Sys2Proof/Certificates/Slice0/Obligations.lean ====
section
/-! DEFINITION. The statements for the provers, in the order of OBLIGATIONS.json. Every statement about a command says what
the command answers, what the state it answers holds, and what it leaves alone. -/

open Sys2Proof Sys2Proof.Machine

/-! ### The queue, device reset and the loader -/

/-- A step runs the command at the front of the queue on the state with the rest of the queue; on an empty queue the
part idles (the model's choice, log entry 1). -/
def Obligations.StepRunsFrontCommand : Prop :=
  (∀ (c : Instr) (rest : List Instr) (s : State), s.pending = c :: rest → step s = exec c (s.withPending rest)) ∧
  (∀ s : State, s.pending = [] → step s = .next s)

/-- Every command is taken in every state: none faults, none is refused, and none touches the waiting commands. That a
command without its condition is taken too and changes nothing, and that the queue is the model's own and stands through
every command, DEVICE_RESET included, are the model's choices (log entries 2, 4 and 16). -/
def Obligations.EveryCommandCompletes : Prop :=
  ∀ (c : Instr) (s : State), Answers c s (fun t => t.pending = s.pending)

/-- DEVICE_RESET gives every block its value after device reset and starts the load. The values that the manual does not
give are the model's (log entry 9), and so is the waiting queue's standing through the reset (log entry 16). -/
def Obligations.DeviceResetState : Prop :=
  ∀ s : State, Answers .deviceReset s (fun t =>
    t = { State.reset with pending := s.pending } ∧
    t.station = .loading ∧ t.loader.reading = true ∧ t.loader.image = [] ∧ t.loader.retryDeadline = none ∧
    t.loader.endOfListening = none ∧ t.loader.configInvalid = false ∧ t.loader.configClamped = false ∧
    t.timing.ms = 0 ∧ t.timing.secs = 0 ∧ t.params.stationId = 0 ∧ t.params.networkId = 0 ∧
    t.params.acceptOpen = true ∧
    (∀ i : PathIx, (t.carryOf i).enabled = false ∧
      (t.path i).state = .idle ∧ (t.path i).event = none ∧ (t.path i).selected = none ∧ (t.path i).rxSlot = none ∧
      (t.path i).output = none ∧ (t.path i).g = 1024 ∧ (t.path i).m = 0 ∧ (t.path i).shed = false ∧
      (t.path i).cond = .off ∧ (t.rxSide i).word = 0 ∧ (t.rxSide i).warmUp = true ∧ (t.txSide i).word = 0 ∧
      (t.txSide i).slotInUse = none ∧ (t.txSide i).inUse = ⟨.off, 0, 0⟩ ∧ (t.txSide i).pendingSet = ⟨.off, 0, 0⟩ ∧
      (t.builderPath i).keptDepth = 15 ∧ (t.builderPath i).snapshot = none ∧ t.amplitude i = 0 ∧
      (t.wait i).freed = false ∧ (t.wait i).retryDeadline = none ∧ t.verdict i = none) ∧
    (∀ k : Slot, (t.slot k).attr = .barred ∧ (t.slot k).own = .none ∧ (t.slot k).peers = []) ∧
    (∀ ix : FramerIx, (t.framer ix).state = .hunt ∧ (t.framer ix).buffer = []) ∧
    t.tuning = [] ∧ t.neighbours = [] ∧ t.neighbourOverflow = false ∧ t.sources = [] ∧ t.builder.frameTimer = 0 ∧
    t.survey.dwell = none ∧ t.survey.scanPosition = 0 ∧ t.survey.requests = [] ∧ t.survey.rx.word = 0 ∧
    t.composite.clips = 0 ∧ t.pinnedCollision = false ∧ t.silentRelease = false ∧
    t.gov.backoff = 256 ∧ t.gov.cap = 256 ∧ t.gov.site = .silent ∧ t.gov.faultHistory = [] ∧
    t.gov.lockoutFlag = false ∧ t.gov.muteDeadline = none ∧ t.gov.lockoutDeadline = none ∧
    t.gov.graceDeadline = none ∧ t.gov.lastMuteEnd = none ∧
    t.mon.visit = none ∧ t.mon.visitPosition = 0 ∧ t.mon.failureLog = [] ∧ t.mon.chainFault = false ∧
    t.mon.rx.word = 0 ∧ t.lines.permit = false ∧ t.lines.txkey = false ∧ t.lines.alarm = false ∧
    t.lines.inhibitAlarm = false ∧ t.status.buffer = [] ∧ t.status.stout = true)

/-- CONFIG_BYTE_READ takes the next byte of an image of 141 bytes while the loader reads; CONFIG_RETRY starts the read
again in QUIET at the retry deadline. A byte while the loader does not read and a CONFIG_RETRY that is not due change
nothing: the model's choice, log entry 2. -/
def Obligations.ImageReadAndReadAgain : Prop :=
  (∀ (b : Byte) (s : State), s.loader.reading = true → s.loader.image.length < 141 →
    exec (.configByteRead b) s = .next { s with loader := { s.loader with image := s.loader.image ++ [b] } }) ∧
  (∀ (b : Byte) (s : State), s.loader.reading = false → exec (.configByteRead b) s = .next s) ∧
  (∀ (d : Time) (s : State), s.station = .quiet → s.loader.retryDeadline = some d → reached s.now d = true →
    exec .configRetry s =
      .next { s with loader := { s.loader with retryDeadline := none, reading := true, image := [] } }) ∧
  (∀ (d : Time) (s : State), s.loader.retryDeadline = some d → reached s.now d = false →
    exec .configRetry s = .next s)

/-- LOAD_END of an image with a wrong marker, CRC or station ID: QUIET, CONFIG_INVALID, a retry in 10 s and ALARM, and
nothing of the image taken. -/
def Obligations.InvalidImageGoesQuiet : Prop :=
  ∀ s : State, LevelsOk s → LoadingOk s → s.loader.reading = true → s.loader.image.length = 141 →
    (field16 s.loader.image 0 ≠ 0x4A36 ∨
      (crc16 ((s.loader.image.drop 2).take 137)).toNat ≠ field16 s.loader.image 139 ∨
      field16 s.loader.image 2 = 0 ∨ field16 s.loader.image 2 = 65535) →
    exec .loadEnd s = .next { s with
      station := .quiet
      loader := { s.loader with
        reading := false, image := [], retryDeadline := some (later s.now 10000), configInvalid := true }
      lines := { s.lines with alarm := true } }

/-- LOAD_END of a valid image: parameters, carry entries and band plan taken, the enabled paths SEEKING, LISTEN; with a
listen time of 0 the station is RUNNING at once. -/
def Obligations.ValidImageTaken : Prop :=
  ∀ s : State, LevelsOk s → LoadingOk s → (∀ i : PathIx, (s.path i).state = .idle) → s.loader.reading = true →
    s.loader.image.length = 141 → field16 s.loader.image 0 = 0x4A36 →
    (crc16 ((s.loader.image.drop 2).take 137)).toNat = field16 s.loader.image 139 →
    field16 s.loader.image 2 ≠ 0 → field16 s.loader.image 2 ≠ 65535 →
    Answers .loadEnd s (fun t =>
      t.params = settleParams (storedParams s.loader.image) ∧
      (∀ i : PathIx, t.carryOf i = settleCarry s.loader.image i.val) ∧
      (∀ k : Slot, (t.slot k).attr = imageAttr s.loader.image k) ∧
      t.loader.configInvalid = false ∧ t.loader.configClamped = imageClamped s.loader.image ∧
      t.loader.reading = false ∧ t.loader.retryDeadline = none ∧
      (∀ i : PathIx, (t.path i).state = if (t.carryOf i).enabled then .seeking else .idle) ∧
      (∀ i : PathIx, (t.carryOf i).enabled = true → (t.path i).evalDeadline = some (later s.now (50 * i.val))) ∧
      (t.params.listenTime = 0 → t.station = .running ∧ t.gov.site = t.derivedSite) ∧
      (t.params.listenTime ≠ 0 →
        t.station = .listen ∧ t.loader.endOfListening = some (laterS s.now t.params.listenTime) ∧
        t.lines.alarm = (s.mon.chainFault || s.lines.inhibitAlarm) ∧
        (∀ k : Slot, t.slot k = { s.slot k with attr := (t.slot k).attr }) ∧
        (∀ i : PathIx, t.path i =
          { s.path i with state := (t.path i).state, evalDeadline := (t.path i).evalDeadline }) ∧
        (∀ i : PathIx, (t.carryOf i).enabled = false → t.path i = s.path i) ∧
        t = { s with
          station := t.station, params := t.params, carry := t.carry, loader := t.loader, slots := t.slots
          paths := t.paths, lines := { s.lines with alarm := t.lines.alarm } }))

/-- Whatever the image holds, every settled parameter and every value of an enabled carry entry is the image's when it
lies in the range of Tables 10-1 and 10-2 and the nearer end of the range when it does not; a settled value settles to
itself, and of several enabled entries with one programme the first keeps it. The image stores each parameter in the
bytes of Table 10-1, a slot's attribute in two bits of the band plan and a carry entry's programme in its bytes 1 and 2,
and CONFIG_CLAMPED is set just when clamping changed a parameter or a value of an enabled entry. -/
def Obligations.SettledImageInRange : Prop :=
  (∀ p : Params, p.sFloor ≤ 255 →
    let q := settleParams p
    NearestIn 0 3 p.guardDistance q.guardDistance ∧ NearestIn 1 60 p.claimHoldOff q.claimHoldOff ∧
    NearestIn 0 600 p.holdover q.holdover ∧ NearestIn 30 600 p.neighbourTimeout q.neighbourTimeout ∧
    NearestIn 10 (q.neighbourTimeout / 2) p.silenceGrace q.silenceGrace ∧
    NearestIn 1 30 p.collisionPersistence q.collisionPersistence ∧
    NearestIn 500 10000 p.acquireTimeout q.acquireTimeout ∧ NearestIn 5 300 p.sourcePenalty q.sourcePenalty ∧
    NearestIn 0 120 p.listenTime q.listenTime ∧ NearestIn 0 100 p.qMin q.qMin ∧
    NearestIn 0 20 p.hopPenalty q.hopPenalty ∧ NearestIn 0 50 p.switchMargin q.switchMargin ∧
    NearestIn 1 10 p.switchCount q.switchCount ∧ NearestIn 1 4095 p.mFloor q.mFloor ∧
    NearestIn (q.mFloor + 1) 32767 p.mGood q.mGood ∧ NearestIn 1 65535 p.gMin q.gMin ∧
    NearestIn q.gMin 65535 p.gMax q.gMax ∧ NearestIn 1 16769025 p.pMax q.pMax ∧
    NearestIn 0 255 p.sFloor q.sFloor ∧ NearestIn 1 16384 p.clipLimit q.clipLimit ∧
    q.stationId = p.stationId ∧ q.networkId = p.networkId ∧ q.openFlag = p.openFlag ∧ q.acceptOpen = p.acceptOpen ∧
    settleParams q = q) ∧
  (∀ (bs : List Byte) (c : PathIx), (settleCarry bs c.val).enabled = true →
    let e := settleCarry bs c.val
    let o := 55 + 7 * c.val
    (byteAt bs o).getLsbD 7 = true ∧ e.programme = word16 (byteAt bs (o + 1)) (byteAt bs (o + 2)) ∧ e.programme ≠ 0 ∧
    imageProgramme bs c.val = some e.programme ∧
    NearestIn 1 8 (byteAt bs (o + 3)).toNat e.priority ∧ NearestIn 1 4095 (field16 bs (o + 4)) e.target ∧
    NearestIn 0 63 (byteAt bs (o + 6)).toNat e.preferred.val ∧
    (e.pinned = true ↔ (byteAt bs o).getLsbD 6 = true ∧
      (imageAttr bs e.preferred = .transmit ∨ imageAttr bs e.preferred = .both))) ∧
  (∀ (bs : List Byte) (c d : PathIx), c ≠ d → (settleCarry bs c.val).enabled = true →
    (settleCarry bs d.val).enabled = true → (settleCarry bs c.val).programme ≠ (settleCarry bs d.val).programme) ∧
  (∀ (bs : List Byte) (c : PathIx) (pr : ProgrammeId), imageProgramme bs c.val = some pr →
    (∀ d : PathIx, d < c → imageProgramme bs d.val ≠ some pr) → (settleCarry bs c.val).enabled = true) ∧
  (∀ bs : List Byte,
    let b := fun n => (byteAt bs n).toNat
    let p := storedParams bs
    p.stationId.toNat = 256 * b 2 + b 3 ∧ p.networkId.toNat = b 4 ∧ p.openFlag = (byteAt bs 5).getLsbD 1 ∧
    p.acceptOpen = (byteAt bs 5).getLsbD 0 ∧ p.guardDistance = b 6 ∧ p.claimHoldOff = b 7 ∧
    p.holdover = 256 * b 8 + b 9 ∧ p.neighbourTimeout = 256 * b 10 + b 11 ∧ p.silenceGrace = 256 * b 12 + b 13 ∧
    p.collisionPersistence = b 14 ∧ p.acquireTimeout = 256 * b 15 + b 16 ∧ p.sourcePenalty = 256 * b 17 + b 18 ∧
    p.listenTime = b 19 ∧ p.qMin = b 20 ∧ p.hopPenalty = b 21 ∧ p.switchMargin = b 22 ∧ p.switchCount = b 23 ∧
    p.mFloor = 256 * b 24 + b 25 ∧ p.mGood = 256 * b 26 + b 27 ∧ p.gMin = 256 * b 28 + b 29 ∧
    p.gMax = 256 * b 30 + b 31 ∧ p.pMax = 256 * (256 * (256 * b 32 + b 33) + b 34) + b 35 ∧ p.sFloor = b 36 ∧
    p.clipLimit = 256 * b 37 + b 38) ∧
  (∀ (bs : List Byte) (k : Slot),
    let plan := byteAt bs (39 + k.val / 4)
    imageAttr bs k = match plan.getLsbD (7 - 2 * (k.val % 4)), plan.getLsbD (6 - 2 * (k.val % 4)) with
      | false, false => .barred
      | false, true => .watch
      | true, false => .transmit
      | true, true => .both) ∧
  (∀ (bs : List Byte) (c : PathIx) (pr : ProgrammeId), imageProgramme bs c.val = some pr ↔
    (byteAt bs (55 + 7 * c.val)).getLsbD 7 = true ∧ pr ≠ 0 ∧
    pr.toNat = 256 * (byteAt bs (56 + 7 * c.val)).toNat + (byteAt bs (57 + 7 * c.val)).toNat) ∧
  (∀ bs : List Byte, imageClamped bs = true ↔
    settleParams (storedParams bs) ≠ storedParams bs ∨ ∃ c : PathIx,
      let e := settleCarry bs c.val
      let b := fun n => (byteAt bs (55 + 7 * c.val + n)).toNat
      e.enabled = true ∧ (e.priority ≠ b 3 ∨ e.target ≠ 256 * b 4 + b 5 ∨ e.preferred.val ≠ b 6))

/-- END_OF_LISTENING: RUNNING, the site TRANSMITTING or INHIBITED by the permit, and the waiting paths claim. That the
deadline becomes absent in RUNNING is the model's inference (log entry 14), and that the command changes nothing outside
LISTEN is the model's choice (log entry 2). -/
def Obligations.EndOfListeningRuns : Prop :=
  (∀ (d : Time) (s : State), LevelsOk s → s.station = .listen → s.loader.endOfListening = some d →
    reached s.now d = true → s.gov.lockoutDeadline = none → s.gov.muteDeadline = none →
    Answers .endOfListening s (fun t =>
      SiteFrame { s with station := .running, loader := { s.loader with endOfListening := none } } t ∧
      t.gov.site = (if s.lines.permit then .transmitting else .inhibited) ∧ SitePaths s t ∧
      (s.lines.permit = true → t.gov.graceDeadline = none ∧ t.lines.inhibitAlarmDeadline = s.lines.inhibitAlarmDeadline) ∧
      (s.lines.permit = false → t.gov.graceDeadline = some (laterS s.now s.params.silenceGrace) ∧
        t.lines.inhibitAlarmDeadline = some (laterS s.now s.params.silenceGrace)))) ∧
  (∀ s : State, s.station ≠ .listen → exec .endOfListening s = .next s)

/-! ### The block boundary -/

/-- BLOCK_BOUNDARY: time, the pending sets taken into use, the block reports closed, and all that it leaves alone, in
every order of its own acts. A side whose new set is not FULL holds no programme in its channel. The output slot that a
transmit side latches is the one that stands at the opening: the model's choice, log entry 19. That the survey side's
warm-up flag is set until LISTEN is entered is the model's reading, R55 before R7, log entry 20. Steps that stand in the
order are a matter of StepsInsideBoundary. -/
def Obligations.BoundaryTimeAndPorts : Prop :=
  ∀ (order : List BoundaryAct) (s : State), PlainOrder order → Answers (.blockBoundary order) s (fun t =>
    t.timing.ms = s.timing.ms + 1 ∧
    t.timing.secs = (if (s.timing.ms + 1).toNat % 1000 = 0 then s.timing.secs + 1 else s.timing.secs) ∧
    t.builder.frameTimer = s.builder.frameTimer + 1 ∧
    t.composite = { s.composite with clips := 0 } ∧
    (∀ i : PathIx, t.rxSide i =
      { s.rxSide i with
        sum := 0, count := 0, warmUp := false
        latest := if (s.rxSide i).warmUp then (s.rxSide i).latest else some ((s.rxSide i).sum / 256) }) ∧
    (∀ i : PathIx, t.txSide i =
      { s.txSide i with
        inUse := (s.txSide i).pendingSet, recordSlot := (s.path i).output
        channel := if (s.txSide i).pendingSet.cond = .full then (s.txSide i).channel else ⟨0, 0⟩
        pendingSet := (t.txSide i).pendingSet, tone := (t.txSide i).tone }) ∧
    t.survey.rx.warmUp = s.unloaded ∧ t.mon.rx.warmUp = false ∧
    t = { s with
      timing := t.timing, rx := t.rx, tx := t.tx, composite := t.composite, builder := t.builder, paths := t.paths
      gov := t.gov
      survey := { s.survey with rx := t.survey.rx, dwell := t.survey.dwell }
      mon := { s.mon with rx := t.mon.rx, visit := t.mon.visit, verdicts := t.mon.verdicts }
      lines := { t.lines with permit := s.lines.permit } })

/-- BLOCK_BOUNDARY takes a path's block report into its gain (R130 to R132), its carrier check (R116) and its
low-carrier count (R119), in every order of its own acts. -/
def Obligations.BoundaryTakesReports : Prop :=
  ∀ (order : List BoundaryAct) (s : State) (i : PathIx), PlainOrder order → Answers (.blockBoundary order) s (fun t =>
    let p := s.path i
    let q := t.path i
    let M := (s.rxSide i).sum / 256
    q = { p with
      g := q.g, m := q.m, acquired := q.acquired, check := q.check, lowCarrier := q.lowCarrier, shed := q.shed
      event := q.event, cond := q.cond } ∧
    (watching p.state = false ∨ (s.rxSide i).warmUp = true →
      q.g = p.g ∧ q.m = p.m ∧ q.acquired = p.acquired ∧ q.lowCarrier = p.lowCarrier) ∧
    (watching p.state = true → (s.rxSide i).warmUp = false →
      q.m = M ∧
      (M < s.params.mFloor → q.g = p.g ∧ q.acquired = p.acquired) ∧
      (s.params.mFloor ≤ M →
        let want := clampTo s.params.gMin s.params.gMax ((s.carryOf i).target * 1024 / M)
        let slew := max 1 (p.g / 64)
        q.acquired = false ∧
        (p.acquired = true → q.g = want) ∧
        (p.acquired = false → p.g < want → q.g = min want (p.g + slew)) ∧
        (p.acquired = false → want < p.g → q.g = max want (p.g - slew)) ∧
        (p.acquired = false → p.g = want → q.g = p.g)) ∧
      (p.lowCarrier < 50 → q.lowCarrier = if M < s.params.mFloor then p.lowCarrier + 1 else 0)) ∧
    (∀ n : Nat, n < 20 → p.check = .counting n → (s.rxSide i).warmUp = false →
      q.check = if s.params.mFloor ≤ M then .passed else .counting (n + 1)) ∧
    (p.check = .warmUp → (s.rxSide i).warmUp = true → q.check = .counting 0))

/-- BLOCK_BOUNDARY closes the survey and the monitor receive side and hands their reports on: a dwell goes from its
warm-up to its check, whose measurements and good measurements are counted, and keeps its latest measurement; a visit
goes from its warm-up to LISTENING, and is cut when the condition of its path changes. Until LISTEN is entered the
survey side's warm-up flag stays set (R55 before R7: the model's reading, log entry 20). -/
def Obligations.BoundaryReportsToDwellAndVisit : Prop :=
  ∀ (order : List BoundaryAct) (s : State), PlainOrder order → LevelsOk s → Answers (.blockBoundary order) s (fun t =>
    let M := s.survey.rx.sum / 256
    t.survey.rx = { s.survey.rx with
      sum := 0, count := 0, warmUp := s.unloaded
      latest := if s.survey.rx.warmUp then s.survey.rx.latest else some M } ∧
    t.mon.rx = { s.mon.rx with
      sum := 0, count := 0, warmUp := false
      latest := if s.mon.rx.warmUp then s.mon.rx.latest else some (s.mon.rx.sum / 256) } ∧
    (s.survey.dwell = none → t.survey.dwell = none) ∧
    (∀ d : Dwell, s.survey.dwell = some d →
      (d.phase = .warmUp → s.survey.rx.warmUp = true → t.survey.dwell = some { d with phase := .check }) ∧
      (d.phase = .check → s.survey.rx.warmUp = false → d.checks < 20 → t.survey.dwell = some { d with
        checks := d.checks + 1, good := if s.params.mFloor ≤ M then d.good + 1 else d.good, latest := some M }) ∧
      (d.phase = .listening → s.survey.rx.warmUp = false → t.survey.dwell = some { d with latest := some M }) ∧
      (d.phase ≠ .warmUp → s.survey.rx.warmUp = true → t.survey.dwell = some d)) ∧
    (s.mon.visit = none → t.mon.visit = none) ∧
    (∀ v : Visit, s.mon.visit = some v → s.composite.clips ≤ s.params.clipLimit ∨ s.gov.site ≠ .transmitting →
      ((t.path v.path).cond ≠ (s.path v.path).cond → t.mon.visit = none) ∧
      ((t.path v.path).cond = (s.path v.path).cond →
        (v.phase = .warmUp → s.mon.rx.warmUp = true → t.mon.visit = some { v with phase := .listening }) ∧
        (v.phase = .listening → t.mon.visit = some v))))

/-- BLOCK_BOUNDARY hands each path the bit at its bit position: mark without a snapshot or once the frame is abandoned,
and a frame that promised the programme is abandoned when the path is no longer FULL. The check of a path that stands
before the clip count and the evaluation meets the condition of before and hands one more bit, and one that stands
behind both meets the condition that they leave (R39). -/
def Obligations.BoundaryHandsTagBits : Prop :=
  (∀ (order : List BoundaryAct) (s : State) (i : PathIx), PlainOrder order → LevelsOk s →
    (s.gov.restoreCandidate ≠ some i ∨ s.gov.restoreCount < 999) → Answers (.blockBoundary order) s (fun t =>
    let b := s.builderPath i
    let c := t.builderPath i
    let handed := fun x : Tone => if (s.txSide i).pendingSet.cond = .off then none else some x
    c = { b with bitPosition := b.bitPosition + 1, abandoned := c.abandoned } ∧
    (b.snapshot = none → (t.txSide i).tone = handed .mark ∧ c.abandoned = b.abandoned) ∧
    (b.abandoned = true → (t.txSide i).tone = handed .mark ∧ c.abandoned = true) ∧
    (∀ bs : List Byte, b.snapshot = some bs → b.abandoned = false →
      ((byteAt bs 2).getLsbD 6 = true ∨ frameBits bs ≤ b.bitPosition ∨ (t.path i).cond = .full →
        (t.txSide i).tone = handed (frameTone bs b.bitPosition) ∧ c.abandoned = false) ∧
      ((byteAt bs 2).getLsbD 6 = false → b.bitPosition < frameBits bs → (s.path i).cond ≠ .full →
        (t.txSide i).tone = handed .mark ∧ c.abandoned = true)))) ∧
  (∀ (first last : List BoundaryAct) (i : PathIx) (bs : List Byte) (s : State),
    let order := first ++ .bit i :: last
    PlainOrder order → orderOk order = true → LevelsOk s →
    (s.builderPath i).snapshot = some bs → (s.builderPath i).abandoned = false →
    (byteAt bs 2).getLsbD 6 = false → (s.builderPath i).bitPosition < frameBits bs →
    Answers (.blockBoundary order) s (fun t =>
      let checked := fun c : Cond =>
        (t.builderPath i).abandoned = decide (c ≠ .full) ∧
        (t.txSide i).tone = if (s.txSide i).pendingSet.cond = .off then none
          else some (if c = .full then frameTone bs (s.builderPath i).bitPosition else .mark)
      (.clips ∈ last → .evaluation ∈ last → checked (s.path i).cond) ∧
      (.clips ∈ first → .evaluation ∈ first → checked (t.path i).cond)))

/-- BLOCK_BOUNDARY keeps the composite within its budget: the applied factor squared times the sum of the squared
amplitudes is at most P_max × 65536, in every order of its own acts; with the evaluation last, the amplitudes and the
pending sets are those of the conditions as they stand. The evaluation uses the new gain and measurement of each path
whose report is taken before it, and of every other path those of the block before. -/
def Obligations.BoundaryKeepsBudget : Prop :=
  ∀ (order : List BoundaryAct) (s : State), PlainOrder order → Answers (.blockBoundary order) s (fun t =>
    let sum := ((indices 12).map (fun i => t.amplitude i * t.amplitude i)).sum
    t.gov.backoff * t.gov.backoff * sum ≤ s.params.pMax * 65536 ∧
    (t.gov.backoff = 256 → sum ≤ s.params.pMax) ∧ t.gov.backoff ≤ min 256 s.gov.cap ∧
    t.gov.cap = min 256 (s.gov.cap + 8) ∧ (∀ i : PathIx, t.amplitude i ≤ 4095) ∧
    (orderOk order = true → order.getLast? = some .evaluation → ∀ i : PathIx,
      ((t.path i).cond = .off → t.amplitude i = 0 ∧ (t.txSide i).pendingSet = ⟨.off, 0, 0⟩) ∧
      ((t.path i).cond = .tagOnly →
        t.amplitude i = 256 ∧ (t.txSide i).pendingSet = ⟨.tagOnly, 0, t.gov.backoff⟩) ∧
      ((t.path i).cond = .full →
        t.amplitude i = min 4095 ((t.path i).m * (t.path i).g / 1024) ∧
        (t.txSide i).pendingSet =
          ⟨.full, (t.path i).g * t.gov.backoff / 256, t.amplitude i * t.gov.backoff / 256 / 16⟩)) ∧
    (∀ first last : List BoundaryAct, order = first ++ .evaluation :: last → orderOk order = true → ∀ i : PathIx,
      (t.path i).cond = .full →
        (.level i ∈ first → t.amplitude i = min 4095 ((t.path i).m * (t.path i).g / 1024)) ∧
        (.level i ∈ last → t.amplitude i = min 4095 ((s.path i).m * (s.path i).g / 1024))))

/-- BLOCK_BOUNDARY sheds the least important first: with the evaluation last, a computed factor below s_floor leaves no
path FULL, and in every order a path shed at this boundary stood behind every path that is still FULL. Shedding stops as
soon as it may: with the path shed last, the most important of them, still at its full level, the factor would lie below
s_floor. -/
def Obligations.BoundaryShedsLeastImportant : Prop :=
  ∀ (order : List BoundaryAct) (s : State), PlainOrder order → LevelsOk s → Answers (.blockBoundary order) s (fun t =>
    (orderOk order = true → order.getLast? = some .evaluation → computedBackoff t < s.params.sFloor →
      ∀ i : PathIx, (t.path i).cond ≠ .full) ∧
    (∀ i : PathIx, (s.path i).shed = false → (t.path i).shed = true →
      (t.path i).event = some .shed ∧ (t.path i).cond ≠ .full ∧
      ∀ j : PathIx, (t.path j).cond = .full →
        (s.carryOf j).priority < (s.carryOf i).priority ∨
        ((s.carryOf j).priority = (s.carryOf i).priority ∧ j < i)) ∧
    (orderOk order = true → order.getLast? = some .evaluation → s.params.sFloor ≤ 255 →
      ∀ i : PathIx, (s.path i).shed = false → (t.path i).shed = true →
      (∀ j : PathIx, (s.path j).shed = false → (t.path j).shed = true →
        (s.carryOf i).priority < (s.carryOf j).priority ∨
        ((s.carryOf i).priority = (s.carryOf j).priority ∧ i ≤ j)) →
      let full := min 4095 ((t.path i).m * (t.path i).g / 1024)
      let sum := compositeSum t - 256 * 256 + full * full
      s.params.pMax < sum ∧ s.params.pMax * 65536 < s.params.sFloor * s.params.sFloor * sum) ∧
    (∀ i : PathIx, (s.path i).state ≠ .on → (t.path i).shed = false))

/-- BLOCK_BOUNDARY with more clips than the clip limit while the site transmits is a clip fault: every path OFF with its
pending set OFF, and a mute, or at the third fault within 60 s a lockout. Without one the governor's history, deadlines
and site state stand. -/
def Obligations.BoundaryClipFault : Prop :=
  ∀ (order : List BoundaryAct) (s : State), PlainOrder order → LevelsOk s → Answers (.blockBoundary order) s (fun t =>
    let now := s.timing.ms + 1
    let history := s.gov.faultHistory.filter (fun x => decide ((now - x).toNat ≤ 60000)) ++ [now]
    (s.params.clipLimit < s.composite.clips → s.gov.site = .transmitting →
      t.gov.faultHistory = history ∧ t.mon.visit = none ∧
      t.gov.graceDeadline = some (laterS now s.params.silenceGrace) ∧
      (∀ i : PathIx, (t.path i).cond = .off ∧ (t.txSide i).pendingSet = ⟨.off, 0, 0⟩) ∧
      (history.length < 3 → t.gov.site = .muted ∧ t.gov.lockoutDeadline = none ∧
        t.gov.muteDeadline = some (later now
          (match s.gov.lastMuteEnd with
           | none => 500
           | some e => if (now - e).toNat ≤ 10000 then 5000 else 500))) ∧
      (3 ≤ history.length → t.gov.site = .lockedOut ∧ t.gov.lockoutFlag = true ∧ t.gov.muteDeadline = none ∧
        t.gov.lockoutDeadline = some (later now 900000) ∧ t.lines.alarm = true)) ∧
    (s.composite.clips ≤ s.params.clipLimit ∨ s.gov.site ≠ .transmitting →
      t.gov.faultHistory = s.gov.faultHistory ∧ t.gov.site = s.gov.site ∧
      t.gov.muteDeadline = s.gov.muteDeadline ∧ t.gov.lockoutDeadline = s.gov.lockoutDeadline ∧
      t.gov.graceDeadline = s.gov.graceDeadline ∧ t.lines = s.lines))

/-- BLOCK_BOUNDARY with the evaluation last tests for a restore: the candidate is the shed path of the smallest priority
number, then of the lowest index; a new candidate starts at 0, and the count rises while the candidate at full level
would leave the factor 16 above s_floor, and becomes 0 when it would not. An evaluation that another act follows is
completed by the restore it calls for (how RESTORE meets the evaluation is the model's inference, log entry 5). -/
def Obligations.BoundaryTestsRestore : Prop :=
  (∀ (order : List BoundaryAct) (s : State), PlainOrder order → orderOk order = true →
    order.getLast? = some .evaluation → s.gov.restoreCount < 1000 → Answers (.blockBoundary order) s (fun t =>
      let may := fun i : PathIx => (t.path i).shed = true ∧ (t.path i).state = .on ∧ (t.path i).cond = .tagOnly
      let full := fun i : PathIx => min 4095 ((t.path i).m * (t.path i).g / 1024)
      ((∀ i : PathIx, ¬may i) → t.gov.restoreCandidate = none ∧ t.gov.restoreCount = 0) ∧
      (∀ i : PathIx, may i →
        (∀ j : PathIx, may j → (s.carryOf i).priority < (s.carryOf j).priority ∨
          ((s.carryOf i).priority = (s.carryOf j).priority ∧ i ≤ j)) →
        let sum := compositeSum t - 256 * 256 + full i * full i
        let fits := if sum ≤ s.params.pMax then s.params.sFloor + 16 ≤ 256
          else ∃ n : Nat, n ≤ 255 ∧ s.params.sFloor + 16 ≤ n ∧ n * n * sum ≤ s.params.pMax * 65536
        t.gov.restoreCandidate = some i ∧
        (s.gov.restoreCandidate ≠ some i → t.gov.restoreCount = 0) ∧
        (s.gov.restoreCandidate = some i → fits → t.gov.restoreCount = s.gov.restoreCount + 1) ∧
        (s.gov.restoreCandidate = some i → ¬fits → t.gov.restoreCount = 0)))) ∧
  (∀ (first : List BoundaryAct) (s : State), PlainOrder first → orderOk (first ++ [.evaluation, .clips]) = true →
    (s.composite.clips ≤ s.params.clipLimit ∨ s.gov.site ≠ .transmitting) →
    ∃ u, exec (.blockBoundary (first ++ [.clips, .evaluation])) s = .next u ∧
      exec (.blockBoundary (first ++ [.evaluation, .clips])) s = exec .restore u)

/-- BLOCK_BOUNDARY takes the steps in its order as their commands, where they stand: a step behind every act is the
command sent after the boundary, a step between two acts acts on what the first left, and a frame start among the bits
leaves bit-time 0 to those that follow it. So a mute or a lockout that ends before the evaluation has that evaluation
apply the cap of 64. That the order of the steps is the command's operand is the model's choice (log entry 3); that an
evaluation which a step follows is completed first by the RESTORE it calls for, and that a late frame timer keeps its
phase, are the model's inferences (log entries 5 and 7). -/
def Obligations.StepsInsideBoundary : Prop :=
  (∀ (order : List BoundaryAct) (b : BoundaryStep) (s : State), orderOk order = true →
    ∃ u, exec (.blockBoundary order) s = .next u ∧
      (order.getLast? ≠ some .evaluation →
        exec (.blockBoundary (order ++ [.step b])) s = exec (stepCommand b) u) ∧
      (order.getLast? = some .evaluation → ∃ v, exec .restore u = .next v ∧
        exec (.blockBoundary (order ++ [.step b])) s = exec (stepCommand b) v)) ∧
  (∀ (order : List BoundaryAct) (s : State), orderOk order = true → exec (.blockBoundary order) s =
    .next (boundaryRun (blockReports s) s.composite.clips order (openBoundary s))) ∧
  (∀ (reports : Vector (Option Nat) 12) (clips : Nat) (b : BoundaryStep) (rest : List BoundaryAct) (s : State),
    b ≠ .frameStart ∨ (∀ i : PathIx, .bit i ∉ rest) → ∃ u, exec (stepCommand b) s = .next u ∧
      boundaryRun reports clips (.step b :: rest) s = boundaryRun reports clips rest u) ∧
  (∀ (first last : List BoundaryAct) (s : State), PlainOrder first → PlainOrder last → orderOk (first ++ last) = true →
    399 ≤ s.builder.frameTimer → (s.station = .listen ∨ s.station = .running) →
    Answers (.blockBoundary (first ++ .step .frameStart :: last)) s (fun t =>
      t.builder.frameTimer = s.builder.frameTimer - 399 ∧
      ∀ i : PathIx, (t.builderPath i).bitPosition = 1 ∧
        ((s.carryOf i).enabled = true → ((t.builderPath i).snapshot).isSome = true) ∧
        ((s.carryOf i).enabled = false → t.builderPath i =
          { snapshot := none, bitPosition := 1, keptDepth := (s.builderPath i).keptDepth, abandoned := false }))) ∧
  (∀ (order : List BoundaryAct) (d : Time) (s : State), PlainOrder order → orderOk order = true → LevelsOk s →
    s.station = .running → s.gov.lockoutDeadline = none → s.gov.muteDeadline = some d → s.lines.permit = true →
    s.composite.clips ≤ s.params.clipLimit → reached (s.timing.ms + 1) d = true →
    Answers (.blockBoundary (.step .muteEnd :: order)) s (fun t =>
      t.gov.muteDeadline = none ∧ t.gov.lastMuteEnd = some (s.timing.ms + 1) ∧ t.gov.cap = 72 ∧ t.gov.backoff ≤ 64 ∧
      t.gov.site = .transmitting ∧ t.gov.graceDeadline = none ∧
      (order.getLast? = some .evaluation → ∀ i : PathIx, (t.path i).cond = .full →
        (t.txSide i).pendingSet.cond = .full ∧ (t.txSide i).pendingSet.gain = (t.path i).g * t.gov.backoff / 256)))

/-- The composite sum and the backoff factor it calls for: the largest s up to 255 with s² × P within P_max × 65536. -/
def Obligations.BackoffIsLargestWithinBudget : Prop :=
  ∀ s : State,
    compositeSum s = (((indices 12).filter (fun i => (s.path i).cond != .off)).map
      (fun i => nominalAmplitude (s.path i) * nominalAmplitude (s.path i))).sum ∧
    compositeSum s ≤ 201228300 ∧
    (compositeSum s ≤ s.params.pMax → computedBackoff s = 256) ∧
    (s.params.pMax < compositeSum s → computedBackoff s ≤ 255 ∧
      computedBackoff s * computedBackoff s * compositeSum s ≤ s.params.pMax * 65536 ∧
      ∀ n : Nat, n ≤ 255 → n * n * compositeSum s ≤ s.params.pMax * 65536 → n ≤ computedBackoff s) ∧
    ((∀ i : PathIx, (s.path i).cond = .off) → compositeSum s = 0 ∧ computedBackoff s = 256) ∧
    (∀ cap : Nat, (applyBackoff cap s).gov.backoff = min (computedBackoff s) cap)

/-- RESTORE at a count of 1,000 gives the candidate its programme back. It computes the amplitudes and the factor again
under the cap of its evaluation, which the model keeps in a field of its own (log entries 4 and 5), and without a
candidate or before 1,000 it changes nothing (the model's choice, log entry 2). -/
def Obligations.RestoreReturnsToFull : Prop :=
  (∀ (i : PathIx) (s : State), s.gov.restoreCandidate = some i → 1000 ≤ s.gov.restoreCount →
    (s.path i).shed = true → (s.path i).state = .on → (s.path i).cond = .tagOnly →
    (s.path i).txFaultDeadline = none → s.gov.site = .transmitting →
    Answers .restore s (fun t =>
      t.path i = { s.path i with shed := false, event := some .restored, cond := .full } ∧
      (∀ j : PathIx, j ≠ i → t.path j = s.path j) ∧
      compositeSum t + 256 * 256 = compositeSum s + t.amplitude i * t.amplitude i ∧
      t.amplitude i = min 4095 ((s.path i).m * (s.path i).g / 1024) ∧
      (∀ j : PathIx, t.amplitude j = nominalAmplitude (t.path j)) ∧
      t.gov = { s.gov with
        restoreCandidate := none, restoreCount := 0, amplitudes := t.gov.amplitudes
        backoff := min (computedBackoff t) s.gov.evaluationCap } ∧
      (∀ j : PathIx, t.txSide j =
        { s.txSide j with pendingSet := pendingFor t.gov.backoff (t.path j) }) ∧
      t = { s with
        paths := t.paths, tx := t.tx, gov := t.gov, mon := { s.mon with visit := t.mon.visit }
        lines := { s.lines with txkey := t.lines.txkey, keyHoldDeadline := t.lines.keyHoldDeadline } })) ∧
  (∀ s : State, s.gov.restoreCount < 1000 ∨ s.gov.restoreCandidate = none → exec .restore s = .next s)

/-! ### The tuning queue -/

/-- TUNING_ENTRY_APPLIED takes one head at a boundary: a passing receive entry retunes the receive side and starts the
carrier check of an acquisition, a passing transmit entry sets the transmit word and slot in use, and a failing one is
dropped with every other entry of its path. A cancellation that is owed comes one head nearer, and the transmit entries
of a path whose cancellation falls due leave the queue behind the head (the model's choice, log entry 21). Once the head
of a boundary is taken the command changes nothing until the next (the model's choice and mark, log entries 2 and 4).
The word of slot k is (k − 32) × 52,428,800 modulo 2³². -/
def Obligations.TuningHeadTaken : Prop :=
  (∀ (i : PathIx) (k : Slot) (rest : List TuneEntry) (s : State), s.timing.tuningDue = true →
    s.tuning = ⟨i, .receive, k⟩ :: rest → (s.path i).rxSlot = some k →
    Answers .tuningEntryApplied s (fun t =>
      t.tuning = rest.filter (fun e => decide (¬(e.side = .transmit ∧ (s.path e.path).cancelOwed = 1))) ∧
      t.rxSide i = { s.rxSide i with word := slotWord k, warmUp := true, latest := none } ∧
      t.framer (.path i) = Framer.cleared ∧
      t.path i = { s.path i with
        rxPending := false, check := if acquiring (s.path i).state then .warmUp else (s.path i).check
        cancelOwed := (s.path i).cancelOwed - 1 } ∧
      (∀ j : PathIx, j ≠ i → t.rxSide j = s.rxSide j ∧ t.framer (.path j) = s.framer (.path j) ∧
        t.path j = { s.path j with cancelOwed := (s.path j).cancelOwed - 1 }) ∧
      t = { s with
        timing := { s.timing with tuningDue := false }, tuning := t.tuning, rx := t.rx, framers := t.framers
        paths := t.paths })) ∧
  (∀ (i : PathIx) (k : Slot) (rest : List TuneEntry) (s : State), s.timing.tuningDue = true →
    s.tuning = ⟨i, .transmit, k⟩ :: rest → (s.slot k).own ≠ .none → (s.slot k).ownPath = some i →
    Answers .tuningEntryApplied s (fun t =>
      t.tuning = rest.filter (fun e => decide (¬(e.side = .transmit ∧ (s.path e.path).cancelOwed = 1))) ∧
      t.txSide i = { s.txSide i with word := slotWord k, slotInUse := some k } ∧
      t.path i = { s.path i with txPending := false, cancelOwed := (s.path i).cancelOwed - 1 } ∧
      (∀ j : PathIx, j ≠ i → t.txSide j = s.txSide j ∧
        t.path j = { s.path j with cancelOwed := (s.path j).cancelOwed - 1 }) ∧
      t = { s with
        timing := { s.timing with tuningDue := false }, tuning := t.tuning, tx := t.tx, paths := t.paths })) ∧
  (∀ (i : PathIx) (side : Side) (k : Slot) (rest : List TuneEntry) (s : State), s.timing.tuningDue = true →
    s.tuning = ⟨i, side, k⟩ :: rest →
    (side = .receive ∧ (s.path i).rxSlot ≠ some k) ∨
      (side = .transmit ∧ ((s.slot k).own = .none ∨ (s.slot k).ownPath ≠ some i)) →
    exec .tuningEntryApplied s = .next { s with
      timing := { s.timing with tuningDue := false }
      tuning := rest.filter (fun e => decide (e.path ≠ i ∧ ¬(e.side = .transmit ∧ (s.path e.path).cancelOwed = 1)))
      paths := s.paths.map (fun p => { p with cancelOwed := p.cancelOwed - 1 }) }) ∧
  (∀ s : State, s.timing.tuningDue = true → s.tuning = [] → exec .tuningEntryApplied s = .next { s with
    timing := { s.timing with tuningDue := false }
    paths := s.paths.map (fun p => { p with cancelOwed := p.cancelOwed - 1 }) }) ∧
  (∀ s : State, s.timing.tuningDue = false → exec .tuningEntryApplied s = .next s) ∧
  (∀ k : Slot, slotWord k = BitVec.ofInt 32 (((k.val : Int) - 32) * 52428800))

/-! ### The relay tag -/

/-- The framer steps that read no byte: a break found in HUNT, in STANDBY or after a stop bit of space, a lead byte that
never comes, a gap that is too long, one sample taken in HUNT and in BREAK, one taken while a start edge is looked for
within its limit, and one taken after a stop bit of space, where a mark ends the frame as FRAMING. A framer command
without its condition changes nothing (the model's choice, log entry 2), and that samples decide and the framer's other
commands act is the model's inference (log entry 6). -/
def Obligations.FramerStepsOutsideBytes : Prop :=
  (∀ (ix : FramerIx) (s : State), (s.framer ix).spaceRun = 192 → (s.framer ix).outcome = none →
    (s.framer ix).state = .hunt ∨ (s.framer ix).state = .standby ∨
      (((s.framer ix).state = .lead ∨ (s.framer ix).state = .body) ∧ (s.framer ix).stopSpace = true) →
    exec (.breakRecognised ix) s =
      .next (s.modFramer ix (fun _ => { Framer.cleared with state := .brk, spaceRun := 192 }))) ∧
  (∀ (ix : FramerIx) (s : State), (s.framer ix).spaceRun < 192 → exec (.breakRecognised ix) s = .next s) ∧
  (∀ (ix : FramerIx) (n : Nat) (s : State), (s.framer ix).state = .lead → (s.framer ix).limit = some n →
    (s.framer ix).position = none → (s.framer ix).stopSpace = false → (s.framer ix).outcome = none →
    exec (.leadTimeout ix) s =
      if 40 < n then .next (s.modFramer ix (fun f => { Framer.cleared with spaceRun := f.spaceRun })) else .next s) ∧
  (∀ (ix : FramerIx) (n : Nat) (s : State), (s.framer ix).state = .body → (s.framer ix).limit = some n →
    (s.framer ix).position = none → (s.framer ix).stopSpace = false → (s.framer ix).outcome = none →
    exec (.byteGapTimeout ix) s =
      if 24 < n then .next (s.modFramer ix (fun f => { Framer.cleared with spaceRun := f.spaceRun })) else .next s) ∧
  (∀ (ix : FramerIx) (tone : Tone) (s : State), (s.framer ix).state = .hunt → (s.framer ix).spaceRun < 192 →
    (s.framer ix).outcome = none →
    exec (.tagLineSample ix tone) s = .next (s.modFramer ix (fun f =>
      { f with spaceRun := if (s.rxOf ix).warmUp = false ∧ tone = .space then f.spaceRun + 1 else 0 }))) ∧
  (∀ (ix : FramerIx) (s : State), (s.framer ix).state = .brk → (s.framer ix).outcome = none →
    exec (.tagLineSample ix .mark) s =
      .next (s.modFramer ix (fun f => { f with spaceRun := 0, state := .lead, limit := some 1 }))) ∧
  (∀ (ix : FramerIx) (tone : Tone) (n : Nat) (s : State),
    let most := if (s.framer ix).state = .lead then 40 else 24
    ((s.framer ix).state = .lead ∨ (s.framer ix).state = .body) → (s.framer ix).limit = some n → n ≤ most →
    (s.framer ix).position = none → (s.framer ix).stopSpace = false → (s.framer ix).outcome = none →
    (s.rxOf ix).warmUp = false →
    exec (.tagLineSample ix tone) s = .next (s.modFramer ix (fun f =>
      if tone = .space ∧ f.spaceRun = 0 ∧ n + 1 ≤ most then
        { f with spaceRun := 1, limit := some (n + 1), position := some 1, votes := 0, shift := 0 }
      else
        { f with spaceRun := if tone = .space then min 192 (f.spaceRun + 1) else 0, limit := some (n + 1) }))) ∧
  (∀ (ix : FramerIx) (tone : Tone) (s : State), ((s.framer ix).state = .lead ∨ (s.framer ix).state = .body) →
    (s.framer ix).stopSpace = true → (s.framer ix).spaceRun < 192 → (s.framer ix).outcome = none →
    (s.rxOf ix).warmUp = false →
    exec (.tagLineSample ix tone) s = .next (s.modFramer ix (fun f =>
      if tone = .space then { f with spaceRun := f.spaceRun + 1 }
      else { f with spaceRun := 0, stopSpace := false, outcome := some .framing })))

/-- A frame on the air is read: a framer in HUNT that takes the tag-line samples of a whole frame its network filter
passes, one TAG_LINE_SAMPLE after another, ends with the outcome GOOD, the frame's bytes and no noise, and nothing else
of the part has changed. A frame that fails a check ends at that byte with the outcome of the check. On a noisy line a
start edge is false when fewer than two of its three samples are space, a bit is what the majority of its three samples
say and noisy when they differ, and a stop bit of space ends no byte. That a sample first settles what the one before it
decided, so that samples alone carry the framer through the break, is the model's inference (log entry 6), and the
outcome that the framer holds is a field of the model's own (log entry 4); that sample 8 of a false edge is no new start
edge is the model's choice (log entry 26), and so is that sample 11 of a stop bit read as space, itself mark, does not
end the frame yet (log entry 30). -/
def Obligations.FrameOnTheAirIsRead : Prop :=
  (∀ (ix : FramerIx) (bs : List Byte) (s : State), (s.framer ix).state = .hunt → (s.framer ix).spaceRun < 192 →
    (s.framer ix).outcome = none → (s.rxOf ix).warmUp = false → readable s.netFilter bs = true →
    s.pending = (frameSamples bs).map (Instr.tagLineSample ix) →
    ∃ t, Host.Core.run Sys2Proof.core (frameSamples bs).length s = .next t ∧
      (t.framer ix).outcome = some (.good bs 0) ∧
      t = (s.modFramer ix (fun _ => t.framer ix)).withPending []) ∧
  (∀ (ix : FramerIx) (bs : List Byte) (j : Nat) (o : FrameOutcome) (s : State), (s.framer ix).state = .hunt →
    (s.framer ix).spaceRun < 192 → (s.framer ix).outcome = none → (s.rxOf ix).warmUp = false → j < bs.length →
    FrameEnds s.netFilter bs 0 j o → (∀ k, k < j → ∀ o', ¬FrameEnds s.netFilter bs 0 k o') →
    s.pending = (frameSamples (bs.take (j + 1))).map (Instr.tagLineSample ix) →
    ∃ t, Host.Core.run Sys2Proof.core (frameSamples (bs.take (j + 1))).length s = .next t ∧
      (t.framer ix).outcome = some o ∧
      t = (s.modFramer ix (fun _ => t.framer ix)).withPending []) ∧
  (∀ (ix : FramerIx) (xs : List Tone) (s : State),
    let f := s.framer ix
    (f.state = .lead ∨ f.state = .body) → f.position = some 1 → f.votes = 0 → f.stopSpace = false → f.outcome = none →
    (s.rxOf ix).warmUp = false → xs.length = 7 → spacesAt xs [4, 6, 8] ≤ 1 →
    s.pending = xs.map (Instr.tagLineSample ix) →
    ∃ t, Host.Core.run Sys2Proof.core 7 s = .next t ∧
      t.framer ix = { f with
        position := none, limit := f.limit.map (· + 7), spaceRun := (t.framer ix).spaceRun } ∧
      t = (s.modFramer ix (fun _ => t.framer ix)).withPending []) ∧
  (∀ (ix : FramerIx) (xs : List Tone) (s : State),
    let f := s.framer ix
    (f.state = .lead ∧ f.buffer = []) ∨ (f.state = .body ∧ f.buffer ≠ [] ∧ f.crc = crc8 f.buffer) →
    f.position = some 1 → f.votes = 0 → f.shift = 0 → f.stopSpace = false → f.outcome = none →
    (s.rxOf ix).warmUp = false → xs.length = 154 → 2 ≤ spacesAt xs [4, 6, 8] →
    s.pending = xs.map (Instr.tagLineSample ix) →
    ∃ t, Host.Core.run Sys2Proof.core 154 s = .next t ∧
      t = (s.modFramer ix (fun _ => t.framer ix)).withPending [] ∧
      let g := t.framer ix
      g.noise = f.noise + (if spacesAt xs [4, 6, 8] = 2 then 1 else 0) +
        ((List.range 9).filter (fun b => bitSpaces xs (b + 1) = 1 ∨ bitSpaces xs (b + 1) = 2)).length ∧
      g.position = none ∧
      (2 ≤ bitSpaces xs 9 →
        g.stopSpace = true ∧ g.outcome = none ∧ g.buffer = f.buffer ∧ g.state = f.state) ∧
      (bitSpaces xs 9 ≤ 1 → ∃ b : Byte, (∀ k, k < 8 → b.getLsbD k = decide (bitSpaces xs (k + 1) ≤ 1)) ∧
        g.stopSpace = false ∧ g.buffer = f.buffer ++ [b] ∧
        (∀ o, g.outcome = some o ↔ FrameEnds s.netFilter g.buffer g.noise f.buffer.length o) ∧
        (g.outcome = none → g.state = .body ∧ g.limit = some 0 ∧ g.crc = crc8 g.buffer)))

/-- The frame that a path's snapshot sends reads back, by any framer that the frame's network passes, as the fields of
R37: identity, flags, depth, upstream and the own claims in ascending slot order, with the pinned collision and
configuration clamped bits of byte 2 and the monitor failure count of byte 7. The bound of 15 on the depth is the
model's inference (log entry 13), and that a FULL path on a source of depth 14 advertises 15 with the absent flag clear
its choice (log entry 25). -/
def Obligations.SnapshotReadsBack : Prop :=
  ∀ (s : State) (i : PathIx) (acceptOpen : Bool), (claimBytes s).length ≤ 12 → s.params.stationId ≠ 0 →
    s.params.stationId ≠ 65535 → (s.carryOf i).programme ≠ 0 →
    readable { network := s.params.networkId, acceptOpen := acceptOpen } (snapshotBytes s i) = true ∧
    readFrame (snapshotBytes s i) =
      { network := s.params.networkId, openFlag := s.params.openFlag
        absent := decide ((s.path i).cond ≠ .full ∨ (s.path i).selected = none)
        station := s.params.stationId, programme := (s.carryOf i).programme
        depth := match (s.path i).selected with
          | some x => min 15 (x.depth + 1)
          | none => 15
        upstream := match (s.path i).selected with
          | some x => x.station
          | none => 0
        claims := ((indices 64).filter (fun k => (s.slot k).own != .none)).map (fun k =>
          { slot := k, phase := if (s.slot k).own = .held then .held else .intent, pinned := (s.slot k).ownPinned }) } ∧
    (byteAt (snapshotBytes s i) 2).getLsbD 5 = s.pinnedCollision ∧
    (byteAt (snapshotBytes s i) 2).getLsbD 4 = s.loader.configClamped ∧
    (byteAt (snapshotBytes s i) 7).toNat % 16 = min 15 s.mon.failureLog.length

/-- FRAME_START takes a snapshot of every enabled path in LISTEN and RUNNING, hands bit-time 0, and keeps the phase of
the frame timer. That it takes 400 from a timer that has gone past 400, and hands bit-time 0 in place of the idle bit of
the boundary before it, are the model's inferences (log entry 7); that it changes nothing below 400, and that a frame
start of the load-end boundary, sent after LOAD_END, takes snapshots, are the model's choices (log entries 2 and 28). -/
def Obligations.FrameStartTakesSnapshots : Prop :=
  (∀ s : State, 400 ≤ s.builder.frameTimer → (claimBytes s).length ≤ 12 → Answers .frameStart s (fun t =>
    t.builder.frameTimer = s.builder.frameTimer - 400 ∧
    (∀ i : PathIx,
      ((s.station = .listen ∨ s.station = .running) → (s.carryOf i).enabled = true →
        t.builderPath i =
          { snapshot := some (snapshotBytes s i), bitPosition := 1, keptDepth := advertisedDepth (s.path i)
            abandoned := false } ∧
        t.txSide i = { s.txSide i with tone := if (s.txSide i).inUse.cond = .off then none else some .space }) ∧
      (s.station = .loading ∨ s.station = .quiet ∨ (s.carryOf i).enabled = false →
        t.builderPath i =
          { snapshot := none, bitPosition := 1, keptDepth := (s.builderPath i).keptDepth, abandoned := false } ∧
        t.txSide i = { s.txSide i with tone := if (s.txSide i).inUse.cond = .off then none else some .mark })) ∧
    t = { s with builder := t.builder, tx := t.tx })) ∧
  (∀ s : State, s.builder.frameTimer < 400 → exec .frameStart s = .next s)

/-! ### Tag intake, the neighbour list and the two tables -/

/-- FRAMER_OUTCOME that goes to no block: any outcome in LOADING and QUIET; FRAMING, FOREIGN and MALFORMED; CRC_FAIL of
the survey or the monitor framer; a frame of the own station. And CRC_FAIL of a path framer halves the integrity grade
of the path's selected entry when the path is tuned to its slot. That a framer without an outcome changes nothing is the
model's choice, on a field of the model's own (log entries 2 and 4). -/
def Obligations.OutcomeWithoutAFrame : Prop :=
  (∀ (ix : FramerIx) (order : OutcomeOrder) (o : FrameOutcome) (s : State),
    (s.framer ix).outcome = some o →
    (s.station = .loading ∨ s.station = .quiet ∨ o = .framing ∨ o = .foreign ∨ o = .malformed ∨
      (o = .crcFail ∧ (ix = .survey ∨ ix = .monitor)) ∨
      (ix ≠ .monitor ∧ ∃ bs noise, o = .good bs noise ∧ (readFrame bs).station = s.params.stationId)) →
    exec (.framerOutcome ix order) s = .next (s.modFramer ix (fun f =>
      { Framer.cleared with state := if o = .foreign then .standby else .hunt, spaceRun := f.spaceRun }))) ∧
  (∀ (i : PathIx) (order : OutcomeOrder) (s : State), (s.framer (.path i)).outcome = some .crcFail →
    (s.station = .listen ∨ s.station = .running) →
    Answers (.framerOutcome (.path i) order) s (fun t =>
      t = { s.modFramer (.path i) (fun f => { Framer.cleared with spaceRun := f.spaceRun }) with sources := t.sources } ∧
      (∀ x, (s.path i).selected = some x → (s.rxSide i).word = slotWord x.slot →
        t.sources = s.sources.map (fun e => if e.slot = x.slot ∧ e.station = x.station then
          { e with integrityGrade := e.integrityGrade / 2
                   quality := if e.absent then 0 else min e.levelGrade (e.integrityGrade / 2) } else e)) ∧
      ((∀ x, (s.path i).selected = some x → (s.rxSide i).word ≠ slotWord x.slot) → t.sources = s.sources))) ∧
  (∀ (ix : FramerIx) (order : OutcomeOrder) (s : State), (s.framer ix).outcome = none →
    exec (.framerOutcome ix order) s = .next s)

/-- FRAMER_OUTCOME of a good frame of another station: the neighbour list refreshes a held record, starts it afresh when
the network has changed, inserts a new one, replaces the candidate of a full list when that is older than 10 s, or drops
the frame with NEIGHBOUR_OVERFLOW. The candidate is the oldest, then one heard by survey only, then of the larger lowest
depth, then with the absent flag set, then of the higher station ID. Of a station evicted or started afresh no peer
record and no source entry from before remains. A frame of the survey framer ends a dwell in LISTENING, and no frame
ends one in WARM_UP or CHECK. -/
def Obligations.GoodFrameMeetsNeighbours : Prop :=
  ∀ (ix : FramerIx) (order : OutcomeOrder) (bs : List Byte) (noise : Nat) (s : State),
    (s.framer ix).outcome = some (.good bs noise) → ix ≠ .monitor → (s.station = .listen ∨ s.station = .running) →
    (readFrame bs).station ≠ s.params.stationId → TablesOk s →
    Answers (.framerOutcome ix order) s (fun t =>
      let f := readFrame bs
      let fresh : Neighbour :=
        { station := f.station, network := f.network, lastHeard := s.now, lastAbsent := f.absent
          lowestDepth := f.depth, lowestDepthTime := s.now
          whereHeard := if ix = .survey then .survey else .relay }
      (∀ r ∈ s.neighbours, r.station = f.station → r.network ≠ f.network →
        (∀ x, x ∈ t.neighbours ↔ x = fresh ∨ (x ∈ s.neighbours ∧ x.station ≠ f.station)) ∧
        t.neighbourOverflow = s.neighbourOverflow ∧
        (∀ k : Slot, k ≠ heardSlot (s.rxOf ix).word → (∀ c ∈ f.claims, c.slot ≠ k) →
          ∀ p ∈ (t.slot k).peers, p.station ≠ f.station) ∧
        (∀ e ∈ t.sources, e.station = f.station → e.slot = heardSlot (s.rxOf ix).word ∧ e.lastHeard = s.now ∧
          e.integrityGrade = 100 - 5 * noise)) ∧
      (∀ r ∈ s.neighbours, r.station = f.station → r.network = f.network →
        (∀ x, x ∈ t.neighbours ↔
          x = { r with
            lastHeard := s.now, lastAbsent := f.absent
            lowestDepth := if f.depth ≤ r.lowestDepth ∨ 60000 < age s.now r.lowestDepthTime then f.depth
              else r.lowestDepth
            lowestDepthTime := if f.depth ≤ r.lowestDepth ∨ 60000 < age s.now r.lowestDepthTime then s.now
              else r.lowestDepthTime
            whereHeard := if r.whereHeard = fresh.whereHeard then r.whereHeard else .both } ∨
          (x ∈ s.neighbours ∧ x.station ≠ f.station)) ∧
        t.neighbourOverflow = s.neighbourOverflow) ∧
      ((∀ r ∈ s.neighbours, r.station ≠ f.station) → s.neighbours.length < 24 →
        (∀ x, x ∈ t.neighbours ↔ x = fresh ∨ x ∈ s.neighbours) ∧ t.neighbourOverflow = false) ∧
      ((∀ r ∈ s.neighbours, r.station ≠ f.station) → s.neighbours.length = 24 →
        ∃ c ∈ s.neighbours, replacementCandidate s.now s.neighbours = some c ∧
          (∀ r ∈ s.neighbours, r ≠ c → age s.now r.lastHeard < age s.now c.lastHeard ∨
            (age s.now r.lastHeard = age s.now c.lastHeard ∧
              ((c.whereHeard = .survey ∧ r.whereHeard ≠ .survey) ∨
                ((c.whereHeard = .survey ↔ r.whereHeard = .survey) ∧
                  (r.lowestDepth < c.lowestDepth ∨ (r.lowestDepth = c.lowestDepth ∧
                    ((c.lastAbsent = true ∧ r.lastAbsent = false) ∨
                      (c.lastAbsent = r.lastAbsent ∧ r.station < c.station)))))))) ∧
          (10000 < age s.now c.lastHeard →
            (∀ x, x ∈ t.neighbours ↔ x = fresh ∨ (x ∈ s.neighbours ∧ x ≠ c)) ∧ t.neighbourOverflow = false ∧
            (∀ k : Slot, ∀ p ∈ (t.slot k).peers, p.station ≠ c.station) ∧
            (∀ e ∈ t.sources, e.station ≠ c.station)) ∧
          (age s.now c.lastHeard ≤ 10000 → t.neighbours = s.neighbours ∧ t.neighbourOverflow = true ∧
            t.slots = s.slots ∧ t.sources = s.sources ∧ t.paths = s.paths)) ∧
      (∀ d : Dwell, s.survey.dwell = some d →
        t.survey.dwell = if ix = .survey ∧ d.phase = .listening then none else some d) ∧
      (s.survey.dwell = none → t.survey.dwell = none))

/-- FRAMER_OUTCOME of a good frame, of a path framer or of the survey framer, whose station the neighbour list holds
after it (refreshed, started afresh, inserted or put in the place of another): the station's peer claims are replaced,
after any mass release. None stands on a slot outside its claim set, HELD on the slot it was heard on, what its list
says elsewhere, under the capacity of 4 and with the lowest station IDs kept. -/
def Obligations.GoodFrameReplacesPeerClaims : Prop :=
  ∀ (ix : FramerIx) (order : OutcomeOrder) (bs : List Byte) (noise : Nat)
    (released : Option StationId) (s : State),
    (s.framer ix).outcome = some (.good bs noise) → ix ≠ .monitor → (s.station = .listen ∨ s.station = .running) →
    (readFrame bs).station ≠ s.params.stationId → TablesOk s → FrameHeld s (readFrame bs) released →
    Answers (.framerOutcome ix order) s (fun t => ∀ k : Slot,
      let f := readFrame bs
      let heard := heardSlot (s.rxOf ix).word
      let listed := f.claims.find? (fun c => c.slot == k)
      let claimed : Peer :=
        { station := f.station
          phase := if k = heard then .held else (listed.map (fun c => c.phase)).getD .held
          pinned := (listed.map (fun c => c.pinned)).getD false
          expiry := laterS s.now s.params.neighbourTimeout }
      let old := (s.slot k).peers.filter (fun p => some p.station != released)
      let new := (t.slot k).peers
      (k ≠ heard → listed = none → new = old.filter (fun p => p.station != f.station)) ∧
      (k = heard ∨ listed.isSome = true →
        ((∃ p ∈ old, p.station = f.station) →
          new = old.map (fun p => if p.station = f.station then claimed else p)) ∧
        ((∀ p ∈ old, p.station ≠ f.station) → old.length < 4 → ∀ p, p ∈ new ↔ p = claimed ∨ p ∈ old) ∧
        ((∀ p ∈ old, p.station ≠ f.station) → old.length = 4 → ∀ top, old.getLast? = some top →
          (top.station < f.station → new = old) ∧
          (f.station < top.station → ∀ p, p ∈ new ↔ p = claimed ∨ (p ∈ old ∧ p ≠ top)))))

/-- FRAMER_OUTCOME of a good frame whose claims meet own claims: a new peer record that is pinned, HELD or of a lower
station withdraws an own INTENT, whose path goes to WAIT_SLOT with CLAIM_WITHDRAWN and may ask again after the hold-off,
and a pinned or HELD one on an unpinned HELD slot starts the collision timing; every other own claim stands. The
transmit entries of a withdrawn path leave the tuning queue in the same act, or stand in it with their cancellation owed
after as many heads as the command's operand says (log entry 21). -/
def Obligations.GoodFrameMeetsOwnClaims : Prop :=
  ∀ (ix : FramerIx) (order : OutcomeOrder) (bs : List Byte) (noise : Nat) (r : Neighbour) (s : State),
    (s.framer ix).outcome = some (.good bs noise) → ix ≠ .monitor → (s.station = .listen ∨ s.station = .running) →
    (readFrame bs).station ≠ s.params.stationId → TablesOk s → ClaimsOk s → MarksServed s →
    r ∈ s.neighbours → r.station = (readFrame bs).station → r.network = (readFrame bs).network →
    (∀ k : Slot, ∀ p ∈ (s.slot k).peers, p.station ≠ r.station) →
    (∀ (j : PathIx) (x : Selected), (s.path j).selected = some x → x.station ≠ r.station) →
    Answers (.framerOutcome ix order) s (fun t => ∀ k : Slot,
      let old := s.slot k
      let peers := (t.slot k).peers
      (peers = old.peers ∨ old.own = .none → t.slot k = { old with peers := peers }) ∧
      (∀ j : PathIx, old.own = .intent → old.ownPath = some j → peers ≠ old.peers →
        ((∃ p ∈ peers, p.pinned = true ∨ p.phase = .held ∨ p.station < s.params.stationId) →
          t.slot k = { attr := old.attr, own := .none, ownPath := none, ownPinned := false, ownDeadline := none
                       collision := none, peers := peers } ∧
          t.path j = { s.path j with
            state := .waitSlot, event := some .claimWithdrawn, output := none, txPending := false
            holdoverDeadline := none, cond := .off
            cancelOwed := if order.cancelAfter = 0 then (s.path j).cancelOwed else order.cancelAfter } ∧
          t.wait j = { freed := false, retryDeadline := some (laterS s.now s.params.claimHoldOff) } ∧
          (order.cancelAfter = 0 → ∀ e ∈ t.tuning, ¬(e.path = j ∧ e.side = .transmit)) ∧
          (order.cancelAfter ≠ 0 → ∀ e : TuneEntry, e.path = j → (e ∈ t.tuning ↔ e ∈ s.tuning))) ∧
        ((∀ p ∈ peers, p.pinned = false ∧ p.phase = .intent ∧ s.params.stationId ≤ p.station) →
          t.slot k = { old with peers := peers } ∧ t.path j = s.path j)) ∧
      (∀ j : PathIx, old.own = .held → old.ownPath = some j → peers ≠ old.peers →
        t.slot k = { old with
          peers := peers
          collision := if old.ownPinned = false ∧ (∃ p ∈ peers, p.phase = .held ∨ p.pinned = true) then
            some (old.collision.getD (laterS s.now s.params.collisionPersistence)) else none } ∧
        t.path j = s.path j))

/-- FRAMER_OUTCOME of a good frame, of a path framer or of the survey framer, whose station the neighbour list holds
after it: once any mass release is taken, the source entry of its slot and station is admitted or updated when the frame
matches a carry entry, and removed when it does not; every other entry stands, but for the one that a full table gives
up to a new entry: among those that no path has selected the one of the lowest quality, then the oldest, then the last
in order. -/
def Obligations.GoodFrameSourceEntry : Prop :=
  ∀ (ix : FramerIx) (order : OutcomeOrder) (bs : List Byte) (noise : Nat)
    (released : Option StationId) (s : State),
    (s.framer ix).outcome = some (.good bs noise) → ix ≠ .monitor → (s.station = .listen ∨ s.station = .running) →
    (readFrame bs).station ≠ s.params.stationId → TablesOk s → FrameHeld s (readFrame bs) released →
    Answers (.framerOutcome ix order) s (fun t =>
      let f := readFrame bs
      let heard := heardSlot (s.rxOf ix).word
      let latest := match ix with
        | .path i => (s.rxSide i).latest
        | .survey => s.survey.dwell.bind (fun d => d.latest)
        | .monitor => none
      let target := 100 - 5 * noise
      let base := s.sources.filter (fun e => some e.station != released)
      let mine := fun e : Source => e.slot = heard ∧ e.station = f.station
      let fits := (∃ j : PathIx, (s.carryOf j).enabled = true ∧ (s.carryOf j).programme = f.programme) ∧
        (f.network = s.params.networkId ∨ (f.openFlag = true ∧ s.params.acceptOpen = true))
      (¬fits → ∀ e : Source, e ∈ t.sources ↔ e ∈ base ∧ ¬mine e) ∧
      (fits → (∃ x ∈ base, mine x) ∨ base.length < 32 → ∀ e : Source, ¬mine e → (e ∈ t.sources ↔ e ∈ base)) ∧
      (fits → (∀ x ∈ base, ¬mine x) → base.length = 32 → ∀ v ∈ base, isSelected s v = false →
        (∀ x ∈ base, isSelected s x = false → x ≠ v → v.quality < x.quality ∨ (v.quality = x.quality ∧
          (age s.now x.lastHeard < age s.now v.lastHeard ∨
            (age s.now x.lastHeard = age s.now v.lastHeard ∧ keyBefore x v = true)))) →
        ∀ e : Source, ¬mine e → (e ∈ t.sources ↔ e ∈ base ∧ e ≠ v)) ∧
      (fits → (∃ x ∈ base, mine x) ∨ base.length < 32 ∨ (∃ v ∈ base, isSelected s v = false) →
        ∃ e ∈ t.sources, mine e ∧ e.programme = f.programme ∧ e.depth = f.depth ∧
          e.upstream = (if f.depth = 0 then none else some f.upstream) ∧ e.absent = f.absent ∧ e.lastHeard = s.now ∧
          e.quality = (if f.absent then 0 else min e.levelGrade e.integrityGrade) ∧
          (∀ m, latest = some m → e.m = m ∧ e.levelGrade = levelGrade s.params m) ∧
          ((∀ x ∈ base, ¬mine x) → e.integrityGrade = target ∧ e.barredUntil = none) ∧
          (∀ x ∈ base, mine x → e.integrityGrade = (x.integrityGrade + target) / 2)))

/-- The own-tag check and the visit's deadline: a good monitor frame of the own station and of the visited path's
programme passes, and any other good frame in LISTENING, or a deadline reached in LISTENING, fails the path. Before the
deadline VISIT_TIMEOUT changes nothing (the model's choice, log entry 2). -/
def Obligations.OwnTagVerdicts : Prop :=
  (∀ (v : Visit) (order : OutcomeOrder) (bs : List Byte) (noise : Nat) (s : State),
    (s.framer .monitor).outcome = some (.good bs noise) → (s.station = .listen ∨ s.station = .running) →
    s.mon.visit = some v → v.phase = .listening →
    (readFrame bs).station = s.params.stationId → (readFrame bs).programme = (s.carryOf v.path).programme →
    Answers (.framerOutcome .monitor order) s (fun t =>
      t.mon.visit = none ∧ t.mon.chainFault = false ∧ t.verdict v.path = some .pass ∧
      (∀ j : PathIx, j ≠ v.path → t.verdict j = s.verdict j) ∧
      t.path v.path = { s.path v.path with monitorFails := 0 } ∧
      (∀ j : PathIx, j ≠ v.path → t.path j =
        { s.path j with monitorFails :=
          if s.mon.chainFault = true ∧ (s.path j).txFaultDeadline = none then 0 else (s.path j).monitorFails }) ∧
      t = { s with
        paths := t.paths
        mon := { s.mon with
          framer := { Framer.cleared with spaceRun := s.mon.framer.spaceRun }
          visit := t.mon.visit, verdicts := t.mon.verdicts, chainFault := t.mon.chainFault }
        lines := { s.lines with alarm := t.lines.alarm } })) ∧
  (∀ (v : Visit) (order : OutcomeOrder) (bs : List Byte) (noise : Nat) (s : State),
    (s.framer .monitor).outcome = some (.good bs noise) → (s.station = .listen ∨ s.station = .running) →
    s.mon.visit = some v → v.phase = .listening →
    (readFrame bs).station ≠ s.params.stationId ∨ (readFrame bs).programme ≠ (s.carryOf v.path).programme →
    Answers (.framerOutcome .monitor order) s
      (FailTaken (s.modFramer .monitor (fun f => { Framer.cleared with spaceRun := f.spaceRun })) v.path)) ∧
  (∀ (v : Visit) (s : State), s.mon.visit = some v → v.phase = .listening → reached s.now v.deadline = true →
    Answers .visitTimeout s (FailTaken s v.path)) ∧
  (∀ (v : Visit) (s : State), s.mon.visit = some v → reached s.now v.deadline = false →
    exec .visitTimeout s = .next s)

/-- The level grade of a magnitude (R74), as the table gives it to a new and to an updated entry. -/
def Obligations.LevelGradeOfMagnitude : Prop :=
  (∀ (p : Params) (m : Nat), p.mFloor < p.mGood →
    (m < p.mFloor → levelGrade p m = 0) ∧
    (p.mFloor ≤ m → levelGrade p m = min 100 ((m - p.mFloor) * 100 / (p.mGood - p.mFloor))) ∧
    levelGrade p p.mFloor = 0 ∧ (p.mGood ≤ m → levelGrade p m = 100) ∧
    (∀ n, m ≤ n → levelGrade p m ≤ levelGrade p n)) ∧
  (∀ (s : State) (f : Frame) (heard : Slot) (noise m : Nat),
    (newSource s f heard noise (some m)).m = m ∧
    (newSource s f heard noise (some m)).levelGrade = levelGrade s.params m ∧
    ∀ e : Source, (updateSource s f noise (some m) e).m = m ∧
      (updateSource s f noise (some m) e).levelGrade = levelGrade s.params m) ∧
  (∀ q : Params, (settleParams q).mFloor + 1 ≤ (settleParams q).mGood) ∧
  (∀ p : Params, p.mFloor = 32 → p.mGood = 256 →
    [31, 32, 120, 140, 180, 256, 300].map (levelGrade p) = [0, 0, 39, 48, 66, 100, 100])

/-- The integrity target of a frame and the grade that follows a run of frames (R75). -/
def Obligations.IntegrityTargetOfFrame : Prop :=
  (∀ noise : Nat, (integrityTarget noise : Int) = max 0 (100 - 5 * (noise : Int))) ∧ integrityTarget 0 = 100 ∧
  (∀ noise : Nat, 20 ≤ noise → integrityTarget noise = 0) ∧
  (∀ (s : State) (f : Frame) (heard : Slot) (noise : Nat) (latest : Option Nat),
    (newSource s f heard noise latest).integrityGrade = integrityTarget noise ∧
    ∀ e : Source, (updateSource s f noise latest e).integrityGrade = (e.integrityGrade + integrityTarget noise) / 2) ∧
  (∀ (s : State) (f : Frame) (latest : Option Nat) (e : Source), e.integrityGrade = 40 →
    (List.range 7).map (fun n => ((updateSource s f 0 latest)^[n] e).integrityGrade) = [40, 70, 85, 92, 96, 98, 99]) ∧
  (∀ (s : State) (f : Frame) (latest : Option Nat) (e : Source),
    (e.integrityGrade = 99 → (updateSource s f 0 latest e).integrityGrade = 99) ∧
    (e.integrityGrade = 100 → (updateSource s f 0 latest e).integrityGrade = 100))

/-! ### The survey receiver -/

/-- DWELL_START: the first queued slot that may be dwelt on, else the first watch slot from the scan position on;
warm-up, retune, framer cleared, 700 ms. In LOADING, in QUIET and during a dwell the command changes nothing (the
model's choice, log entry 2). -/
def Obligations.DwellStartsOnNextSlot : Prop :=
  (∀ (skipped rest : List Slot) (k : Slot) (s : State), (s.station = .listen ∨ s.station = .running) →
    s.survey.dwell = none → s.survey.requests = skipped ++ k :: rest →
    (∀ j ∈ skipped, (∃ i : PathIx, (s.path i).rxSlot = some j) ∨ (s.slot j).own ≠ .none) →
    (∀ i : PathIx, (s.path i).rxSlot ≠ some k) → (s.slot k).own = .none →
    exec .dwellStart s = .next { s with survey :=
      { s.survey with
        rx := { s.survey.rx with word := slotWord k, warmUp := true, latest := none }
        framer := Framer.cleared
        dwell := some
          { phase := .warmUp, slot := k, deadline := later s.now 700, checks := 0, good := 0, latest := none }
        requests := rest } }) ∧
  (∀ (k : Slot) (s : State), (s.station = .listen ∨ s.station = .running) → s.survey.dwell = none →
    (∀ j ∈ s.survey.requests, (∃ i : PathIx, (s.path i).rxSlot = some j) ∨ (s.slot j).own ≠ .none) →
    ((s.slot k).attr = .watch ∨ (s.slot k).attr = .both) →
    (∀ i : PathIx, (s.path i).rxSlot ≠ some k) → (s.slot k).own = .none →
    (∀ j : Slot, j - s.survey.scanPosition < k - s.survey.scanPosition →
      ((s.slot j).attr = .barred ∨ (s.slot j).attr = .transmit) ∨ (∃ i : PathIx, (s.path i).rxSlot = some j) ∨
        (s.slot j).own ≠ .none) →
    exec .dwellStart s = .next { s with survey :=
      { s.survey with
        rx := { s.survey.rx with word := slotWord k, warmUp := true, latest := none }
        framer := Framer.cleared
        dwell := some
          { phase := .warmUp, slot := k, deadline := later s.now 700, checks := 0, good := 0, latest := none }
        scanPosition := k + 1, requests := [] } }) ∧
  (∀ s : State, s.station = .loading ∨ s.station = .quiet ∨ s.survey.dwell ≠ none → exec .dwellStart s = .next s)

/-- DWELL_CHECK_CLOSE at 20 measurements passes to LISTENING with one of them at M_floor, and else ends the dwell as
EMPTY with every level grade on its slot at 0; DWELL_DEADLINE ends a dwell in LISTENING. Without its condition either
command changes nothing (the model's choice, log entry 2), and that the check waits at 20 for its close is the model's
inference (log entry 5). -/
def Obligations.DwellCheckAndDeadline : Prop :=
  (∀ (d : Dwell) (s : State), s.survey.dwell = some d → d.phase = .check → d.checks = 20 → 1 ≤ d.good →
    exec .dwellCheckClose s =
      .next { s with survey := { s.survey with dwell := some { d with phase := .listening } } }) ∧
  (∀ (d : Dwell) (s : State), s.survey.dwell = some d → d.phase = .check → d.checks = 20 → d.good = 0 →
    exec .dwellCheckClose s =
      .next { s with
        survey := { s.survey with dwell := none }
        sources := s.sources.map (fun e => if e.slot = d.slot then
          { e with levelGrade := 0, quality := 0 } else e) }) ∧
  (∀ (d : Dwell) (s : State), s.survey.dwell = some d → d.phase ≠ .check ∨ d.checks < 20 →
    exec .dwellCheckClose s = .next s) ∧
  (∀ (d : Dwell) (s : State), s.survey.dwell = some d → d.phase = .listening → reached s.now d.deadline = true →
    exec .dwellDeadline s = .next { s with survey := { s.survey with dwell := none } }) ∧
  (∀ (d : Dwell) (s : State), s.survey.dwell = some d → d.phase ≠ .listening ∨ reached s.now d.deadline = false →
    exec .dwellDeadline s = .next s)

/-! ### The slot claim table -/

/-- HOLD_OFF_END: an INTENT whose hold-off has ended becomes HELD and its path goes ON with CLAIM_WON, when claiming is
permitted; a contending record starts the collision timing at once. Without an INTENT, or while claiming is not
permitted, the command changes nothing (for a slot without INTENT the model's choice, log entry 2). -/
def Obligations.HoldOffEndWinsClaim : Prop :=
  (∀ (k : Slot) (i : PathIx) (d : Time) (s : State), EntryOk (s.slot k) → (s.slot k).own = .intent →
    (s.slot k).ownPath = some i → (s.path i).state = .claiming → (s.slot k).ownDeadline = some d →
    reached s.now d = true → s.station = .running → s.gov.site = .transmitting →
    Answers (.holdOffEnd k) s (fun t =>
      t.slot k = { s.slot k with
        own := .held, ownDeadline := none
        collision := if (∃ p ∈ (s.slot k).peers, p.phase = .held ∨ p.pinned = true) then
          some (laterS s.now s.params.collisionPersistence) else none } ∧
      (∀ j : Slot, j ≠ k → t.slot j = s.slot j) ∧
      t.path i = { s.path i with
        state := .on, event := some .claimWon
        cond := if (s.path i).txFaultDeadline ≠ none then .off else if (s.path i).shed then .tagOnly else .full } ∧
      (∀ j : PathIx, j ≠ i → t.path j = s.path j) ∧
      ActFrame s t ∧ t.tuning = s.tuning ∧ t.sources = s.sources ∧ t.waits = s.waits)) ∧
  (∀ (k : Slot) (s : State), (s.slot k).own ≠ .intent ∨ s.station ≠ .running ∨ s.gov.site ≠ .transmitting →
    exec (.holdOffEnd k) s = .next s)

/-- COLLISION_EXPIRY: a contending record that is pinned or of a lower station takes the slot, its path loses it, its
freed mark is clear and its retry deadline stands at the claim hold-off from now; without such a record the timing
starts again. Without a collision deadline the command changes nothing (the model's choice, log entry 2). -/
def Obligations.CollisionExpiryDecides : Prop :=
  (∀ (k : Slot) (i : PathIx) (d : Time) (p : Peer) (s : State), MarksServed s → (s.slot k).own = .held →
    (s.slot k).ownPinned = false → (s.slot k).ownPath = some i → (s.slot k).collision = some d →
    reached s.now d = true → p ∈ (s.slot k).peers →
    (p.pinned = true ∨ (p.phase = .held ∧ p.station < s.params.stationId)) →
    ((s.path i).state = .on ∨ (s.path i).state = .switching ∨ (s.path i).state = .holdover) →
    Answers (.collisionExpiry k) s (fun t =>
      t.slot k = { s.slot k with own := .none, ownPath := none, ownPinned := false, ownDeadline := none
                                 collision := none } ∧
      (∀ j : Slot, j ≠ k → t.slot j = s.slot j) ∧
      t.path i = { s.path i with
        state := match (s.path i).state with
          | .on => .waitSlot
          | .switching => .acquiring
          | _ => .seeking
        event := some .slotCollision, output := none, txPending := false, holdoverDeadline := none, cond := .off
        candidate := if (s.path i).state = .on then none else (s.path i).candidate
        candidateCount := if (s.path i).state = .on then 0 else (s.path i).candidateCount } ∧
      (∀ j : PathIx, j ≠ i → t.path j = s.path j) ∧
      t.wait i = { freed := false, retryDeadline := some (laterS s.now s.params.claimHoldOff) } ∧
      (∀ j : PathIx, j ≠ i → t.wait j = s.wait j) ∧
      t.tuning = s.tuning.filter (fun e => !(e.path == i && e.side == .transmit)) ∧
      t.sources = s.sources ∧ ActFrame s t)) ∧
  (∀ (k : Slot) (d : Time) (s : State), (s.slot k).own = .held → (s.slot k).ownPinned = false →
    (s.slot k).collision = some d → reached s.now d = true →
    (∃ p ∈ (s.slot k).peers, p.phase = .held ∨ p.pinned = true) →
    (∀ p ∈ (s.slot k).peers, p.pinned = false ∧ (p.phase = .held → s.params.stationId ≤ p.station)) →
    exec (.collisionExpiry k) s = .next (s.modSlot k (fun e =>
      { e with collision := some (laterS s.now s.params.collisionPersistence) }))) ∧
  (∀ (k : Slot) (s : State), (s.slot k).collision = none → exec (.collisionExpiry k) s = .next s)

/-- CLAIM_RETRY_DEADLINE: a path that waits asks again and takes an INTENT on the eligible slot nearest to its
preference, or its pinned slot in one step; with nothing eligible, or no longer waiting, it only drops the deadline.
Without a retry deadline the command changes nothing (the model's choice, log entry 2). That a path which still owes the
cancellation of its transmit entries takes it before its new request is the model's choice, on a field of its own (log
entries 4 and 21). -/
def Obligations.ClaimRetryTakesSlot : Prop :=
  (∀ (i : PathIx) (k : Slot) (d : Time) (s : State), MarksServed s → (s.wait i).retryDeadline = some d →
    reached s.now d = true → (s.path i).state = .waitSlot → s.station = .running → s.gov.site = .transmitting →
    holdsSlot s i = false →
    ((s.carryOf i).pinned = false ∨ pinnedEligible s (s.carryOf i).preferred = false) →
    nearestEligible s (s.carryOf i).preferred = some k →
    Answers (.claimRetryDeadline i) s (fun t =>
      t.slot k = { s.slot k with
        own := .intent, ownPath := some i, ownPinned := false, collision := none
        ownDeadline := some (laterS s.now s.params.claimHoldOff) } ∧
      (∀ j : Slot, j ≠ k → t.slot j = s.slot j) ∧
      t.path i = { s.path i with
        state := .claiming, output := some k, txPending := true, cancelOwed := 0
        cond := if (s.path i).txFaultDeadline = none then .tagOnly else .off } ∧
      (∀ j : PathIx, j ≠ i → t.path j = s.path j) ∧
      t.wait i = { freed := false, retryDeadline := none } ∧ (∀ j : PathIx, j ≠ i → t.wait j = s.wait j) ∧
      Requested i .transmit k (if (s.path i).cancelOwed = 0 then s.tuning else
          s.tuning.filter (fun e => decide (¬(e.path = i ∧ e.side = .transmit)))) t.tuning ∧
      t.silentRelease = false ∧ t.sources = s.sources ∧ ActFrame s t)) ∧
  (∀ (i : PathIx) (d : Time) (s : State), MarksServed s → (s.wait i).retryDeadline = some d →
    reached s.now d = true → (s.path i).state = .waitSlot → s.station = .running → s.gov.site = .transmitting →
    holdsSlot s i = false → anyEligible s = true → (s.carryOf i).pinned = true →
    pinnedEligible s (s.carryOf i).preferred = true →
    Answers (.claimRetryDeadline i) s (fun t =>
      let k := (s.carryOf i).preferred
      t.slot k = { s.slot k with
        own := .held, ownPath := some i, ownPinned := true, ownDeadline := none, collision := none } ∧
      (∀ j : Slot, j ≠ k → t.slot j = s.slot j) ∧
      (t.path i).state = .on ∧ (t.path i).event = some .claimWon ∧ (t.path i).output = some k ∧
      (∀ j : PathIx, j ≠ i → t.path j = s.path j) ∧ ActFrame s t)) ∧
  (∀ (i : PathIx) (d : Time) (s : State), (s.wait i).retryDeadline = some d → reached s.now d = true →
    ((s.path i).state ≠ .waitSlot ∨ s.station ≠ .running ∨ s.gov.site ≠ .transmitting ∨ anyEligible s = false) →
    exec (.claimRetryDeadline i) s = .next (s.modWait i (fun w => { w with retryDeadline := none }))) ∧
  (∀ (i : PathIx) (s : State), (s.wait i).retryDeadline = none → exec (.claimRetryDeadline i) s = .next s)

/-- The slot of a choose-and-claim request: eligible, no eligible slot nearer to the preference, and the lower-numbered
of two at one distance; absent just when no slot is eligible (R94, R95). -/
def Obligations.NearestEligibleSlot : Prop :=
  ∀ (s : State) (preferred : Slot),
    (∀ k, nearestEligible s preferred = some k → eligible s k = true ∧
      ∀ j : Slot, eligible s j = true → slotDistance k preferred < slotDistance j preferred ∨
        (slotDistance k preferred = slotDistance j preferred ∧ k ≤ j)) ∧
    (nearestEligible s preferred = none ↔ ∀ j : Slot, eligible s j = false) ∧
    (∀ k : Slot, eligible s k = true ↔
      ((s.slot k).attr = .transmit ∨ (s.slot k).attr = .both) ∧ (s.slot k).own = .none ∧ (s.slot k).peers = [] ∧
      ∀ (i : PathIx) (r : Slot), (s.path i).rxSlot = some r → s.params.guardDistance < slotDistance r k)

/-- PEER_CLAIM_EXPIRY removes every peer record whose expiry is reached, keeps the others and every own HELD claim, and
stops the timing of a collision that is over. When claiming is permitted and the removal of a slot's last record leaves
it eligible, every path that waits asks: one that waits on found no slot eligible. -/
def Obligations.PeerClaimExpiryRemoves : Prop :=
  ∀ s : State, Answers .peerClaimExpiry s (fun t =>
    (∀ k : Slot, (t.slot k).peers = (s.slot k).peers.filter (fun p => !reached s.now p.expiry)) ∧
    HeldClaimsStand s t ∧
    (∀ k : Slot, (s.slot k).own = .held → (t.slot k).peers ≠ (s.slot k).peers →
      (∀ p ∈ (t.slot k).peers, p.phase = .intent ∧ p.pinned = false) → (t.slot k).collision = none) ∧
    (∀ k : Slot, s.claimingPermitted = true → (s.slot k).peers ≠ [] → (t.slot k).peers = [] → (s.slot k).own = .none →
      ((s.slot k).attr = .transmit ∨ (s.slot k).attr = .both) → guarded s k = false →
      ∀ i : PathIx, WaitsOn s t i → anyEligible t = false) ∧
    WaitersAsk s t ∧ ActFrame s t ∧ t.sources = s.sources)

/-! ### The path controller -/

/-- A best-source answer: what makes an entry eligible for a path (R83), the best fresh entry, before which no eligible
entry heard in the last 30 s ranks by score, hop depth, slot and station, and the stale slot, that of the best eligible
entry when this one is stale (R84). -/
def Obligations.BestFreshRanksFirst : Prop :=
  ∀ (s : State) (i : PathIx),
    let behind := fun e x : Source =>
      score s.params x < score s.params e ∨ (score s.params x = score s.params e ∧
        (e.depth < x.depth ∨ (e.depth = x.depth ∧ (e.slot < x.slot ∨ (e.slot = x.slot ∧ e.station ≤ x.station)))))
    (∀ e : Source, score s.params e = (e.quality : Int) - (s.params.hopPenalty : Int) * (e.depth : Int)) ∧
    (∀ e : Source, sourceEligible s i e = true ↔
      e.programme = (s.carryOf i).programme ∧ (s.carryOf i).enabled = true ∧ e.station ≠ s.params.stationId ∧
      (∀ u, e.upstream = some u → u ≠ s.params.stationId) ∧ e.depth ≤ 14 ∧ s.params.qMin ≤ e.quality ∧
      (∀ u, e.barredUntil = some u → reached s.now u = true) ∧
      ∀ k : Slot, (s.slot k).own ≠ .none → s.params.guardDistance < slotDistance k e.slot) ∧
    (∀ e, bestFresh s i = some e →
      (e ∈ s.sources ∧ sourceEligible s i e = true ∧ age s.now e.lastHeard ≤ 30000) ∧
      ∀ x ∈ s.sources, sourceEligible s i x = true → age s.now x.lastHeard ≤ 30000 → behind e x) ∧
    (bestFresh s i = none ↔ ∀ x ∈ s.sources, sourceEligible s i x = false ∨ 30000 < age s.now x.lastHeard) ∧
    (TablesOk s → ∀ k : Slot, staleSlot s i = some k ↔
      ∃ e ∈ s.sources, sourceEligible s i e = true ∧ 30000 < age s.now e.lastHeard ∧ e.slot = k ∧
        ∀ x ∈ s.sources, sourceEligible s i x = true → behind e x)

/-- PATH_EVALUATION: a selection from SEEKING and HOLDOVER, the switch decision in ON with its candidate and count, to
switch or to stay, and tuning upkeep alone in the other states; the next evaluation is 1,000 ms after this one was due.
A selection asks for the receive word, an answer with a stale slot asks for a survey of it, and upkeep asks again for
each pending side that has no entry in the queue. That upkeep comes last, with the receive side before the transmit
side, is the model's choice (log entry 22), that the selecting path's request comes before those of the paths that its
receive-slot notice frees its choice (log entry 29), that a switch decision without a selected entry answers stay its
inference (log entry 15), and that a path in IDLE or without a deadline is left as it is its choice (log entry 2). -/
def Obligations.EvaluationSelects : Prop :=
  (∀ (i : PathIx) (d : Time) (e : Source) (s : State), MarksServed s → (s.station = .listen ∨ s.station = .running) →
    (s.path i).evalDeadline = some d → reached s.now d = true →
    ((s.path i).state = .seeking ∨ (s.path i).state = .holdover) → (s.path i).rxSlot = none →
    bestFresh s i = some e →
    Answers (.pathEvaluation i) s (fun t =>
      (t.path i) = { s.path i with
        state := if (s.path i).state = .seeking then .acquiring else .switching
        event := some .sourceSelected, selected := some ⟨e.slot, e.station, e.depth⟩, rxSlot := some e.slot
        evalDeadline := some (later d 1000), acquireDeadline := some (later s.now s.params.acquireTimeout)
        check := .notStarted, rxPending := true, lastSourceFrame := none, candidate := none, candidateCount := 0
        cond := (t.path i).cond } ∧
      (∀ j : PathIx, j ≠ i → t.path j = s.path j) ∧ t.slots = s.slots ∧ t.sources = s.sources ∧ t.waits = s.waits ∧
      (∃ q, Requested i .receive e.slot s.tuning q ∧ Upkeep i (t.path i) q t.tuning) ∧ StaleAsked s t i ∧
      (s.tuning.length < 4 → (⟨i, .receive, e.slot⟩ : TuneEntry) ∈ t.tuning) ∧
      ActFrame { s with survey := { s.survey with requests := t.survey.requests } } t)) ∧
  (∀ (i : PathIx) (d : Time) (b : Source) (s : State), (s.station = .listen ∨ s.station = .running) →
    (s.path i).evalDeadline = some d → reached s.now d = true → (s.path i).state = .on → switchAnswer s i = some b →
    Answers (.pathEvaluation i) s (fun t =>
      (bestFresh s i = some b ∧ ∃ sel, selectedEntry s i = some sel ∧
        score s.params sel + s.params.switchMargin < score s.params b ∧
        (s.params.switchCount ≤ 1 ∨ ((s.path i).candidate = some (b.slot, b.station) ∧
          s.params.switchCount ≤ (s.path i).candidateCount + 1))) ∧
      (t.path i) = { s.path i with
        state := .switching
        event := some .sourceSelected, selected := some ⟨b.slot, b.station, b.depth⟩, rxSlot := some b.slot
        evalDeadline := some (later d 1000), acquireDeadline := some (later s.now s.params.acquireTimeout)
        check := .notStarted, rxPending := true, lastSourceFrame := none, candidate := none, candidateCount := 0
        holdoverDeadline := none, cond := (t.path i).cond } ∧
      ((∀ j : PathIx, (s.path j).state ≠ .waitSlot) →
        ∃ q, Requested i .receive b.slot s.tuning q ∧ Upkeep i (t.path i) q t.tuning) ∧
      (s.tuning.length < 4 → (⟨i, .receive, b.slot⟩ : TuneEntry) ∈ t.tuning) ∧ StaleAsked s t i ∧
      OthersStand i s t ∧ WaitersAsk s t ∧ t.sources = s.sources ∧
      ActFrame { s with survey := { s.survey with requests := t.survey.requests } } t)) ∧
  (∀ (i : PathIx) (d : Time) (s : State), (s.station = .listen ∨ s.station = .running) →
    (s.path i).evalDeadline = some d → reached s.now d = true → (s.path i).state = .on →
    let better := fun b : Source => bestFresh s i = some b ∧ ∃ sel, selectedEntry s i = some sel ∧
      ¬(b.slot = sel.slot ∧ b.station = sel.station) ∧
      score s.params sel + s.params.switchMargin < score s.params b
    let count := fun b : Source =>
      if (s.path i).candidate = some (b.slot, b.station) then (s.path i).candidateCount + 1 else 1
    ((∀ b, better b → s.params.switchCount ≤ count b → switchAnswer s i = some b) ∧
      ((∀ b, ¬better b) ∨ (∃ b, better b ∧ count b < s.params.switchCount) → switchAnswer s i = none)) ∧
    (switchAnswer s i = none → Answers (.pathEvaluation i) s (fun t =>
      (∀ b, better b → t.path i = { s.path i with
        evalDeadline := some (later d 1000), candidate := some (b.slot, b.station), candidateCount := count b }) ∧
      ((∀ b, ¬better b) → t.path i = { s.path i with
        evalDeadline := some (later d 1000), candidate := none, candidateCount := 0 }) ∧
      (∀ j : PathIx, j ≠ i → t.path j = s.path j) ∧
      Upkeep i (s.path i) s.tuning t.tuning ∧ StaleAsked s t i ∧
      t = { s with
        paths := t.paths, tuning := t.tuning, survey := { s.survey with requests := t.survey.requests } }))) ∧
  (∀ (i : PathIx) (d : Time) (s : State), (s.station = .listen ∨ s.station = .running) →
    (s.path i).evalDeadline = some d → reached s.now d = true →
    ((s.path i).state = .acquiring ∨ (s.path i).state = .waitSlot ∨ (s.path i).state = .claiming ∨
      (s.path i).state = .switching ∨
      (((s.path i).state = .seeking ∨ (s.path i).state = .holdover) ∧ bestFresh s i = none)) →
    Answers (.pathEvaluation i) s (fun t =>
      t.path i = { s.path i with evalDeadline := some (later d 1000) } ∧
      (∀ j : PathIx, j ≠ i → t.path j = s.path j) ∧
      Upkeep i (s.path i) s.tuning t.tuning ∧
      ((s.path i).state = .seeking ∨ (s.path i).state = .holdover → StaleAsked s t i) ∧
      (¬((s.path i).state = .seeking ∨ (s.path i).state = .holdover) → t.survey = s.survey) ∧
      t = { s with
        paths := t.paths, tuning := t.tuning, survey := { s.survey with requests := t.survey.requests } })) ∧
  (∀ (i : PathIx) (s : State), (s.path i).state = .idle ∨ (s.path i).evalDeadline = none ∨ s.station = .loading ∨
    s.station = .quiet → exec (.pathEvaluation i) s = .next s)

/-- ACQUIRE_TIMEOUT and CARRIER_CHECK_FAIL: the acquisition fails, its source is penalised and cleared, and the path
goes to SEEKING, or from a switch to HOLDOVER with its output slot. The paths that wait ask for a slot that the receive
slot no longer guards. Outside an acquisition either command changes nothing (the model's choice, log entry 2). -/
def Obligations.AcquisitionFails : Prop :=
  (∀ (i : PathIx) (c : Instr) (s : State),
    ((s.path i).state = .acquiring ∨ (s.path i).state = .switching) →
    ((c = .acquireTimeout i ∧ ∃ d, (s.path i).acquireDeadline = some d ∧ reached s.now d = true) ∨
      (c = .carrierCheckFail i ∧ (s.path i).check = .counting 20)) →
    Answers c s (fun t =>
      t.path i = { s.path i with
        state := if (s.path i).state = .switching then .holdover else .seeking
        event := some .acquireFailed, selected := none, rxSlot := none, lowCarrier := 0, lastSourceFrame := none
        acquireDeadline := none, check := .notStarted, candidate := none, candidateCount := 0, rxPending := false
        holdoverDeadline := if (s.path i).state = .switching then
            some ((s.path i).holdoverDeadline.getD (laterS s.now s.params.holdover))
          else (s.path i).holdoverDeadline
        cond := (t.path i).cond } ∧
      (t.path i).cond = condOf s.gov.site (t.path i) ∧
      (∀ x, (s.path i).selected = some x → t.sources = s.sources.map (fun e =>
        if e.slot = x.slot ∧ e.station = x.station then
          { e with barredUntil := some (laterS s.now s.params.sourcePenalty) } else e)) ∧
      (∀ e ∈ t.tuning, ¬(e.path = i ∧ e.side = .receive)) ∧
      OthersStand i s t ∧ WaitersAsk s t ∧ ActFrame s t)) ∧
  (∀ (i : PathIx) (s : State), (s.path i).state ≠ .acquiring → (s.path i).state ≠ .switching →
    exec (.acquireTimeout i) s = .next s ∧ exec (.carrierCheckFail i) s = .next s)

/-- LOW_CARRIER_LOSS and TAG_LOSS: the source is lost, and the path goes to SEEKING from WAIT_SLOT and from CLAIMING,
whose INTENT it gives up, and from ON to HOLDOVER with its slot. The paths that wait ask for what this leaves eligible.
Below 50, or without a source frame, the command changes nothing (the model's choice, log entry 2). -/
def Obligations.SourceLossMovesPath : Prop :=
  (∀ (i : PathIx) (c : Instr) (s : State), (s.path i).selected ≠ none →
    ((s.path i).state = .waitSlot ∨ (s.path i).state = .claiming ∨ (s.path i).state = .on) →
    ((c = .lowCarrierLoss i ∧ (s.path i).lowCarrier = 50) ∨
      (c = .tagLoss i ∧ ∃ u, (s.path i).lastSourceFrame = some u ∧ 2000 ≤ age s.now u)) →
    Answers c s (fun t =>
      t.path i = { s.path i with
        state := if (s.path i).state = .on then .holdover else .seeking
        event := some .sourceLost, selected := none, rxSlot := none, lowCarrier := 0, lastSourceFrame := none
        acquireDeadline := none, check := .notStarted, candidate := none, candidateCount := 0, rxPending := false
        holdoverDeadline := if (s.path i).state = .on then some (laterS s.now s.params.holdover)
          else (s.path i).holdoverDeadline
        output := if (s.path i).state = .claiming then none else (s.path i).output
        txPending := if (s.path i).state = .claiming then false else (s.path i).txPending
        cond := (t.path i).cond } ∧
      (t.path i).cond = condOf s.gov.site (t.path i) ∧
      ((s.path i).state = .claiming → ∀ k : Slot, (t.slot k).ownPath ≠ some i) ∧
      (∀ e ∈ t.tuning, ¬(e.path = i ∧ e.side = .receive)) ∧
      t.sources = s.sources ∧ OthersStand i s t ∧ WaitersAsk s t ∧ ActFrame s t)) ∧
  (∀ (i : PathIx) (s : State), (s.path i).lowCarrier < 50 → exec (.lowCarrierLoss i) s = .next s) ∧
  (∀ (i : PathIx) (s : State), (s.path i).lastSourceFrame = none → exec (.tagLoss i) s = .next s)

/-- HOLDOVER_EXPIRED: the path gives up its output slot and goes to SEEKING, or from SWITCHING to ACQUIRING with its
acquisition kept. When the slot it gives up is eligible, every path that waits asks: one that waits on found no slot
eligible. Without a holdover deadline the command changes nothing (the model's choice, log entry 2). -/
def Obligations.HoldoverExpiryGivesUpSlot : Prop :=
  (∀ (i : PathIx) (d : Time) (s : State),
    ((s.path i).state = .holdover ∨ (s.path i).state = .switching) → (s.path i).holdoverDeadline = some d →
    reached s.now d = true →
    Answers (.holdoverExpired i) s (fun t =>
      t.path i = { s.path i with
        state := if (s.path i).state = .switching then .acquiring else .seeking
        event := some .holdoverExpired, holdoverDeadline := none, output := none, txPending := false, cond := .off } ∧
      (∀ k : Slot, (t.slot k).ownPath ≠ some i) ∧ (∀ e ∈ t.tuning, ¬(e.path = i ∧ e.side = .transmit)) ∧
      (∀ k : Slot, s.claimingPermitted = true → (s.slot k).own ≠ .none → (s.slot k).ownPath = some i →
        (s.slot k).peers = [] → ((s.slot k).attr = .transmit ∨ (s.slot k).attr = .both) → guarded s k = false →
        ∀ j : PathIx, WaitsOn s t j → anyEligible t = false) ∧
      t.sources = s.sources ∧ OthersStand i s t ∧ WaitersAsk s t ∧ ActFrame s t)) ∧
  (∀ (i : PathIx) (s : State), (s.path i).holdoverDeadline = none → exec (.holdoverExpired i) s = .next s)

/-- FRAMER_OUTCOME of a good frame of the source that a path has selected, heard on its receive slot: with the carrier
check passed, SWITCHING goes to ON with its slot, and ACQUIRING to WAIT_SLOT with a choose-and-claim request at once,
which takes the pinned slot, the nearest eligible slot or none; before the check is passed the acquisition goes on, and
a path that watches the source notes the frame. That a cancellation which the path still owes is taken with a new output
slot, and stays owed without one, is the model's choice, on a field of its own (log entries 4 and 21). -/
def Obligations.AcquisitionEndsAsAcquired : Prop :=
  ∀ (i : PathIx) (order : OutcomeOrder) (bs : List Byte) (noise : Nat) (r : Neighbour)
    (x : Selected) (s : State),
    (s.framer (.path i)).outcome = some (.good bs noise) → (s.station = .listen ∨ s.station = .running) →
    TablesOk s → ClaimsOk s → MarksServed s →
    r ∈ s.neighbours → r.station = (readFrame bs).station → r.network = (readFrame bs).network →
    (readFrame bs).station ≠ s.params.stationId → (readFrame bs).station = x.station →
    (readFrame bs).programme = (s.carryOf i).programme → (s.carryOf i).enabled = true →
    (readFrame bs).network = s.params.networkId → (readFrame bs).absent = false → (readFrame bs).depth ≤ 14 →
    (readFrame bs).upstream ≠ s.params.stationId →
    (s.path i).selected = some x → (s.path i).rxSlot = some x.slot → (s.rxSide i).word = slotWord x.slot →
    (∃ e ∈ s.sources, e.slot = x.slot ∧ e.station = x.station) →
    (∀ (j : PathIx) (y : Selected), j ≠ i → (s.path j).selected = some y → ¬(y.slot = x.slot ∧ y.station = x.station)) →
    Answers (.framerOutcome (.path i) order) s (fun t =>
      let p := s.path i
      let heard := some { x with depth := (readFrame bs).depth }
      (∀ j : PathIx, j ≠ i → (s.path j).state ≠ .waitSlot → (s.path j).state ≠ .claiming → t.path j = s.path j) ∧
      HeldClaimsStand s t ∧
      (p.state = .switching → p.check = .passed →
        t.path i = { p with
          state := .on, event := some .switched, selected := heard, acquireDeadline := none
          lastSourceFrame := some s.now, lowCarrier := 0, acquired := true, holdoverDeadline := none
          cond := (t.path i).cond } ∧
        (t.path i).cond = condOf s.gov.site (t.path i)) ∧
      (p.state = .acquiring → p.check = .passed →
        t.path i = { p with
          state := (t.path i).state, event := (t.path i).event, selected := heard, acquireDeadline := none
          lastSourceFrame := some s.now, lowCarrier := 0, acquired := true, output := (t.path i).output
          txPending := (t.path i).txPending, cond := condOf s.gov.site (t.path i)
          cancelOwed := if (t.path i).output = none then p.cancelOwed else 0 } ∧
        (t.wait i).freed = false ∧
        (s.claimingPermitted = false → (t.path i).state = .waitSlot ∧ (t.path i).event = some .acquired ∧
          (t.path i).output = none ∧ (t.path i).txPending = p.txPending) ∧
        (s.claimingPermitted = true →
          ((t.path i).state = .waitSlot ∧ (t.path i).event = some .acquired ∧ (t.path i).output = none ∧
            anyEligible t = false) ∨
          (∃ k : Slot, (t.path i).state = .claiming ∧ (t.path i).event = some .acquired ∧
            (t.path i).output = some k ∧ (t.path i).txPending = true ∧ (t.wait i).retryDeadline = none ∧
            t.slot k = { attr := (s.slot k).attr, own := .intent, ownPath := some i, ownPinned := false
                         ownDeadline := some (laterS s.now s.params.claimHoldOff), collision := none, peers := [] } ∧
            mayTransmit (s.slot k).attr = true ∧ guarded t k = false ∧
            (∀ j : Slot, eligible t j = true →
              slotDistance k (s.carryOf i).preferred < slotDistance j (s.carryOf i).preferred ∨
              (slotDistance k (s.carryOf i).preferred = slotDistance j (s.carryOf i).preferred ∧ k < j))) ∨
          ((s.carryOf i).pinned = true ∧ (t.path i).state = .on ∧ (t.path i).event = some .claimWon ∧
            (t.path i).output = some (s.carryOf i).preferred ∧ (t.path i).txPending = true ∧
            (t.wait i).retryDeadline = none ∧
            (t.slot (s.carryOf i).preferred).own = .held ∧ (t.slot (s.carryOf i).preferred).ownPath = some i ∧
            (t.slot (s.carryOf i).preferred).ownPinned = true ∧
            ∀ q ∈ (t.slot (s.carryOf i).preferred).peers, q.pinned = false)) ∧
        ((s.carryOf i).pinned = true → (t.path i).state ≠ .on → s.claimingPermitted = true →
          pinnedEligible t (s.carryOf i).preferred = false)) ∧
      (p.state = .acquiring ∨ p.state = .switching → p.check ≠ .passed → t.path i = { p with selected := heard }) ∧
      (p.state = .on → t.path i = { p with selected := heard, lastSourceFrame := some s.now }) ∧
      (p.state = .waitSlot ∨ p.state = .claiming → (t.path i).selected = heard ∧
        (t.path i).lastSourceFrame = some s.now))

/-! ### The site -/

/-- TXPERMIT_CHANGE on a RUNNING site without mute or lockout: low inhibits it, with every path OFF and the grace and
alarm deadlines started; high lets it transmit again, and the waiting paths claim. Elsewhere only the held level
changes. The level already held changes nothing (the model's choice, log entry 2). -/
def Obligations.PermitDrivesSite : Prop :=
  (∀ s : State, LevelsOk s → s.station = .running → s.gov.lockoutDeadline = none → s.gov.muteDeadline = none →
    s.lines.permit = true → Answers (.txpermitChange false) s (fun t =>
      SiteFrame { s with lines := { s.lines with permit := false } } t ∧ t.gov.site = .inhibited ∧
      (∀ i : PathIx, t.path i = { s.path i with cond := .off }) ∧ t.mon.visit = none ∧
      t.gov.graceDeadline = some (laterS s.now s.params.silenceGrace) ∧
      t.lines.inhibitAlarmDeadline = some (laterS s.now s.params.silenceGrace) ∧
      (s.anyOnAir = true → t.lines.txkey = true ∧ t.lines.keyHoldDeadline = some (later s.now 10000)) ∧
      t.slots = s.slots ∧ t.waits = s.waits ∧ t.tuning = s.tuning ∧ t.sources = s.sources)) ∧
  (∀ s : State, LevelsOk s → s.station = .running → s.gov.lockoutDeadline = none → s.gov.muteDeadline = none →
    s.lines.permit = false → Answers (.txpermitChange true) s (fun t =>
      SiteFrame { s with lines := { s.lines with permit := true } } t ∧ t.gov.site = .transmitting ∧
      SitePaths s t ∧ t.gov.graceDeadline = none ∧ t.lines.inhibitAlarmDeadline = none ∧
      t.lines.inhibitAlarm = false)) ∧
  (∀ (level : Bool) (s : State), LevelsOk s → level ≠ s.lines.permit →
    (s.station ≠ .running ∨ s.gov.lockoutDeadline ≠ none ∨ s.gov.muteDeadline ≠ none) →
    exec (.txpermitChange level) s = .next { s with lines := { s.lines with permit := level } }) ∧
  (∀ s : State, exec (.txpermitChange s.lines.permit) s = .next s)

/-- MUTE_END and LOCKOUT_END: the deadline absent, the cap at 64, and the site state derived again, with all that
follows; an end into INHIBITED starts the inhibit alarm deadline. Without its deadline either command changes nothing
(the model's choice, log entry 2). -/
def Obligations.MuteAndLockoutEnd : Prop :=
  (∀ (d : Time) (s : State), LevelsOk s → s.gov.muteDeadline = some d → reached s.now d = true →
    Answers .muteEnd s (fun t =>
      SiteFrame { s with gov := { s.gov with muteDeadline := none, lastMuteEnd := some s.now, cap := 64 } } t ∧
      (s.station = .running → s.gov.lockoutDeadline = none →
        t.gov.site = if s.lines.permit then .transmitting else .inhibited) ∧
      SitePaths s t ∧ (t.gov.site = .transmitting → t.gov.graceDeadline = none) ∧
      (t.gov.site = .inhibited → t.gov.graceDeadline = s.gov.graceDeadline ∧
        t.lines.inhibitAlarmDeadline = some (laterS s.now s.params.silenceGrace)) ∧
      (t.gov.site ≠ .inhibited → t.lines.inhibitAlarmDeadline = s.lines.inhibitAlarmDeadline) ∧
      t.lines.inhibitAlarm = s.lines.inhibitAlarm)) ∧
  (∀ (d : Time) (s : State), LevelsOk s → s.gov.lockoutDeadline = some d → reached s.now d = true →
    Answers .lockoutEnd s (fun t =>
      SiteFrame { s with gov := { s.gov with
        lockoutDeadline := none, faultHistory := [], lastMuteEnd := none, lockoutFlag := false, cap := 64 } } t ∧
      (s.station = .running → s.gov.muteDeadline = none →
        t.gov.site = if s.lines.permit then .transmitting else .inhibited) ∧
      SitePaths s t ∧ (t.gov.site = .transmitting → t.gov.graceDeadline = none) ∧
      (t.gov.site = .inhibited → t.gov.graceDeadline = s.gov.graceDeadline ∧
        t.lines.inhibitAlarmDeadline = some (laterS s.now s.params.silenceGrace)) ∧
      (t.gov.site ≠ .inhibited → t.lines.inhibitAlarmDeadline = s.lines.inhibitAlarmDeadline) ∧
      t.lines.inhibitAlarm = s.lines.inhibitAlarm)) ∧
  (∀ s : State, s.gov.muteDeadline = none → exec .muteEnd s = .next s) ∧
  (∀ s : State, s.gov.lockoutDeadline = none → exec .lockoutEnd s = .next s)

/-- GRACE_DEADLINE: a silent release. Every own claim is given up, its path goes on with SLOT_RELEASED, the peers'
records and the other paths stand, and SILENT_RELEASE is set. Without a grace deadline the command changes nothing (the
model's choice, log entry 2). -/
def Obligations.GraceDeadlineReleasesAll : Prop :=
  (∀ (d : Time) (s : State), ClaimsOk s → s.gov.graceDeadline = some d → reached s.now d = true →
    Answers .graceDeadline s (fun t =>
      (∀ k : Slot, t.slot k = { s.slot k with
        own := .none, ownPath := none, ownPinned := false, ownDeadline := none, collision := none }) ∧
      (∀ i : PathIx, (s.path i).output = none → t.path i = s.path i) ∧
      (∀ i : PathIx, (s.path i).output ≠ none → t.path i = { s.path i with
        state := match (s.path i).state with
          | .on => .waitSlot
          | .claiming => .waitSlot
          | .switching => .acquiring
          | _ => .seeking
        event := some .slotReleased, output := none, txPending := false, holdoverDeadline := none, cond := .off
        candidate := if (s.path i).state = .on then none else (s.path i).candidate
        candidateCount := if (s.path i).state = .on then 0 else (s.path i).candidateCount }) ∧
      t.silentRelease = true ∧ t.pinnedCollision = false ∧ t.waits = s.waits ∧ t.sources = s.sources ∧
      ActFrame { s with gov := { s.gov with graceDeadline := none } } t)) ∧
  (∀ s : State, s.gov.graceDeadline = none → exec .graceDeadline s = .next s)

/-- The steps of the site that only let a time pass: FAULT_HISTORY_EXPIRY, FAILURE_LOG_EXPIRY, KEY_HOLD_EXPIRY and
INHIBIT_ALARM. A deadline not reached changes nothing (the model's choice, log entry 2), and the ages of the two lists
are read unsigned (the model's inference, log entry 10). -/
def Obligations.HistoriesAndHoldsExpire : Prop :=
  (∀ s : State, exec .faultHistoryExpiry s = .next { s with gov := { s.gov with
    faultHistory := s.gov.faultHistory.filter (fun x => decide ((s.timing.ms - x).toNat ≤ 60000)) } }) ∧
  (∀ s : State, exec .failureLogExpiry s = .next { s with mon := { s.mon with
    failureLog := s.mon.failureLog.filter (fun x => decide ((s.timing.ms - x).toNat ≤ 60000)) } }) ∧
  (∀ (d : Time) (s : State), s.lines.keyHoldDeadline = some d → exec .keyHoldExpiry s =
    if reached s.now d then .next { s with lines := { s.lines with keyHoldDeadline := none, txkey := false } }
    else .next s) ∧
  (∀ (d : Time) (s : State), s.lines.inhibitAlarmDeadline = some d → exec .inhibitAlarm s =
    if reached s.now d then
      .next { s with lines := { s.lines with inhibitAlarmDeadline := none, inhibitAlarm := true, alarm := true } }
    else .next s)

/-! ### The monitor receiver -/

/-- VISIT_START: the first path from the visit position on that radiates on its own slot; retune, framer cleared, 700
ms. During a visit, outside TRANSMITTING and with no such path the command changes nothing (during a visit the model's
choice, log entry 2). -/
def Obligations.VisitStartsOnNextPath : Prop :=
  (∀ (i : PathIx) (k : Slot) (s : State), s.mon.visit = none → s.gov.site = .transmitting →
    (s.path i).output = some k → mayVisit s i = true →
    (∀ j : PathIx, j - s.mon.visitPosition < i - s.mon.visitPosition → mayVisit s j = false) →
    exec .visitStart s = .next { s with mon :=
      { s.mon with
        rx := { s.mon.rx with word := slotWord k, warmUp := true, latest := none }
        framer := Framer.cleared, visitPosition := i + 1
        visit := some
          { phase := .warmUp, path := i, slot := k, cond := (s.path i).cond, deadline := later s.now 700 } } }) ∧
  (∀ (i : PathIx) (s : State), mayVisit s i = true ↔
    (s.path i).cond ≠ .off ∧ (s.txSide i).inUse.cond ≠ .off ∧ (s.path i).output ≠ none ∧
    (s.txSide i).slotInUse = (s.path i).output) ∧
  (∀ s : State, s.mon.visit ≠ none ∨ s.gov.site ≠ .transmitting ∨ (∀ i : PathIx, mayVisit s i = false) →
    exec .visitStart s = .next s)

/-- TX_RESTORED: the transmit fault ends with the fail count at 0 and the condition derived again. Without a
transmit-fault deadline the command changes nothing (the model's choice, log entry 2). -/
def Obligations.TxFaultEnds : Prop :=
  (∀ (i : PathIx) (d : Time) (s : State), (s.path i).txFaultDeadline = some d → reached s.now d = true →
    Answers (.txRestored i) s (fun t =>
      t.path i = { s.path i with
        txFaultDeadline := none, monitorFails := 0, event := some .txRestored, cond := (t.path i).cond } ∧
      (t.path i).cond = condOf s.gov.site (t.path i) ∧ (∀ j : PathIx, j ≠ i → t.path j = s.path j) ∧
      t.slots = s.slots ∧ t.sources = s.sources ∧ t.waits = s.waits ∧ t.tuning = s.tuning ∧ ActFrame s t)) ∧
  (∀ (i : PathIx) (s : State), (s.path i).txFaultDeadline = none → exec (.txRestored i) s = .next s)

/-! ### The sweeps -/

/-- NEIGHBOUR_SWEEP and SOURCE_SWEEP: on a whole second the records older than the neighbour timeout go, with every peer
record and source entry of a removed station, whichever table takes each station's release first; own HELD claims stand,
and the paths that wait ask for what comes free. On any other boundary the commands change nothing (the model's choice,
on a mark of the model's own: log entries 2 and 4). -/
def Obligations.SweepsRemoveTheSilent : Prop :=
  (∀ (sourcesFirst : List StationId) (s : State), TablesOk s → ClaimsOk s → s.timing.wholeSecond = true →
    Answers (.neighbourSweep sourcesFirst) s (fun t =>
      let gone := fun st : StationId => s.neighbours.any (fun r =>
        r.station == st && decide (1000 * s.params.neighbourTimeout ≤ age s.now r.lastHeard))
      t.neighbours = s.neighbours.filter (fun r => !gone r.station) ∧
      t.sources = s.sources.filter (fun e => !gone e.station) ∧
      (∀ k : Slot, (t.slot k).peers = (s.slot k).peers.filter (fun p => !gone p.station)) ∧ HeldClaimsStand s t ∧
      WaitersAsk s t ∧ ActFrame { s with neighbours := t.neighbours } t)) ∧
  (∀ s : State, TablesOk s → ClaimsOk s → s.timing.wholeSecond = true → Answers .sourceSweep s (fun t =>
    t.sources = s.sources.filter (fun e => decide (age s.now e.lastHeard < 1000 * s.params.neighbourTimeout)) ∧
    (∀ k : Slot, (t.slot k).peers = (s.slot k).peers) ∧ HeldClaimsStand s t ∧ WaitersAsk s t ∧ ActFrame s t)) ∧
  (∀ (sourcesFirst : List StationId) (s : State), s.timing.wholeSecond = false →
    exec (.neighbourSweep sourcesFirst) s = .next s ∧ exec .sourceSweep s = .next s)

/-! ### The status line and the sample streams -/

/-- STATUS_RECORD assembles the 138 bytes of Tables 10-5 and 10-6 on a whole second; STATUS_BIT_SENT sends their bits,
least significant first between a low start bit and a high stop bit, and holds the line high after the last. With no
record due STATUS_RECORD changes nothing (the model's choice, on a mark of the model's own: log entries 2 and 4). -/
def Obligations.StatusRecordAndLine : Prop :=
  (∀ s : State, s.timing.statusDue = true → Answers .statusRecord s (fun t =>
    let rec0 := t.status.buffer
    rec0.length = 138 ∧ rec0.take 2 = [0x5A, 0xC3] ∧ field16 rec0 2 = s.params.stationId.toNat ∧
    field32 rec0 4 = s.timing.secs.toNat ∧
    (byteAt rec0 8).toNat = (match s.station with | .loading => 0 | .quiet => 1 | .listen => 2 | .running => 3) ∧
    (byteAt rec0 9).toNat = (match s.gov.site with
      | .transmitting => 0 | .muted => 1 | .lockedOut => 2 | .inhibited => 3 | .silent => 4) ∧
    field16 rec0 10 = s.gov.backoff % 65536 ∧
    (let flags := field16 rec0 12
     flags < 512 ∧ flags.testBit 0 = s.loader.configInvalid ∧ flags.testBit 1 = s.loader.configClamped ∧
     flags.testBit 2 = s.neighbourOverflow ∧ flags.testBit 3 = s.pinnedCollision ∧
     flags.testBit 4 = s.mon.chainFault ∧ flags.testBit 5 = decide (s.gov.faultHistory ≠ []) ∧
     flags.testBit 6 = s.gov.lockoutFlag ∧ flags.testBit 7 = decide (s.gov.site = .inhibited) ∧
     flags.testBit 8 = s.silentRelease) ∧
    (byteAt rec0 14).toNat = s.neighbours.length % 256 ∧ (byteAt rec0 15).toNat = s.sources.length % 256 ∧
    (∀ i : PathIx,
      let p := s.path i
      let o := 16 + 10 * i.val
      (byteAt rec0 o).toNat = (match p.state with
        | .idle => 0 | .seeking => 1 | .acquiring => 2 | .waitSlot => 3 | .claiming => 4 | .on => 5
        | .switching => 6 | .holdover => 7) ∧
      (byteAt rec0 (o + 1)).toNat = (match p.cond with | .off => 0 | .tagOnly => 1 | .full => 2) ∧
      (byteAt rec0 (o + 2)).toNat = (match p.event with
        | none => 0 | some .sourceSelected => 1 | some .acquired => 2 | some .acquireFailed => 3
        | some .sourceLost => 4 | some .switched => 5 | some .claimWon => 6 | some .claimWithdrawn => 7
        | some .slotCollision => 8 | some .slotReleased => 9 | some .txFault => 10 | some .txRestored => 11
        | some .shed => 12 | some .restored => 13 | some .holdoverExpired => 14) ∧
      (byteAt rec0 (o + 3)).toNat = (match p.rxSlot with | none => 255 | some k => k.val) ∧
      (byteAt rec0 (o + 4)).toNat = (match p.output with | none => 255 | some k => k.val) ∧
      field16 rec0 (o + 5) = (match p.selected with | none => 0 | some x => x.station.toNat) ∧
      (byteAt rec0 (o + 7)).toNat = (s.builderPath i).keptDepth % 256 ∧
      field16 rec0 (o + 8) = s.amplitude i % 65536) ∧
    field16 rec0 136 = (crc16 ((rec0.drop 2).take 134)).toNat ∧
    t = { s with
      timing := { s.timing with statusDue := false }
      status := { s.status with buffer := rec0, sent := 0 } })) ∧
  (∀ s : State, s.timing.statusDue = false → exec .statusRecord s = .next s) ∧
  (∀ (j r : Nat) (s : State), s.status.sent = 10 * j + r → r < 10 → j < s.status.buffer.length →
    exec .statusBitSent s = .next { s with status :=
      { s.status with
        sent := s.status.sent + 1
        stout := if r = 0 then false else if r = 9 then true
          else (byteAt s.status.buffer j).getLsbD (r - 1) } }) ∧
  (∀ s : State, 10 * s.status.buffer.length ≤ s.status.sent →
    exec .statusBitSent s = .next { s with status := { s.status with stout := true } })

/-- The three sample streams: a pair taken at the band input reaches the 12 programme receive sides and the survey
receive side, and at every 64th strobe each of the 13 measures its magnitude and each transmit side scales its programme
and runs its tag tone on, by a step that its bit alone decides; the coupler likewise for the monitor; the composite
sample is the saturated sum of the sides that send, and a sum outside 16 bits is one clip. That the channel sample is
the last of each group of 64 is the model's choice (log entry 18), and the filters' values are operands (log entries 8
and 24). The magnitude of a sample is the larger of |I| and |Q| with half the smaller added, capped at 32767. -/
def Obligations.SamplesTaken : Prop :=
  (∀ (x : IQ) (chans : Vector IQ 12) (survey : IQ) (s : State),
    Answers (.bandInputSample x chans survey) s (fun t =>
      t.band = { alignment := (s.band.alignment + 1) % 16384, presented := x } ∧
      (∀ i : PathIx,
        (s.band.alignment % 64 ≠ 63 →
          t.rxSide i = { s.rxSide i with phase := (s.rxSide i).phase + (s.rxSide i).word } ∧ t.txSide i = s.txSide i) ∧
        (s.band.alignment % 64 = 63 → (s.rxSide i).count < 256 →
          t.rxSide i = { s.rxSide i with
            phase := (s.rxSide i).phase + (s.rxSide i).word
            sum := (s.rxSide i).sum + sampleMagnitude chans[i.val], count := (s.rxSide i).count + 1 } ∧
          ((s.txSide i).inUse.cond = .full → (t.txSide i).channel =
            ⟨(chans[i.val].i.toInt * (s.txSide i).inUse.gain).tdiv 1024,
              (chans[i.val].q.toInt * (s.txSide i).inUse.gain).tdiv 1024⟩) ∧
          ((s.txSide i).inUse.cond ≠ .full → (t.txSide i).channel = ⟨0, 0⟩) ∧
          t.txSide i = { s.txSide i with
            channel := (t.txSide i).channel
            tonePhase := match (s.txSide i).tone with
              | none => (s.txSide i).tonePhase
              | some .mark => (s.txSide i).tonePhase + 1342177280
              | some .space => (s.txSide i).tonePhase + 1073741824 })) ∧
      (s.band.alignment % 64 ≠ 63 →
        t.survey.rx = { s.survey.rx with phase := s.survey.rx.phase + s.survey.rx.word }) ∧
      (s.band.alignment % 64 = 63 → s.survey.rx.count < 256 →
        t.survey.rx = { s.survey.rx with
          phase := s.survey.rx.phase + s.survey.rx.word
          sum := s.survey.rx.sum + sampleMagnitude survey, count := s.survey.rx.count + 1 }) ∧
      t = { s with
        band := t.band, rx := t.rx, tx := t.tx, survey := { s.survey with rx := t.survey.rx } })) ∧
  (∀ (x chan : IQ) (s : State), s.mon.rx.count < 256 → Answers (.couplerInputSample x chan) s (fun t =>
    t = { s with
      coupler := { alignment := (s.coupler.alignment + 1) % 16384, presented := x }
      mon := { s.mon with rx :=
        if s.coupler.alignment % 64 = 63 then
          { s.mon.rx with
            phase := s.mon.rx.phase + s.mon.rx.word, sum := s.mon.rx.sum + sampleMagnitude chan
            count := s.mon.rx.count + 1 }
        else { s.mon.rx with phase := s.mon.rx.phase + s.mon.rx.word } } })) ∧
  (∀ (sides : Vector WideIQ 12) (s : State), s.composite.clips < 16384 → Answers (.compositeSample sides) s (fun t =>
    let sends := fun i : PathIx => (s.txSide i).inUse.cond ≠ .off ∧ (s.txSide i).slotInUse ≠ none ∧
      (s.txSide i).slotInUse = (s.txSide i).recordSlot
    let si := ((indices 12).map (fun i => if sends i then sides[i.val].i else 0)).sum
    let sq := ((indices 12).map (fun i => if sends i then sides[i.val].q else 0)).sum
    t.composite.out = ⟨BitVec.ofInt 16 (max (-32768) (min 32767 si)), BitVec.ofInt 16 (max (-32768) (min 32767 sq))⟩ ∧
    (-32768 ≤ si → si ≤ 32767 → -32768 ≤ sq → sq ≤ 32767 → t.composite.clips = s.composite.clips) ∧
    (si < -32768 ∨ 32767 < si ∨ sq < -32768 ∨ 32767 < sq → t.composite.clips = s.composite.clips + 1) ∧
    (∀ i : PathIx, t.txSide i = { s.txSide i with phase := (s.txSide i).phase + (s.txSide i).word }) ∧
    t = { s with composite := t.composite, tx := t.tx })) ∧
  (∀ x : IQ, sampleMagnitude x =
    min 32767 (max x.i.toInt.natAbs x.q.toInt.natAbs + min x.i.toInt.natAbs x.q.toInt.natAbs / 2))

/-! ### What every step keeps -/

/-- Device reset meets every invariant. -/
def Obligations.ResetMeetsInvariants : Prop :=
  TablesOk State.reset ∧ QualityOk State.reset ∧ LevelsOk State.reset ∧ PinnedFlagOk State.reset ∧
  ClaimsOk State.reset ∧ MarksServed State.reset ∧ LoadingOk State.reset ∧ GuardClear State.reset ∧
  SelectionsOk State.reset ∧ SurveyHeldOk State.reset ∧ ChannelsOk State.reset

/-- Every step keeps every table within its capacity and in its order, the fault history within its 3 times among them,
and every entry's quality what its grades and absent flag give. -/
def Obligations.TablesStayInOrder : Prop :=
  ∀ s t : State, TablesOk s → QualityOk s → LevelsOk s → step s = .next t → TablesOk t ∧ QualityOk t

/-- Every step keeps the site state, the transmit conditions, ALARM, TXKEY and PINNED_COLLISION what their rules derive,
and keeps the programme out of the channel of every transmit side that is not FULL. -/
def Obligations.DerivedLevelsStayTrue : Prop :=
  (∀ s t : State, LevelsOk s → PinnedFlagOk s → step s = .next t → LevelsOk t ∧ PinnedFlagOk t) ∧
  (∀ s t : State, ChannelsOk s → step s = .next t → ChannelsOk t)

/-- Every step keeps own claims and path records in agreement, and leaves no freed mark unserved. -/
def Obligations.ClaimsAgreeWithPaths : Prop :=
  ∀ s t : State, ClaimsOk s → MarksServed s → step s = .next t → ClaimsOk t ∧ MarksServed t

/-- Every step keeps every own claim outside the guard distance of every receive slot, and the survey receiver at its
reset values until the station enters LISTEN (R55 before R7: the model's reading, log entry 20). -/
def Obligations.GuardStaysClear : Prop :=
  (∀ s t : State, GuardClear s → LoadingOk s → step s = .next t → GuardClear t ∧ LoadingOk t) ∧
  (∀ s t : State, SurveyHeldOk s → LoadingOk s → step s = .next t → SurveyHeldOk t)

/-- Every step keeps every selected source in the table and safe to take: not the own station, not fed by it, not at
depth 15; and every path has one just in the states that hold one. -/
def Obligations.SelectionsStaySafe : Prop :=
  ∀ s t : State, SelectionsOk s → LoadingOk s → TablesOk s → step s = .next t → SelectionsOk t
end

