-- ==== Sys2Proof/Laws/State.lean ====
section
/-! SUPPORT. The small lemmas of State's updates: one for each field that an update leaves, each true by unfolding, so
that no later proof unfolds a record update. -/

namespace Sys2Proof.Machine

open Sys2Proof

/-! ### The record of a path changed -/

@[simp] theorem State.modPath_pending (s : State) (i : PathIx) (f : PathRec → PathRec) : (s.modPath i f).pending = s.pending := rfl
@[simp] theorem State.modPath_timing (s : State) (i : PathIx) (f : PathRec → PathRec) : (s.modPath i f).timing = s.timing := rfl
@[simp] theorem State.modPath_params (s : State) (i : PathIx) (f : PathRec → PathRec) : (s.modPath i f).params = s.params := rfl
@[simp] theorem State.modPath_carry (s : State) (i : PathIx) (f : PathRec → PathRec) : (s.modPath i f).carry = s.carry := rfl
@[simp] theorem State.modPath_station (s : State) (i : PathIx) (f : PathRec → PathRec) : (s.modPath i f).station = s.station := rfl
@[simp] theorem State.modPath_loader (s : State) (i : PathIx) (f : PathRec → PathRec) : (s.modPath i f).loader = s.loader := rfl
@[simp] theorem State.modPath_band (s : State) (i : PathIx) (f : PathRec → PathRec) : (s.modPath i f).band = s.band := rfl
@[simp] theorem State.modPath_coupler (s : State) (i : PathIx) (f : PathRec → PathRec) : (s.modPath i f).coupler = s.coupler := rfl
@[simp] theorem State.modPath_rx (s : State) (i : PathIx) (f : PathRec → PathRec) : (s.modPath i f).rx = s.rx := rfl
@[simp] theorem State.modPath_tx (s : State) (i : PathIx) (f : PathRec → PathRec) : (s.modPath i f).tx = s.tx := rfl
@[simp] theorem State.modPath_composite (s : State) (i : PathIx) (f : PathRec → PathRec) : (s.modPath i f).composite = s.composite := rfl
@[simp] theorem State.modPath_tuning (s : State) (i : PathIx) (f : PathRec → PathRec) : (s.modPath i f).tuning = s.tuning := rfl
@[simp] theorem State.modPath_framers (s : State) (i : PathIx) (f : PathRec → PathRec) : (s.modPath i f).framers = s.framers := rfl
@[simp] theorem State.modPath_builder (s : State) (i : PathIx) (f : PathRec → PathRec) : (s.modPath i f).builder = s.builder := rfl
@[simp] theorem State.modPath_survey (s : State) (i : PathIx) (f : PathRec → PathRec) : (s.modPath i f).survey = s.survey := rfl
@[simp] theorem State.modPath_neighbours (s : State) (i : PathIx) (f : PathRec → PathRec) : (s.modPath i f).neighbours = s.neighbours := rfl
@[simp] theorem State.modPath_neighbourOverflow (s : State) (i : PathIx) (f : PathRec → PathRec) : (s.modPath i f).neighbourOverflow = s.neighbourOverflow := rfl
@[simp] theorem State.modPath_sources (s : State) (i : PathIx) (f : PathRec → PathRec) : (s.modPath i f).sources = s.sources := rfl
@[simp] theorem State.modPath_slots (s : State) (i : PathIx) (f : PathRec → PathRec) : (s.modPath i f).slots = s.slots := rfl
@[simp] theorem State.modPath_waits (s : State) (i : PathIx) (f : PathRec → PathRec) : (s.modPath i f).waits = s.waits := rfl
@[simp] theorem State.modPath_pinnedCollision (s : State) (i : PathIx) (f : PathRec → PathRec) : (s.modPath i f).pinnedCollision = s.pinnedCollision := rfl
@[simp] theorem State.modPath_silentRelease (s : State) (i : PathIx) (f : PathRec → PathRec) : (s.modPath i f).silentRelease = s.silentRelease := rfl
@[simp] theorem State.modPath_gov (s : State) (i : PathIx) (f : PathRec → PathRec) : (s.modPath i f).gov = s.gov := rfl
@[simp] theorem State.modPath_mon (s : State) (i : PathIx) (f : PathRec → PathRec) : (s.modPath i f).mon = s.mon := rfl
@[simp] theorem State.modPath_lines (s : State) (i : PathIx) (f : PathRec → PathRec) : (s.modPath i f).lines = s.lines := rfl
@[simp] theorem State.modPath_status (s : State) (i : PathIx) (f : PathRec → PathRec) : (s.modPath i f).status = s.status := rfl

/-! ### The entry of a slot changed -/

@[simp] theorem State.modSlot_pending (s : State) (k : Slot) (f : SlotEntry → SlotEntry) : (s.modSlot k f).pending = s.pending := rfl
@[simp] theorem State.modSlot_timing (s : State) (k : Slot) (f : SlotEntry → SlotEntry) : (s.modSlot k f).timing = s.timing := rfl
@[simp] theorem State.modSlot_params (s : State) (k : Slot) (f : SlotEntry → SlotEntry) : (s.modSlot k f).params = s.params := rfl
@[simp] theorem State.modSlot_carry (s : State) (k : Slot) (f : SlotEntry → SlotEntry) : (s.modSlot k f).carry = s.carry := rfl
@[simp] theorem State.modSlot_station (s : State) (k : Slot) (f : SlotEntry → SlotEntry) : (s.modSlot k f).station = s.station := rfl
@[simp] theorem State.modSlot_loader (s : State) (k : Slot) (f : SlotEntry → SlotEntry) : (s.modSlot k f).loader = s.loader := rfl
@[simp] theorem State.modSlot_band (s : State) (k : Slot) (f : SlotEntry → SlotEntry) : (s.modSlot k f).band = s.band := rfl
@[simp] theorem State.modSlot_coupler (s : State) (k : Slot) (f : SlotEntry → SlotEntry) : (s.modSlot k f).coupler = s.coupler := rfl
@[simp] theorem State.modSlot_rx (s : State) (k : Slot) (f : SlotEntry → SlotEntry) : (s.modSlot k f).rx = s.rx := rfl
@[simp] theorem State.modSlot_tx (s : State) (k : Slot) (f : SlotEntry → SlotEntry) : (s.modSlot k f).tx = s.tx := rfl
@[simp] theorem State.modSlot_composite (s : State) (k : Slot) (f : SlotEntry → SlotEntry) : (s.modSlot k f).composite = s.composite := rfl
@[simp] theorem State.modSlot_tuning (s : State) (k : Slot) (f : SlotEntry → SlotEntry) : (s.modSlot k f).tuning = s.tuning := rfl
@[simp] theorem State.modSlot_framers (s : State) (k : Slot) (f : SlotEntry → SlotEntry) : (s.modSlot k f).framers = s.framers := rfl
@[simp] theorem State.modSlot_builder (s : State) (k : Slot) (f : SlotEntry → SlotEntry) : (s.modSlot k f).builder = s.builder := rfl
@[simp] theorem State.modSlot_survey (s : State) (k : Slot) (f : SlotEntry → SlotEntry) : (s.modSlot k f).survey = s.survey := rfl
@[simp] theorem State.modSlot_neighbours (s : State) (k : Slot) (f : SlotEntry → SlotEntry) : (s.modSlot k f).neighbours = s.neighbours := rfl
@[simp] theorem State.modSlot_neighbourOverflow (s : State) (k : Slot) (f : SlotEntry → SlotEntry) : (s.modSlot k f).neighbourOverflow = s.neighbourOverflow := rfl
@[simp] theorem State.modSlot_sources (s : State) (k : Slot) (f : SlotEntry → SlotEntry) : (s.modSlot k f).sources = s.sources := rfl
@[simp] theorem State.modSlot_waits (s : State) (k : Slot) (f : SlotEntry → SlotEntry) : (s.modSlot k f).waits = s.waits := rfl
@[simp] theorem State.modSlot_pinnedCollision (s : State) (k : Slot) (f : SlotEntry → SlotEntry) : (s.modSlot k f).pinnedCollision = s.pinnedCollision := rfl
@[simp] theorem State.modSlot_silentRelease (s : State) (k : Slot) (f : SlotEntry → SlotEntry) : (s.modSlot k f).silentRelease = s.silentRelease := rfl
@[simp] theorem State.modSlot_paths (s : State) (k : Slot) (f : SlotEntry → SlotEntry) : (s.modSlot k f).paths = s.paths := rfl
@[simp] theorem State.modSlot_gov (s : State) (k : Slot) (f : SlotEntry → SlotEntry) : (s.modSlot k f).gov = s.gov := rfl
@[simp] theorem State.modSlot_mon (s : State) (k : Slot) (f : SlotEntry → SlotEntry) : (s.modSlot k f).mon = s.mon := rfl
@[simp] theorem State.modSlot_lines (s : State) (k : Slot) (f : SlotEntry → SlotEntry) : (s.modSlot k f).lines = s.lines := rfl
@[simp] theorem State.modSlot_status (s : State) (k : Slot) (f : SlotEntry → SlotEntry) : (s.modSlot k f).status = s.status := rfl

/-! ### What the slot claim table keeps for a path, changed -/

@[simp] theorem State.modWait_pending (s : State) (i : PathIx) (f : PathWait → PathWait) : (s.modWait i f).pending = s.pending := rfl
@[simp] theorem State.modWait_timing (s : State) (i : PathIx) (f : PathWait → PathWait) : (s.modWait i f).timing = s.timing := rfl
@[simp] theorem State.modWait_params (s : State) (i : PathIx) (f : PathWait → PathWait) : (s.modWait i f).params = s.params := rfl
@[simp] theorem State.modWait_carry (s : State) (i : PathIx) (f : PathWait → PathWait) : (s.modWait i f).carry = s.carry := rfl
@[simp] theorem State.modWait_station (s : State) (i : PathIx) (f : PathWait → PathWait) : (s.modWait i f).station = s.station := rfl
@[simp] theorem State.modWait_loader (s : State) (i : PathIx) (f : PathWait → PathWait) : (s.modWait i f).loader = s.loader := rfl
@[simp] theorem State.modWait_band (s : State) (i : PathIx) (f : PathWait → PathWait) : (s.modWait i f).band = s.band := rfl
@[simp] theorem State.modWait_coupler (s : State) (i : PathIx) (f : PathWait → PathWait) : (s.modWait i f).coupler = s.coupler := rfl
@[simp] theorem State.modWait_rx (s : State) (i : PathIx) (f : PathWait → PathWait) : (s.modWait i f).rx = s.rx := rfl
@[simp] theorem State.modWait_tx (s : State) (i : PathIx) (f : PathWait → PathWait) : (s.modWait i f).tx = s.tx := rfl
@[simp] theorem State.modWait_composite (s : State) (i : PathIx) (f : PathWait → PathWait) : (s.modWait i f).composite = s.composite := rfl
@[simp] theorem State.modWait_tuning (s : State) (i : PathIx) (f : PathWait → PathWait) : (s.modWait i f).tuning = s.tuning := rfl
@[simp] theorem State.modWait_framers (s : State) (i : PathIx) (f : PathWait → PathWait) : (s.modWait i f).framers = s.framers := rfl
@[simp] theorem State.modWait_builder (s : State) (i : PathIx) (f : PathWait → PathWait) : (s.modWait i f).builder = s.builder := rfl
@[simp] theorem State.modWait_survey (s : State) (i : PathIx) (f : PathWait → PathWait) : (s.modWait i f).survey = s.survey := rfl
@[simp] theorem State.modWait_neighbours (s : State) (i : PathIx) (f : PathWait → PathWait) : (s.modWait i f).neighbours = s.neighbours := rfl
@[simp] theorem State.modWait_neighbourOverflow (s : State) (i : PathIx) (f : PathWait → PathWait) : (s.modWait i f).neighbourOverflow = s.neighbourOverflow := rfl
@[simp] theorem State.modWait_sources (s : State) (i : PathIx) (f : PathWait → PathWait) : (s.modWait i f).sources = s.sources := rfl
@[simp] theorem State.modWait_slots (s : State) (i : PathIx) (f : PathWait → PathWait) : (s.modWait i f).slots = s.slots := rfl
@[simp] theorem State.modWait_pinnedCollision (s : State) (i : PathIx) (f : PathWait → PathWait) : (s.modWait i f).pinnedCollision = s.pinnedCollision := rfl
@[simp] theorem State.modWait_silentRelease (s : State) (i : PathIx) (f : PathWait → PathWait) : (s.modWait i f).silentRelease = s.silentRelease := rfl
@[simp] theorem State.modWait_paths (s : State) (i : PathIx) (f : PathWait → PathWait) : (s.modWait i f).paths = s.paths := rfl
@[simp] theorem State.modWait_gov (s : State) (i : PathIx) (f : PathWait → PathWait) : (s.modWait i f).gov = s.gov := rfl
@[simp] theorem State.modWait_mon (s : State) (i : PathIx) (f : PathWait → PathWait) : (s.modWait i f).mon = s.mon := rfl
@[simp] theorem State.modWait_lines (s : State) (i : PathIx) (f : PathWait → PathWait) : (s.modWait i f).lines = s.lines := rfl
@[simp] theorem State.modWait_status (s : State) (i : PathIx) (f : PathWait → PathWait) : (s.modWait i f).status = s.status := rfl

/-! ### The receive side of a path changed -/

@[simp] theorem State.modRx_pending (s : State) (i : PathIx) (f : RxSide → RxSide) : (s.modRx i f).pending = s.pending := rfl
@[simp] theorem State.modRx_timing (s : State) (i : PathIx) (f : RxSide → RxSide) : (s.modRx i f).timing = s.timing := rfl
@[simp] theorem State.modRx_params (s : State) (i : PathIx) (f : RxSide → RxSide) : (s.modRx i f).params = s.params := rfl
@[simp] theorem State.modRx_carry (s : State) (i : PathIx) (f : RxSide → RxSide) : (s.modRx i f).carry = s.carry := rfl
@[simp] theorem State.modRx_station (s : State) (i : PathIx) (f : RxSide → RxSide) : (s.modRx i f).station = s.station := rfl
@[simp] theorem State.modRx_loader (s : State) (i : PathIx) (f : RxSide → RxSide) : (s.modRx i f).loader = s.loader := rfl
@[simp] theorem State.modRx_band (s : State) (i : PathIx) (f : RxSide → RxSide) : (s.modRx i f).band = s.band := rfl
@[simp] theorem State.modRx_coupler (s : State) (i : PathIx) (f : RxSide → RxSide) : (s.modRx i f).coupler = s.coupler := rfl
@[simp] theorem State.modRx_tx (s : State) (i : PathIx) (f : RxSide → RxSide) : (s.modRx i f).tx = s.tx := rfl
@[simp] theorem State.modRx_composite (s : State) (i : PathIx) (f : RxSide → RxSide) : (s.modRx i f).composite = s.composite := rfl
@[simp] theorem State.modRx_tuning (s : State) (i : PathIx) (f : RxSide → RxSide) : (s.modRx i f).tuning = s.tuning := rfl
@[simp] theorem State.modRx_framers (s : State) (i : PathIx) (f : RxSide → RxSide) : (s.modRx i f).framers = s.framers := rfl
@[simp] theorem State.modRx_builder (s : State) (i : PathIx) (f : RxSide → RxSide) : (s.modRx i f).builder = s.builder := rfl
@[simp] theorem State.modRx_survey (s : State) (i : PathIx) (f : RxSide → RxSide) : (s.modRx i f).survey = s.survey := rfl
@[simp] theorem State.modRx_neighbours (s : State) (i : PathIx) (f : RxSide → RxSide) : (s.modRx i f).neighbours = s.neighbours := rfl
@[simp] theorem State.modRx_neighbourOverflow (s : State) (i : PathIx) (f : RxSide → RxSide) : (s.modRx i f).neighbourOverflow = s.neighbourOverflow := rfl
@[simp] theorem State.modRx_sources (s : State) (i : PathIx) (f : RxSide → RxSide) : (s.modRx i f).sources = s.sources := rfl
@[simp] theorem State.modRx_slots (s : State) (i : PathIx) (f : RxSide → RxSide) : (s.modRx i f).slots = s.slots := rfl
@[simp] theorem State.modRx_waits (s : State) (i : PathIx) (f : RxSide → RxSide) : (s.modRx i f).waits = s.waits := rfl
@[simp] theorem State.modRx_pinnedCollision (s : State) (i : PathIx) (f : RxSide → RxSide) : (s.modRx i f).pinnedCollision = s.pinnedCollision := rfl
@[simp] theorem State.modRx_silentRelease (s : State) (i : PathIx) (f : RxSide → RxSide) : (s.modRx i f).silentRelease = s.silentRelease := rfl
@[simp] theorem State.modRx_paths (s : State) (i : PathIx) (f : RxSide → RxSide) : (s.modRx i f).paths = s.paths := rfl
@[simp] theorem State.modRx_gov (s : State) (i : PathIx) (f : RxSide → RxSide) : (s.modRx i f).gov = s.gov := rfl
@[simp] theorem State.modRx_mon (s : State) (i : PathIx) (f : RxSide → RxSide) : (s.modRx i f).mon = s.mon := rfl
@[simp] theorem State.modRx_lines (s : State) (i : PathIx) (f : RxSide → RxSide) : (s.modRx i f).lines = s.lines := rfl
@[simp] theorem State.modRx_status (s : State) (i : PathIx) (f : RxSide → RxSide) : (s.modRx i f).status = s.status := rfl

/-! ### The transmit side of a path changed -/

@[simp] theorem State.modTx_pending (s : State) (i : PathIx) (f : TxSide → TxSide) : (s.modTx i f).pending = s.pending := rfl
@[simp] theorem State.modTx_timing (s : State) (i : PathIx) (f : TxSide → TxSide) : (s.modTx i f).timing = s.timing := rfl
@[simp] theorem State.modTx_params (s : State) (i : PathIx) (f : TxSide → TxSide) : (s.modTx i f).params = s.params := rfl
@[simp] theorem State.modTx_carry (s : State) (i : PathIx) (f : TxSide → TxSide) : (s.modTx i f).carry = s.carry := rfl
@[simp] theorem State.modTx_station (s : State) (i : PathIx) (f : TxSide → TxSide) : (s.modTx i f).station = s.station := rfl
@[simp] theorem State.modTx_loader (s : State) (i : PathIx) (f : TxSide → TxSide) : (s.modTx i f).loader = s.loader := rfl
@[simp] theorem State.modTx_band (s : State) (i : PathIx) (f : TxSide → TxSide) : (s.modTx i f).band = s.band := rfl
@[simp] theorem State.modTx_coupler (s : State) (i : PathIx) (f : TxSide → TxSide) : (s.modTx i f).coupler = s.coupler := rfl
@[simp] theorem State.modTx_rx (s : State) (i : PathIx) (f : TxSide → TxSide) : (s.modTx i f).rx = s.rx := rfl
@[simp] theorem State.modTx_composite (s : State) (i : PathIx) (f : TxSide → TxSide) : (s.modTx i f).composite = s.composite := rfl
@[simp] theorem State.modTx_tuning (s : State) (i : PathIx) (f : TxSide → TxSide) : (s.modTx i f).tuning = s.tuning := rfl
@[simp] theorem State.modTx_framers (s : State) (i : PathIx) (f : TxSide → TxSide) : (s.modTx i f).framers = s.framers := rfl
@[simp] theorem State.modTx_builder (s : State) (i : PathIx) (f : TxSide → TxSide) : (s.modTx i f).builder = s.builder := rfl
@[simp] theorem State.modTx_survey (s : State) (i : PathIx) (f : TxSide → TxSide) : (s.modTx i f).survey = s.survey := rfl
@[simp] theorem State.modTx_neighbours (s : State) (i : PathIx) (f : TxSide → TxSide) : (s.modTx i f).neighbours = s.neighbours := rfl
@[simp] theorem State.modTx_neighbourOverflow (s : State) (i : PathIx) (f : TxSide → TxSide) : (s.modTx i f).neighbourOverflow = s.neighbourOverflow := rfl
@[simp] theorem State.modTx_sources (s : State) (i : PathIx) (f : TxSide → TxSide) : (s.modTx i f).sources = s.sources := rfl
@[simp] theorem State.modTx_slots (s : State) (i : PathIx) (f : TxSide → TxSide) : (s.modTx i f).slots = s.slots := rfl
@[simp] theorem State.modTx_waits (s : State) (i : PathIx) (f : TxSide → TxSide) : (s.modTx i f).waits = s.waits := rfl
@[simp] theorem State.modTx_pinnedCollision (s : State) (i : PathIx) (f : TxSide → TxSide) : (s.modTx i f).pinnedCollision = s.pinnedCollision := rfl
@[simp] theorem State.modTx_silentRelease (s : State) (i : PathIx) (f : TxSide → TxSide) : (s.modTx i f).silentRelease = s.silentRelease := rfl
@[simp] theorem State.modTx_paths (s : State) (i : PathIx) (f : TxSide → TxSide) : (s.modTx i f).paths = s.paths := rfl
@[simp] theorem State.modTx_gov (s : State) (i : PathIx) (f : TxSide → TxSide) : (s.modTx i f).gov = s.gov := rfl
@[simp] theorem State.modTx_mon (s : State) (i : PathIx) (f : TxSide → TxSide) : (s.modTx i f).mon = s.mon := rfl
@[simp] theorem State.modTx_lines (s : State) (i : PathIx) (f : TxSide → TxSide) : (s.modTx i f).lines = s.lines := rfl
@[simp] theorem State.modTx_status (s : State) (i : PathIx) (f : TxSide → TxSide) : (s.modTx i f).status = s.status := rfl

/-! ### What the tag builder keeps for a path, changed -/

@[simp] theorem State.modBuilder_pending (s : State) (i : PathIx) (f : BuilderPath → BuilderPath) : (s.modBuilder i f).pending = s.pending := rfl
@[simp] theorem State.modBuilder_timing (s : State) (i : PathIx) (f : BuilderPath → BuilderPath) : (s.modBuilder i f).timing = s.timing := rfl
@[simp] theorem State.modBuilder_params (s : State) (i : PathIx) (f : BuilderPath → BuilderPath) : (s.modBuilder i f).params = s.params := rfl
@[simp] theorem State.modBuilder_carry (s : State) (i : PathIx) (f : BuilderPath → BuilderPath) : (s.modBuilder i f).carry = s.carry := rfl
@[simp] theorem State.modBuilder_station (s : State) (i : PathIx) (f : BuilderPath → BuilderPath) : (s.modBuilder i f).station = s.station := rfl
@[simp] theorem State.modBuilder_loader (s : State) (i : PathIx) (f : BuilderPath → BuilderPath) : (s.modBuilder i f).loader = s.loader := rfl
@[simp] theorem State.modBuilder_band (s : State) (i : PathIx) (f : BuilderPath → BuilderPath) : (s.modBuilder i f).band = s.band := rfl
@[simp] theorem State.modBuilder_coupler (s : State) (i : PathIx) (f : BuilderPath → BuilderPath) : (s.modBuilder i f).coupler = s.coupler := rfl
@[simp] theorem State.modBuilder_rx (s : State) (i : PathIx) (f : BuilderPath → BuilderPath) : (s.modBuilder i f).rx = s.rx := rfl
@[simp] theorem State.modBuilder_tx (s : State) (i : PathIx) (f : BuilderPath → BuilderPath) : (s.modBuilder i f).tx = s.tx := rfl
@[simp] theorem State.modBuilder_composite (s : State) (i : PathIx) (f : BuilderPath → BuilderPath) : (s.modBuilder i f).composite = s.composite := rfl
@[simp] theorem State.modBuilder_tuning (s : State) (i : PathIx) (f : BuilderPath → BuilderPath) : (s.modBuilder i f).tuning = s.tuning := rfl
@[simp] theorem State.modBuilder_framers (s : State) (i : PathIx) (f : BuilderPath → BuilderPath) : (s.modBuilder i f).framers = s.framers := rfl
@[simp] theorem State.modBuilder_survey (s : State) (i : PathIx) (f : BuilderPath → BuilderPath) : (s.modBuilder i f).survey = s.survey := rfl
@[simp] theorem State.modBuilder_neighbours (s : State) (i : PathIx) (f : BuilderPath → BuilderPath) : (s.modBuilder i f).neighbours = s.neighbours := rfl
@[simp] theorem State.modBuilder_neighbourOverflow (s : State) (i : PathIx) (f : BuilderPath → BuilderPath) : (s.modBuilder i f).neighbourOverflow = s.neighbourOverflow := rfl
@[simp] theorem State.modBuilder_sources (s : State) (i : PathIx) (f : BuilderPath → BuilderPath) : (s.modBuilder i f).sources = s.sources := rfl
@[simp] theorem State.modBuilder_slots (s : State) (i : PathIx) (f : BuilderPath → BuilderPath) : (s.modBuilder i f).slots = s.slots := rfl
@[simp] theorem State.modBuilder_waits (s : State) (i : PathIx) (f : BuilderPath → BuilderPath) : (s.modBuilder i f).waits = s.waits := rfl
@[simp] theorem State.modBuilder_pinnedCollision (s : State) (i : PathIx) (f : BuilderPath → BuilderPath) : (s.modBuilder i f).pinnedCollision = s.pinnedCollision := rfl
@[simp] theorem State.modBuilder_silentRelease (s : State) (i : PathIx) (f : BuilderPath → BuilderPath) : (s.modBuilder i f).silentRelease = s.silentRelease := rfl
@[simp] theorem State.modBuilder_paths (s : State) (i : PathIx) (f : BuilderPath → BuilderPath) : (s.modBuilder i f).paths = s.paths := rfl
@[simp] theorem State.modBuilder_gov (s : State) (i : PathIx) (f : BuilderPath → BuilderPath) : (s.modBuilder i f).gov = s.gov := rfl
@[simp] theorem State.modBuilder_mon (s : State) (i : PathIx) (f : BuilderPath → BuilderPath) : (s.modBuilder i f).mon = s.mon := rfl
@[simp] theorem State.modBuilder_lines (s : State) (i : PathIx) (f : BuilderPath → BuilderPath) : (s.modBuilder i f).lines = s.lines := rfl
@[simp] theorem State.modBuilder_status (s : State) (i : PathIx) (f : BuilderPath → BuilderPath) : (s.modBuilder i f).status = s.status := rfl

/-! ### A verdict written -/

@[simp] theorem State.setVerdict_pending (s : State) (i : PathIx) (v : Option Verdict) : (s.setVerdict i v).pending = s.pending := rfl
@[simp] theorem State.setVerdict_timing (s : State) (i : PathIx) (v : Option Verdict) : (s.setVerdict i v).timing = s.timing := rfl
@[simp] theorem State.setVerdict_params (s : State) (i : PathIx) (v : Option Verdict) : (s.setVerdict i v).params = s.params := rfl
@[simp] theorem State.setVerdict_carry (s : State) (i : PathIx) (v : Option Verdict) : (s.setVerdict i v).carry = s.carry := rfl
@[simp] theorem State.setVerdict_station (s : State) (i : PathIx) (v : Option Verdict) : (s.setVerdict i v).station = s.station := rfl
@[simp] theorem State.setVerdict_loader (s : State) (i : PathIx) (v : Option Verdict) : (s.setVerdict i v).loader = s.loader := rfl
@[simp] theorem State.setVerdict_band (s : State) (i : PathIx) (v : Option Verdict) : (s.setVerdict i v).band = s.band := rfl
@[simp] theorem State.setVerdict_coupler (s : State) (i : PathIx) (v : Option Verdict) : (s.setVerdict i v).coupler = s.coupler := rfl
@[simp] theorem State.setVerdict_rx (s : State) (i : PathIx) (v : Option Verdict) : (s.setVerdict i v).rx = s.rx := rfl
@[simp] theorem State.setVerdict_tx (s : State) (i : PathIx) (v : Option Verdict) : (s.setVerdict i v).tx = s.tx := rfl
@[simp] theorem State.setVerdict_composite (s : State) (i : PathIx) (v : Option Verdict) : (s.setVerdict i v).composite = s.composite := rfl
@[simp] theorem State.setVerdict_tuning (s : State) (i : PathIx) (v : Option Verdict) : (s.setVerdict i v).tuning = s.tuning := rfl
@[simp] theorem State.setVerdict_framers (s : State) (i : PathIx) (v : Option Verdict) : (s.setVerdict i v).framers = s.framers := rfl
@[simp] theorem State.setVerdict_builder (s : State) (i : PathIx) (v : Option Verdict) : (s.setVerdict i v).builder = s.builder := rfl
@[simp] theorem State.setVerdict_survey (s : State) (i : PathIx) (v : Option Verdict) : (s.setVerdict i v).survey = s.survey := rfl
@[simp] theorem State.setVerdict_neighbours (s : State) (i : PathIx) (v : Option Verdict) : (s.setVerdict i v).neighbours = s.neighbours := rfl
@[simp] theorem State.setVerdict_neighbourOverflow (s : State) (i : PathIx) (v : Option Verdict) : (s.setVerdict i v).neighbourOverflow = s.neighbourOverflow := rfl
@[simp] theorem State.setVerdict_sources (s : State) (i : PathIx) (v : Option Verdict) : (s.setVerdict i v).sources = s.sources := rfl
@[simp] theorem State.setVerdict_slots (s : State) (i : PathIx) (v : Option Verdict) : (s.setVerdict i v).slots = s.slots := rfl
@[simp] theorem State.setVerdict_waits (s : State) (i : PathIx) (v : Option Verdict) : (s.setVerdict i v).waits = s.waits := rfl
@[simp] theorem State.setVerdict_pinnedCollision (s : State) (i : PathIx) (v : Option Verdict) : (s.setVerdict i v).pinnedCollision = s.pinnedCollision := rfl
@[simp] theorem State.setVerdict_silentRelease (s : State) (i : PathIx) (v : Option Verdict) : (s.setVerdict i v).silentRelease = s.silentRelease := rfl
@[simp] theorem State.setVerdict_paths (s : State) (i : PathIx) (v : Option Verdict) : (s.setVerdict i v).paths = s.paths := rfl
@[simp] theorem State.setVerdict_gov (s : State) (i : PathIx) (v : Option Verdict) : (s.setVerdict i v).gov = s.gov := rfl
@[simp] theorem State.setVerdict_lines (s : State) (i : PathIx) (v : Option Verdict) : (s.setVerdict i v).lines = s.lines := rfl
@[simp] theorem State.setVerdict_status (s : State) (i : PathIx) (v : Option Verdict) : (s.setVerdict i v).status = s.status := rfl

/-! ### A framer changed -/

@[simp] theorem State.modFramer_pending (s : State) (ix : FramerIx) (f : Framer → Framer) : (s.modFramer ix f).pending = s.pending := by cases ix <;> rfl
@[simp] theorem State.modFramer_timing (s : State) (ix : FramerIx) (f : Framer → Framer) : (s.modFramer ix f).timing = s.timing := by cases ix <;> rfl
@[simp] theorem State.modFramer_params (s : State) (ix : FramerIx) (f : Framer → Framer) : (s.modFramer ix f).params = s.params := by cases ix <;> rfl
@[simp] theorem State.modFramer_carry (s : State) (ix : FramerIx) (f : Framer → Framer) : (s.modFramer ix f).carry = s.carry := by cases ix <;> rfl
@[simp] theorem State.modFramer_station (s : State) (ix : FramerIx) (f : Framer → Framer) : (s.modFramer ix f).station = s.station := by cases ix <;> rfl
@[simp] theorem State.modFramer_loader (s : State) (ix : FramerIx) (f : Framer → Framer) : (s.modFramer ix f).loader = s.loader := by cases ix <;> rfl
@[simp] theorem State.modFramer_band (s : State) (ix : FramerIx) (f : Framer → Framer) : (s.modFramer ix f).band = s.band := by cases ix <;> rfl
@[simp] theorem State.modFramer_coupler (s : State) (ix : FramerIx) (f : Framer → Framer) : (s.modFramer ix f).coupler = s.coupler := by cases ix <;> rfl
@[simp] theorem State.modFramer_rx (s : State) (ix : FramerIx) (f : Framer → Framer) : (s.modFramer ix f).rx = s.rx := by cases ix <;> rfl
@[simp] theorem State.modFramer_tx (s : State) (ix : FramerIx) (f : Framer → Framer) : (s.modFramer ix f).tx = s.tx := by cases ix <;> rfl
@[simp] theorem State.modFramer_composite (s : State) (ix : FramerIx) (f : Framer → Framer) : (s.modFramer ix f).composite = s.composite := by cases ix <;> rfl
@[simp] theorem State.modFramer_tuning (s : State) (ix : FramerIx) (f : Framer → Framer) : (s.modFramer ix f).tuning = s.tuning := by cases ix <;> rfl
@[simp] theorem State.modFramer_builder (s : State) (ix : FramerIx) (f : Framer → Framer) : (s.modFramer ix f).builder = s.builder := by cases ix <;> rfl
@[simp] theorem State.modFramer_neighbours (s : State) (ix : FramerIx) (f : Framer → Framer) : (s.modFramer ix f).neighbours = s.neighbours := by cases ix <;> rfl
@[simp] theorem State.modFramer_neighbourOverflow (s : State) (ix : FramerIx) (f : Framer → Framer) : (s.modFramer ix f).neighbourOverflow = s.neighbourOverflow := by cases ix <;> rfl
@[simp] theorem State.modFramer_sources (s : State) (ix : FramerIx) (f : Framer → Framer) : (s.modFramer ix f).sources = s.sources := by cases ix <;> rfl
@[simp] theorem State.modFramer_slots (s : State) (ix : FramerIx) (f : Framer → Framer) : (s.modFramer ix f).slots = s.slots := by cases ix <;> rfl
@[simp] theorem State.modFramer_waits (s : State) (ix : FramerIx) (f : Framer → Framer) : (s.modFramer ix f).waits = s.waits := by cases ix <;> rfl
@[simp] theorem State.modFramer_pinnedCollision (s : State) (ix : FramerIx) (f : Framer → Framer) : (s.modFramer ix f).pinnedCollision = s.pinnedCollision := by cases ix <;> rfl
@[simp] theorem State.modFramer_silentRelease (s : State) (ix : FramerIx) (f : Framer → Framer) : (s.modFramer ix f).silentRelease = s.silentRelease := by cases ix <;> rfl
@[simp] theorem State.modFramer_paths (s : State) (ix : FramerIx) (f : Framer → Framer) : (s.modFramer ix f).paths = s.paths := by cases ix <;> rfl
@[simp] theorem State.modFramer_gov (s : State) (ix : FramerIx) (f : Framer → Framer) : (s.modFramer ix f).gov = s.gov := by cases ix <;> rfl
@[simp] theorem State.modFramer_lines (s : State) (ix : FramerIx) (f : Framer → Framer) : (s.modFramer ix f).lines = s.lines := by cases ix <;> rfl
@[simp] theorem State.modFramer_status (s : State) (ix : FramerIx) (f : Framer → Framer) : (s.modFramer ix f).status = s.status := by cases ix <;> rfl

/-! ### Another queue of waiting commands -/

@[simp] theorem State.withPending_timing (s : State) (q : List Instr) : (s.withPending q).timing = s.timing := rfl
@[simp] theorem State.withPending_params (s : State) (q : List Instr) : (s.withPending q).params = s.params := rfl
@[simp] theorem State.withPending_carry (s : State) (q : List Instr) : (s.withPending q).carry = s.carry := rfl
@[simp] theorem State.withPending_station (s : State) (q : List Instr) : (s.withPending q).station = s.station := rfl
@[simp] theorem State.withPending_loader (s : State) (q : List Instr) : (s.withPending q).loader = s.loader := rfl
@[simp] theorem State.withPending_band (s : State) (q : List Instr) : (s.withPending q).band = s.band := rfl
@[simp] theorem State.withPending_coupler (s : State) (q : List Instr) : (s.withPending q).coupler = s.coupler := rfl
@[simp] theorem State.withPending_rx (s : State) (q : List Instr) : (s.withPending q).rx = s.rx := rfl
@[simp] theorem State.withPending_tx (s : State) (q : List Instr) : (s.withPending q).tx = s.tx := rfl
@[simp] theorem State.withPending_composite (s : State) (q : List Instr) : (s.withPending q).composite = s.composite := rfl
@[simp] theorem State.withPending_tuning (s : State) (q : List Instr) : (s.withPending q).tuning = s.tuning := rfl
@[simp] theorem State.withPending_framers (s : State) (q : List Instr) : (s.withPending q).framers = s.framers := rfl
@[simp] theorem State.withPending_builder (s : State) (q : List Instr) : (s.withPending q).builder = s.builder := rfl
@[simp] theorem State.withPending_survey (s : State) (q : List Instr) : (s.withPending q).survey = s.survey := rfl
@[simp] theorem State.withPending_neighbours (s : State) (q : List Instr) : (s.withPending q).neighbours = s.neighbours := rfl
@[simp] theorem State.withPending_neighbourOverflow (s : State) (q : List Instr) : (s.withPending q).neighbourOverflow = s.neighbourOverflow := rfl
@[simp] theorem State.withPending_sources (s : State) (q : List Instr) : (s.withPending q).sources = s.sources := rfl
@[simp] theorem State.withPending_slots (s : State) (q : List Instr) : (s.withPending q).slots = s.slots := rfl
@[simp] theorem State.withPending_waits (s : State) (q : List Instr) : (s.withPending q).waits = s.waits := rfl
@[simp] theorem State.withPending_pinnedCollision (s : State) (q : List Instr) : (s.withPending q).pinnedCollision = s.pinnedCollision := rfl
@[simp] theorem State.withPending_silentRelease (s : State) (q : List Instr) : (s.withPending q).silentRelease = s.silentRelease := rfl
@[simp] theorem State.withPending_paths (s : State) (q : List Instr) : (s.withPending q).paths = s.paths := rfl
@[simp] theorem State.withPending_gov (s : State) (q : List Instr) : (s.withPending q).gov = s.gov := rfl
@[simp] theorem State.withPending_mon (s : State) (q : List Instr) : (s.withPending q).mon = s.mon := rfl
@[simp] theorem State.withPending_lines (s : State) (q : List Instr) : (s.withPending q).lines = s.lines := rfl
@[simp] theorem State.withPending_status (s : State) (q : List Instr) : (s.withPending q).status = s.status := rfl

@[simp] theorem State.withPending_pending (s : State) (q : List Instr) : (s.withPending q).pending = q := rfl

/-! ### Readers after updates -/

@[simp] theorem State.path_modSlot (s : State) (k : Slot) (f : SlotEntry → SlotEntry) (j : PathIx) : (s.modSlot k f).path j = s.path j := rfl
@[simp] theorem State.path_modWait (s : State) (i : PathIx) (f : PathWait → PathWait) (j : PathIx) : (s.modWait i f).path j = s.path j := rfl
@[simp] theorem State.path_modRx (s : State) (i : PathIx) (f : RxSide → RxSide) (j : PathIx) : (s.modRx i f).path j = s.path j := rfl
@[simp] theorem State.path_modTx (s : State) (i : PathIx) (f : TxSide → TxSide) (j : PathIx) : (s.modTx i f).path j = s.path j := rfl
@[simp] theorem State.path_modBuilder (s : State) (i : PathIx) (f : BuilderPath → BuilderPath) (j : PathIx) : (s.modBuilder i f).path j = s.path j := rfl
@[simp] theorem State.path_setVerdict (s : State) (i : PathIx) (v : Option Verdict) (j : PathIx) : (s.setVerdict i v).path j = s.path j := rfl
@[simp] theorem State.path_withPending (s : State) (q : List Instr) (j : PathIx) : (s.withPending q).path j = s.path j := rfl
@[simp] theorem State.slot_modPath (s : State) (i : PathIx) (f : PathRec → PathRec) (j : Slot) : (s.modPath i f).slot j = s.slot j := rfl
@[simp] theorem State.slot_modWait (s : State) (i : PathIx) (f : PathWait → PathWait) (j : Slot) : (s.modWait i f).slot j = s.slot j := rfl
@[simp] theorem State.slot_modRx (s : State) (i : PathIx) (f : RxSide → RxSide) (j : Slot) : (s.modRx i f).slot j = s.slot j := rfl
@[simp] theorem State.slot_modTx (s : State) (i : PathIx) (f : TxSide → TxSide) (j : Slot) : (s.modTx i f).slot j = s.slot j := rfl
@[simp] theorem State.slot_modBuilder (s : State) (i : PathIx) (f : BuilderPath → BuilderPath) (j : Slot) : (s.modBuilder i f).slot j = s.slot j := rfl
@[simp] theorem State.slot_setVerdict (s : State) (i : PathIx) (v : Option Verdict) (j : Slot) : (s.setVerdict i v).slot j = s.slot j := rfl
@[simp] theorem State.slot_withPending (s : State) (q : List Instr) (j : Slot) : (s.withPending q).slot j = s.slot j := rfl
@[simp] theorem State.wait_modPath (s : State) (i : PathIx) (f : PathRec → PathRec) (j : PathIx) : (s.modPath i f).wait j = s.wait j := rfl
@[simp] theorem State.wait_modSlot (s : State) (k : Slot) (f : SlotEntry → SlotEntry) (j : PathIx) : (s.modSlot k f).wait j = s.wait j := rfl
@[simp] theorem State.wait_modRx (s : State) (i : PathIx) (f : RxSide → RxSide) (j : PathIx) : (s.modRx i f).wait j = s.wait j := rfl
@[simp] theorem State.wait_modTx (s : State) (i : PathIx) (f : TxSide → TxSide) (j : PathIx) : (s.modTx i f).wait j = s.wait j := rfl
@[simp] theorem State.wait_modBuilder (s : State) (i : PathIx) (f : BuilderPath → BuilderPath) (j : PathIx) : (s.modBuilder i f).wait j = s.wait j := rfl
@[simp] theorem State.wait_setVerdict (s : State) (i : PathIx) (v : Option Verdict) (j : PathIx) : (s.setVerdict i v).wait j = s.wait j := rfl
@[simp] theorem State.wait_withPending (s : State) (q : List Instr) (j : PathIx) : (s.withPending q).wait j = s.wait j := rfl
@[simp] theorem State.rxSide_modPath (s : State) (i : PathIx) (f : PathRec → PathRec) (j : PathIx) : (s.modPath i f).rxSide j = s.rxSide j := rfl
@[simp] theorem State.rxSide_modSlot (s : State) (k : Slot) (f : SlotEntry → SlotEntry) (j : PathIx) : (s.modSlot k f).rxSide j = s.rxSide j := rfl
@[simp] theorem State.rxSide_modWait (s : State) (i : PathIx) (f : PathWait → PathWait) (j : PathIx) : (s.modWait i f).rxSide j = s.rxSide j := rfl
@[simp] theorem State.rxSide_modTx (s : State) (i : PathIx) (f : TxSide → TxSide) (j : PathIx) : (s.modTx i f).rxSide j = s.rxSide j := rfl
@[simp] theorem State.rxSide_modBuilder (s : State) (i : PathIx) (f : BuilderPath → BuilderPath) (j : PathIx) : (s.modBuilder i f).rxSide j = s.rxSide j := rfl
@[simp] theorem State.rxSide_setVerdict (s : State) (i : PathIx) (v : Option Verdict) (j : PathIx) : (s.setVerdict i v).rxSide j = s.rxSide j := rfl
@[simp] theorem State.rxSide_withPending (s : State) (q : List Instr) (j : PathIx) : (s.withPending q).rxSide j = s.rxSide j := rfl
@[simp] theorem State.txSide_modPath (s : State) (i : PathIx) (f : PathRec → PathRec) (j : PathIx) : (s.modPath i f).txSide j = s.txSide j := rfl
@[simp] theorem State.txSide_modSlot (s : State) (k : Slot) (f : SlotEntry → SlotEntry) (j : PathIx) : (s.modSlot k f).txSide j = s.txSide j := rfl
@[simp] theorem State.txSide_modWait (s : State) (i : PathIx) (f : PathWait → PathWait) (j : PathIx) : (s.modWait i f).txSide j = s.txSide j := rfl
@[simp] theorem State.txSide_modRx (s : State) (i : PathIx) (f : RxSide → RxSide) (j : PathIx) : (s.modRx i f).txSide j = s.txSide j := rfl
@[simp] theorem State.txSide_modBuilder (s : State) (i : PathIx) (f : BuilderPath → BuilderPath) (j : PathIx) : (s.modBuilder i f).txSide j = s.txSide j := rfl
@[simp] theorem State.txSide_setVerdict (s : State) (i : PathIx) (v : Option Verdict) (j : PathIx) : (s.setVerdict i v).txSide j = s.txSide j := rfl
@[simp] theorem State.txSide_withPending (s : State) (q : List Instr) (j : PathIx) : (s.withPending q).txSide j = s.txSide j := rfl
@[simp] theorem State.builderPath_modPath (s : State) (i : PathIx) (f : PathRec → PathRec) (j : PathIx) : (s.modPath i f).builderPath j = s.builderPath j := rfl
@[simp] theorem State.builderPath_modSlot (s : State) (k : Slot) (f : SlotEntry → SlotEntry) (j : PathIx) : (s.modSlot k f).builderPath j = s.builderPath j := rfl
@[simp] theorem State.builderPath_modWait (s : State) (i : PathIx) (f : PathWait → PathWait) (j : PathIx) : (s.modWait i f).builderPath j = s.builderPath j := rfl
@[simp] theorem State.builderPath_modRx (s : State) (i : PathIx) (f : RxSide → RxSide) (j : PathIx) : (s.modRx i f).builderPath j = s.builderPath j := rfl
@[simp] theorem State.builderPath_modTx (s : State) (i : PathIx) (f : TxSide → TxSide) (j : PathIx) : (s.modTx i f).builderPath j = s.builderPath j := rfl
@[simp] theorem State.builderPath_setVerdict (s : State) (i : PathIx) (v : Option Verdict) (j : PathIx) : (s.setVerdict i v).builderPath j = s.builderPath j := rfl
@[simp] theorem State.builderPath_withPending (s : State) (q : List Instr) (j : PathIx) : (s.withPending q).builderPath j = s.builderPath j := rfl
@[simp] theorem State.carryOf_modPath (s : State) (i : PathIx) (f : PathRec → PathRec) (j : PathIx) : (s.modPath i f).carryOf j = s.carryOf j := rfl
@[simp] theorem State.carryOf_modSlot (s : State) (k : Slot) (f : SlotEntry → SlotEntry) (j : PathIx) : (s.modSlot k f).carryOf j = s.carryOf j := rfl
@[simp] theorem State.carryOf_modWait (s : State) (i : PathIx) (f : PathWait → PathWait) (j : PathIx) : (s.modWait i f).carryOf j = s.carryOf j := rfl
@[simp] theorem State.carryOf_modRx (s : State) (i : PathIx) (f : RxSide → RxSide) (j : PathIx) : (s.modRx i f).carryOf j = s.carryOf j := rfl
@[simp] theorem State.carryOf_modTx (s : State) (i : PathIx) (f : TxSide → TxSide) (j : PathIx) : (s.modTx i f).carryOf j = s.carryOf j := rfl
@[simp] theorem State.carryOf_modBuilder (s : State) (i : PathIx) (f : BuilderPath → BuilderPath) (j : PathIx) : (s.modBuilder i f).carryOf j = s.carryOf j := rfl
@[simp] theorem State.carryOf_setVerdict (s : State) (i : PathIx) (v : Option Verdict) (j : PathIx) : (s.setVerdict i v).carryOf j = s.carryOf j := rfl
@[simp] theorem State.carryOf_withPending (s : State) (q : List Instr) (j : PathIx) : (s.withPending q).carryOf j = s.carryOf j := rfl
@[simp] theorem State.amplitude_modPath (s : State) (i : PathIx) (f : PathRec → PathRec) (j : PathIx) : (s.modPath i f).amplitude j = s.amplitude j := rfl
@[simp] theorem State.amplitude_modSlot (s : State) (k : Slot) (f : SlotEntry → SlotEntry) (j : PathIx) : (s.modSlot k f).amplitude j = s.amplitude j := rfl
@[simp] theorem State.amplitude_modWait (s : State) (i : PathIx) (f : PathWait → PathWait) (j : PathIx) : (s.modWait i f).amplitude j = s.amplitude j := rfl
@[simp] theorem State.amplitude_modRx (s : State) (i : PathIx) (f : RxSide → RxSide) (j : PathIx) : (s.modRx i f).amplitude j = s.amplitude j := rfl
@[simp] theorem State.amplitude_modTx (s : State) (i : PathIx) (f : TxSide → TxSide) (j : PathIx) : (s.modTx i f).amplitude j = s.amplitude j := rfl
@[simp] theorem State.amplitude_modBuilder (s : State) (i : PathIx) (f : BuilderPath → BuilderPath) (j : PathIx) : (s.modBuilder i f).amplitude j = s.amplitude j := rfl
@[simp] theorem State.amplitude_setVerdict (s : State) (i : PathIx) (v : Option Verdict) (j : PathIx) : (s.setVerdict i v).amplitude j = s.amplitude j := rfl
@[simp] theorem State.amplitude_withPending (s : State) (q : List Instr) (j : PathIx) : (s.withPending q).amplitude j = s.amplitude j := rfl
@[simp] theorem State.now_modPath (s : State) (i : PathIx) (f : PathRec → PathRec) : (s.modPath i f).now = s.now := rfl
@[simp] theorem State.now_modSlot (s : State) (k : Slot) (f : SlotEntry → SlotEntry) : (s.modSlot k f).now = s.now := rfl
@[simp] theorem State.now_modWait (s : State) (i : PathIx) (f : PathWait → PathWait) : (s.modWait i f).now = s.now := rfl
@[simp] theorem State.now_modRx (s : State) (i : PathIx) (f : RxSide → RxSide) : (s.modRx i f).now = s.now := rfl
@[simp] theorem State.now_modTx (s : State) (i : PathIx) (f : TxSide → TxSide) : (s.modTx i f).now = s.now := rfl
@[simp] theorem State.now_modBuilder (s : State) (i : PathIx) (f : BuilderPath → BuilderPath) : (s.modBuilder i f).now = s.now := rfl
@[simp] theorem State.now_setVerdict (s : State) (i : PathIx) (v : Option Verdict) : (s.setVerdict i v).now = s.now := rfl
@[simp] theorem State.now_withPending (s : State) (q : List Instr) : (s.withPending q).now = s.now := rfl

/-! ### A reader of the table that an update changes -/

@[simp] theorem State.path_modPath_self (s : State) (i : PathIx) (f : PathRec → PathRec) : (s.modPath i f).path i = f (s.path i) := by
  simp [State.path, State.modPath, upd]
theorem State.path_modPath_ne (s : State) (i : PathIx) (f : PathRec → PathRec) {j : PathIx} (h : j ≠ i) : (s.modPath i f).path j = s.path j := by
  have h' : i.val ≠ j.val := fun e => h (Fin.ext e.symm)
  simp [State.path, State.modPath, upd, h']
@[simp] theorem State.slot_modSlot_self (s : State) (k : Slot) (f : SlotEntry → SlotEntry) : (s.modSlot k f).slot k = f (s.slot k) := by
  simp [State.slot, State.modSlot, upd]
theorem State.slot_modSlot_ne (s : State) (k : Slot) (f : SlotEntry → SlotEntry) {j : Slot} (h : j ≠ k) : (s.modSlot k f).slot j = s.slot j := by
  have h' : k.val ≠ j.val := fun e => h (Fin.ext e.symm)
  simp [State.slot, State.modSlot, upd, h']
@[simp] theorem State.wait_modWait_self (s : State) (i : PathIx) (f : PathWait → PathWait) : (s.modWait i f).wait i = f (s.wait i) := by
  simp [State.wait, State.modWait, upd]
theorem State.wait_modWait_ne (s : State) (i : PathIx) (f : PathWait → PathWait) {j : PathIx} (h : j ≠ i) : (s.modWait i f).wait j = s.wait j := by
  have h' : i.val ≠ j.val := fun e => h (Fin.ext e.symm)
  simp [State.wait, State.modWait, upd, h']
@[simp] theorem State.rxSide_modRx_self (s : State) (i : PathIx) (f : RxSide → RxSide) : (s.modRx i f).rxSide i = f (s.rxSide i) := by
  simp [State.rxSide, State.modRx, upd]
theorem State.rxSide_modRx_ne (s : State) (i : PathIx) (f : RxSide → RxSide) {j : PathIx} (h : j ≠ i) : (s.modRx i f).rxSide j = s.rxSide j := by
  have h' : i.val ≠ j.val := fun e => h (Fin.ext e.symm)
  simp [State.rxSide, State.modRx, upd, h']
@[simp] theorem State.txSide_modTx_self (s : State) (i : PathIx) (f : TxSide → TxSide) : (s.modTx i f).txSide i = f (s.txSide i) := by
  simp [State.txSide, State.modTx, upd]
theorem State.txSide_modTx_ne (s : State) (i : PathIx) (f : TxSide → TxSide) {j : PathIx} (h : j ≠ i) : (s.modTx i f).txSide j = s.txSide j := by
  have h' : i.val ≠ j.val := fun e => h (Fin.ext e.symm)
  simp [State.txSide, State.modTx, upd, h']
@[simp] theorem State.builderPath_modBuilder_self (s : State) (i : PathIx) (f : BuilderPath → BuilderPath) : (s.modBuilder i f).builderPath i = f (s.builderPath i) := by
  simp [State.builderPath, State.modBuilder, upd]
theorem State.builderPath_modBuilder_ne (s : State) (i : PathIx) (f : BuilderPath → BuilderPath) {j : PathIx} (h : j ≠ i) : (s.modBuilder i f).builderPath j = s.builderPath j := by
  have h' : i.val ≠ j.val := fun e => h (Fin.ext e.symm)
  simp [State.builderPath, State.modBuilder, upd, h']

end Sys2Proof.Machine
end

