-- ==== Sys2Proof/Laws/Ops.lean ====
section
/-! SUPPORT. What the shared operations do, each said once: vectors, indices, deadlines, slot words, folds over the paths
and the slots. -/

namespace Sys2Proof.Machine

open Sys2Proof

/-! ### Indices and vectors -/

theorem mem_indices {n : Nat} (i : Fin n) : i ∈ indices n := by
  induction n with
  | zero => exact i.elim0
  | succ n ih =>
    refine Fin.cases ?_ (fun j => ?_) i
    · simp [indices]
    · simp only [indices, List.mem_cons, List.mem_map]
      exact Or.inr ⟨j, ih j, rfl⟩

theorem indices_nodup (n : Nat) : (indices n).Nodup := by
  induction n with
  | zero => simp [indices]
  | succ n ih =>
    refine List.nodup_cons.mpr ⟨?_, ih.map (Fin.succ_injective n)⟩
    simp only [List.mem_map, not_exists, not_and]
    exact fun j _ h => Fin.succ_ne_zero j h

theorem indices_length (n : Nat) : (indices n).length = n := by
  induction n with
  | zero => rfl
  | succ n ih => simp [indices, ih]

@[simp] theorem upd_get_self {α : Type} {n : Nat} (v : Vector α n) (i : Fin n) (f : α → α) :
    (upd v i f)[i.val] = f v[i.val] := by simp [upd]

theorem upd_get_ne {α : Type} {n : Nat} (v : Vector α n) (i j : Fin n) (f : α → α) (h : j ≠ i) :
    (upd v i f)[j.val] = v[j.val] := by
  have h' : i.val ≠ j.val := fun e => h (Fin.ext e.symm)
  simp [upd, h']

@[simp] theorem updAll_get {α : Type} {n : Nat} (v : Vector α n) (f : Fin n → α → α) (i : Fin n) :
    (updAll v f)[i.val] = f i v[i.val] := by simp [updAll]

/-- Two vectors that agree at every index are equal. -/
theorem vector_ext_fin {α : Type} {n : Nat} {v w : Vector α n} (h : ∀ i : Fin n, v[i.val] = w[i.val]) : v = w :=
  Vector.ext (fun i hi => h ⟨i, hi⟩)

/-! ### Folds over the paths and the slots -/

/-- What every turn keeps, a run over the paths keeps. -/
theorem forPaths_keeps {P : State → Prop} {f : PathIx → State → State} (h : ∀ i s, P s → P (f i s)) {s : State}
    (hs : P s) : P (forPaths f s) := by
  unfold forPaths
  induction indices 12 generalizing s with
  | nil => exact hs
  | cons i l ih => exact ih (h i s hs)

/-- What every turn keeps, a run over the slots keeps. -/
theorem forSlots_keeps {P : State → Prop} {f : Slot → State → State} (h : ∀ k s, P s → P (f k s)) {s : State}
    (hs : P s) : P (forSlots f s) := by
  unfold forSlots
  induction indices 64 generalizing s with
  | nil => exact hs
  | cons k l ih => exact ih (h k s hs)

/-- A run over a list of turns keeps what every turn keeps. -/
theorem foldl_keeps {α : Type} {P : State → Prop} {f : State → α → State} (h : ∀ s a, P s → P (f s a)) (l : List α)
    {s : State} (hs : P s) : P (l.foldl f s) := by
  induction l generalizing s with
  | nil => exact hs
  | cons a l ih => exact ih (h s a hs)

/-- A run of turns that each act on their own part r of the state alone: the part of a turn in the list is what that
turn made of it, the part of any other is untouched. -/
theorem foldl_pointwise {ι β : Type} [DecidableEq ι] (r : State → ι → β) (f : ι → State → State) (g : ι → β → β)
    (hself : ∀ i s, r (f i s) i = g i (r s i)) (hne : ∀ i j s, j ≠ i → r (f i s) j = r s j) (l : List ι)
    (hl : l.Nodup) (s : State) (i : ι) :
    r (l.foldl (fun t j => f j t) s) i = if i ∈ l then g i (r s i) else r s i := by
  induction l generalizing s with
  | nil => simp
  | cons a l ih =>
    obtain ⟨ha, hl'⟩ := List.nodup_cons.mp hl
    rw [List.foldl_cons, ih hl']
    by_cases hi : i = a
    · subst hi; simp [ha, hself]
    · simp [hi, hne a i s hi]

/-- A run over the paths whose turn i acts on part i alone acts on every part once. -/
theorem forPaths_pointwise {β : Type} (r : State → PathIx → β) (f : PathIx → State → State) (g : PathIx → β → β)
    (hself : ∀ i s, r (f i s) i = g i (r s i)) (hne : ∀ i j s, j ≠ i → r (f i s) j = r s j) (s : State) (i : PathIx) :
    r (forPaths f s) i = g i (r s i) := by
  have h := foldl_pointwise r f g hself hne (indices 12) (indices_nodup 12) s i
  rw [if_pos (mem_indices i)] at h
  exact h

/-- A run over the slots whose turn k acts on part k alone acts on every part once. -/
theorem forSlots_pointwise {β : Type} (r : State → Slot → β) (f : Slot → State → State) (g : Slot → β → β)
    (hself : ∀ k s, r (f k s) k = g k (r s k)) (hne : ∀ k j s, j ≠ k → r (f k s) j = r s j) (s : State) (k : Slot) :
    r (forSlots f s) k = g k (r s k) := by
  have h := foldl_pointwise r f g hself hne (indices 64) (indices_nodup 64) s k
  rw [if_pos (mem_indices k)] at h
  exact h

/-! ### Deadlines and ages -/

@[simp] theorem reached_self (t : Time) : reached t t = true := by simp [reached]

@[simp] theorem age_self (t : Time) : age t t = 0 := by simp [age]

@[simp] theorem dueAt_none (t : Time) : dueAt t none = false := rfl

@[simp] theorem dueAt_some (t d : Time) : dueAt t (some d) = reached t d := rfl

/-- A deadline less than 2^31 ms ahead is not reached before its time. -/
theorem reached_later (t : Time) {n : Nat} (h0 : 0 < n) (h : n < 2147483648) : reached t (later t n) = false := by
  have hx : t - later t n = -BitVec.ofNat 32 n := by unfold later; bv_omega
  unfold reached
  rw [hx, BitVec.toInt_eq_toNat_cond, BitVec.toNat_neg, BitVec.toNat_ofNat]
  simp only [decide_eq_false_iff_not, not_le]
  split <;> omega

/-! ### Slots -/

/-- Two slots have different words, so a side's word names its slot (R1). -/
theorem slotWord_injective : ∀ a b : Slot, slotWord a = slotWord b → a = b := by decide +kernel

/-- The slot heard on a slot's word is that slot (R42). -/
@[simp] theorem heardSlot_slotWord : ∀ k : Slot, heardSlot (slotWord k) = k := by decide +kernel

/-- Being within the guard distance goes both ways (0.7). -/
theorem withinGuard_comm (g : Nat) (a b : Slot) : withinGuard g a b = withinGuard g b a := by
  simp [withinGuard, Bool.and_comm]

/-- Every slot is within the guard distance of itself. -/
@[simp] theorem withinGuard_self (g : Nat) (a : Slot) : withinGuard g a a = true := by simp [withinGuard]

/-- The guard distance bounds the distance of slot numbers. -/
theorem withinGuard_iff (g : Nat) (a b : Slot) : withinGuard g a b = true ↔ slotDistance a b ≤ g := by
  simp [withinGuard, slotDistance]; omega

end Sys2Proof.Machine
end

