-- ==== Sys2Proof/Laws/Frames.lean ====
section
/-! SUPPORT. What the acts of the path controller, the slot claim table and the source table leave alone (ActFrame): said
once for each act, so that a proof about a command cites it and unfolds no act. -/

namespace Sys2Proof.Machine

open Sys2Proof

theorem ActFrame.rfl' (s : State) : ActFrame s s := rfl

theorem ActFrame.trans {s t u : State} (h : ActFrame s t) (g : ActFrame t u) : ActFrame s u := by
  unfold ActFrame at *
  rw [g, h]

/-! ### Updates -/

theorem modPath_act (s : State) (i : PathIx) (f : PathRec → PathRec) : ActFrame s (s.modPath i f) := rfl
theorem modSlot_act (s : State) (k : Slot) (f : SlotEntry → SlotEntry) : ActFrame s (s.modSlot k f) := rfl
theorem modWait_act (s : State) (i : PathIx) (f : PathWait → PathWait) : ActFrame s (s.modWait i f) := rfl
theorem setVerdict_act (s : State) (i : PathIx) (v : Option Verdict) : ActFrame s (s.setVerdict i v) := rfl
theorem recordEvent_act (s : State) (i : PathIx) (e : PathEvent) : ActFrame s (recordEvent i e s) := rfl
theorem tuneRequest_act (s : State) (i : PathIx) (d : Side) (k : Slot) : ActFrame s (tuneRequest i d k s) := rfl
theorem tuneCancel_act (s : State) (i : PathIx) (d : Option Side) : ActFrame s (tuneCancel i d s) := rfl
theorem modSource_act (s : State) (k : Slot) (st : StationId) (f : Source → Source) : ActFrame s (modSource k st f s) :=
  rfl
theorem penalise_act (s : State) (k : Slot) (st : StationId) : ActFrame s (penalise k st s) := rfl
theorem pinnedUpdate_act (s : State) : ActFrame s (pinnedUpdate s) := rfl
theorem claimMarks_act (s : State) (i : PathIx) : ActFrame s (claimMarks i s) := rfl
theorem refuseClaim_act (s : State) (i : PathIx) : ActFrame s (refuseClaim i s) := rfl
theorem startRetry_act (s : State) (i : PathIx) : ActFrame s (startRetry i s) := rfl
theorem collisionTest_act (s : State) (k : Slot) : ActFrame s (collisionTest k s) := rfl
theorem restartCollision_act (s : State) (k : Slot) : ActFrame s (restartCollision k s) := rfl
theorem slots_act (s : State) (v : Vector SlotEntry 64) : ActFrame s { s with slots := v } := rfl
theorem sources_act (s : State) (es : List Source) : ActFrame s { s with sources := es } := rfl
theorem silentFlags_act (s : State) (a b : Bool) : ActFrame s { s with silentRelease := a, pinnedCollision := b } := rfl
theorem releaseClaim_act (s : State) (i : PathIx) : ActFrame s (releaseClaim i s) :=
  (slots_act s _).trans (pinnedUpdate_act _)
theorem clearSource_act (s : State) (i : PathIx) : ActFrame s (clearSource i s) := rfl
theorem startHoldover_act (s : State) (i : PathIx) : ActFrame s (startHoldover i s) := rfl

theorem forPaths_act {f : PathIx → State → State} (h : ∀ i s, ActFrame s (f i s)) (s : State) :
    ActFrame s (forPaths f s) :=
  forPaths_keeps (P := ActFrame s) (fun i t ht => ht.trans (h i t)) (ActFrame.rfl' s)

theorem forSlots_act {f : Slot → State → State} (h : ∀ k s, ActFrame s (f k s)) (s : State) :
    ActFrame s (forSlots f s) :=
  forSlots_keeps (P := ActFrame s) (fun k t ht => ht.trans (h k t)) (ActFrame.rfl' s)

/-! ### Conditions and outputs -/

theorem cutVisitOf_act (s : State) (i : PathIx) : ActFrame s (cutVisitOf i s) := by
  unfold cutVisitOf; split
  · rfl
  · split <;> rfl

theorem keyUpdate_act (s : State) : ActFrame s (keyUpdate s) := by
  unfold keyUpdate; split
  · rfl
  · split <;> rfl

theorem turnCond_act (s : State) (i : PathIx) (c : Cond) : ActFrame s (turnCond i c s) := by
  unfold turnCond; dsimp only
  refine ((modPath_act s i (fun p => { p with cond := c })).trans (cutVisitOf_act _ i)).trans ?_
  split
  · exact (setVerdict_act _ _ _).trans (keyUpdate_act _)
  · exact keyUpdate_act _

theorem refreshPath_act (s : State) (i : PathIx) : ActFrame s (refreshPath i s) := by
  unfold refreshPath; dsimp only; split
  · rfl
  · exact turnCond_act s i _

theorem refreshAll_act (s : State) : ActFrame s (refreshAll s) := forPaths_act (fun i t => refreshPath_act t i) s

theorem movePath_act (s : State) (i : PathIx) (st : PathState) : ActFrame s (movePath i st s) :=
  (modPath_act s i _).trans (refreshPath_act _ i)

theorem setOutput_act (s : State) (i : PathIx) (o : Option Slot) : ActFrame s (setOutput i o s) := by
  unfold setOutput; dsimp only; split
  · rfl
  · exact (modPath_act s i _).trans (cutVisitOf_act _ i)

theorem clearOutput_act (s : State) (i : PathIx) : ActFrame s (clearOutput i s) :=
  (setOutput_act s i none).trans (modPath_act _ i _)

theorem settleCancel_act (s : State) (i : PathIx) : ActFrame s (settleCancel i s) := by
  unfold settleCancel; split <;> rfl

theorem dropOutput_act (s : State) (i : PathIx) : ActFrame s (dropOutput i s) :=
  (clearOutput_act s i).trans (tuneCancel_act _ i _)

theorem loseOutput_act (s : State) (c : Nat) (i : PathIx) : ActFrame s (loseOutput c i s) := by
  unfold loseOutput; split
  · exact dropOutput_act s i
  · exact (clearOutput_act s i).trans (modPath_act _ i _)

theorem slotLost_act (s : State) (c : Nat) (i : PathIx) (e : PathEvent) : ActFrame s (slotLost c i e s) :=
  (((loseOutput_act s c i).trans (modPath_act _ i _)).trans (recordEvent_act _ i e)).trans (movePath_act _ i _)

/-! ### Cancellations that are owed -/

theorem takeCancels_act (s : State) : ActFrame s (takeCancels s) := rfl

@[simp] theorem takeCancels_path (s : State) (i : PathIx) :
    (takeCancels s).path i = { s.path i with cancelOwed := (s.path i).cancelOwed - 1 } := by
  simp [takeCancels, State.path]

/-- An entry stands unless it is a transmit entry of a path whose cancellation falls due (R19, R20). -/
theorem mem_takeCancels {s : State} {e : TuneEntry} :
    e ∈ (takeCancels s).tuning ↔ e ∈ s.tuning ∧ ¬(e.side = .transmit ∧ (s.path e.path).cancelOwed = 1) := by
  simp [takeCancels, cancelDue, List.mem_filter, imp_iff_not_or]

theorem settleCancel_of_clear {s : State} {i : PathIx} (h : (s.path i).cancelOwed = 0) : settleCancel i s = s := by
  simp [settleCancel, h]

theorem settleCancel_of_owed {s : State} {i : PathIx} (h : (s.path i).cancelOwed ≠ 0) :
    settleCancel i s = (tuneCancel i (some .transmit) s).modPath i (fun p => { p with cancelOwed := 0 }) := by
  simp [settleCancel, h]

/-- TUNING_ENTRY_APPLIED takes the head of the queue, and then the cancellations that fall due behind it (R18, R19). -/
theorem tuningEntryApplied_due {s : State} (h : s.timing.tuningDue = true) :
    tuningEntryApplied s = takeCancels (takeTuningHead { s with timing := { s.timing with tuningDue := false } }) := by
  simp [tuningEntryApplied, h]

/-! ### The slot claim table -/

theorem loseToPeer_act (s : State) (c : Nat) (k : Slot) (e : PathEvent) : ActFrame s (loseToPeer c k e s) := by
  unfold loseToPeer; dsimp only; split
  · rfl
  · exact ((modSlot_act s k _).trans (slotLost_act _ c _ e)).trans (startRetry_act _ _)

theorem retestSlot_act (s : State) (c : Nat) (k : Slot) : ActFrame s (retestSlot c k s) := by
  unfold retestSlot; split
  · rfl
  · split
    · exact loseToPeer_act s c k _
    · rfl
  · rfl

theorem noticeWaiting_act (s : State) : ActFrame s (noticeWaiting s) := by
  refine forPaths_act (fun i t => ?_) s
  split <;> rfl

theorem noticeFreed_act (s t : State) : ActFrame t (noticeFreed s t) := by
  unfold noticeFreed; split
  · exact noticeWaiting_act t
  · rfl

theorem peerEvent_act (s : State) (c : Nat) (f : Slot → List Peer → List Peer) : ActFrame s (peerEvent c f s) := by
  unfold peerEvent; dsimp only
  refine ActFrame.trans ?_ (noticeFreed_act s _)
  refine ActFrame.trans ?_ (pinnedUpdate_act _)
  refine ActFrame.trans (slots_act s (updAll s.slots (fun k e => { e with peers := f k e.peers }))) ?_
  refine forSlots_act (fun k t => ?_) _
  split
  · rfl
  · exact retestSlot_act t c k

theorem takeOutput_act (s : State) (i : PathIx) (k : Slot) : ActFrame s (takeOutput i k s) :=
  (((settleCancel_act s i).trans (setOutput_act _ i _)).trans (modPath_act _ i _)).trans (tuneRequest_act _ i _ k)

theorem takeIntent_act (s : State) (i : PathIx) (k : Slot) : ActFrame s (takeIntent i k s) :=
  (((((modSlot_act s k _).trans (claimMarks_act _ i)).trans (takeOutput_act _ i k)).trans (movePath_act _ i _)).trans
    (pinnedUpdate_act _))

theorem takePinned_act (s : State) (i : PathIx) (k : Slot) : ActFrame s (takePinned i k s) :=
  ((((((modSlot_act s k _).trans (claimMarks_act _ i)).trans (takeOutput_act _ i k)).trans
    (recordEvent_act _ i _)).trans (movePath_act _ i _)).trans (pinnedUpdate_act _))

/-- A choose-and-claim request has one of three ends: refused, a pinned claim taken, an INTENT taken (R95). -/
theorem chooseAndClaim_cases (s : State) (i : PathIx) :
    chooseAndClaim i s = refuseClaim i s ∨
    (s.claimingPermitted = true ∧ holdsSlot s i = false ∧ (s.carryOf i).pinned = true ∧
      pinnedEligible s (s.carryOf i).preferred = true ∧
      chooseAndClaim i s = takePinned i (s.carryOf i).preferred s) ∨
    (s.claimingPermitted = true ∧ holdsSlot s i = false ∧
      ∃ k, nearestEligible s (s.carryOf i).preferred = some k ∧ chooseAndClaim i s = takeIntent i k s) := by
  unfold chooseAndClaim
  by_cases hp : s.claimingPermitted = true <;> by_cases hh : holdsSlot s i = true <;> simp [hp, hh]
  by_cases hq : (s.carryOf i).pinned = true ∧ pinnedEligible s (s.carryOf i).preferred = true
  · simp [hq]
  · rw [if_neg hq]
    cases hn : nearestEligible s (s.carryOf i).preferred with
    | none => simp
    | some k => right; right; simp

theorem chooseAndClaim_act (s : State) (i : PathIx) : ActFrame s (chooseAndClaim i s) := by
  obtain h | ⟨-, -, -, -, h⟩ | ⟨-, -, k, -, h⟩ := chooseAndClaim_cases s i <;> rw [h]
  · exact refuseClaim_act s i
  · exact takePinned_act s i _
  · exact takeIntent_act s i k

theorem serveMarks_act (s : State) : ActFrame s (serveMarks s) := by
  refine forPaths_act (fun i t => ?_) s
  split
  · exact chooseAndClaim_act t i
  · rfl

theorem silentReleaseAll_act (s : State) : ActFrame s (silentReleaseAll s) := by
  refine (forSlots_act (fun k t => ?_) s).trans (silentFlags_act _ true false)
  unfold silentSlot; split
  · rfl
  · dsimp only; split
    · rfl
    · exact (modSlot_act t k _).trans (slotLost_act _ _ _ _)

theorem takeClaims_act (s : State) (c : Nat) (st : StationId) (cs : List Claim) (h : Slot) :
    ActFrame s (takeClaims c st cs h s) :=
  (peerEvent_act s _ _).trans (serveMarks_act _)

theorem releaseStationClaims_act (s : State) (st : StationId) : ActFrame s (releaseStationClaims st s) :=
  (peerEvent_act s _ _).trans (serveMarks_act _)

/-! ### The path controller -/

theorem penaliseSelected_act (s : State) (i : PathIx) : ActFrame s (penaliseSelected i s) := by
  unfold penaliseSelected; split <;> rfl

theorem selectSource_act (s : State) (i : PathIx) (e : Source) (st : PathState) : ActFrame s (selectSource i e st s) := by
  unfold selectSource; dsimp only
  refine ActFrame.trans ?_ (serveMarks_act _)
  refine ActFrame.trans ?_ (noticeFreed_act s _)
  exact (ActFrame.trans (modPath_act s i _) ((tuneRequest_act _ i _ _).trans (recordEvent_act _ i _))).trans
    (movePath_act _ i _)

theorem acquireFail_act (s : State) (i : PathIx) : ActFrame s (acquireFail i s) := by
  unfold acquireFail; dsimp only
  refine ActFrame.trans ?_ (serveMarks_act _)
  refine ActFrame.trans ?_ (noticeFreed_act s _)
  have h : ActFrame s (recordEvent i .acquireFailed (clearSource i (penaliseSelected i s))) :=
    ((penaliseSelected_act s i).trans (clearSource_act _ i)).trans (recordEvent_act _ i _)
  split
  · exact (h.trans (startHoldover_act _ i)).trans (movePath_act _ i _)
  · exact h.trans (movePath_act _ i _)

theorem loseSource_act (s : State) (i : PathIx) : ActFrame s (loseSource i s) := by
  have h : ActFrame s (recordEvent i .sourceLost (clearSource i s)) :=
    (clearSource_act s i).trans (recordEvent_act _ i _)
  unfold loseSource; dsimp only; split
  · exact h.trans (movePath_act _ i _)
  · exact ((h.trans (releaseClaim_act _ i)).trans (dropOutput_act _ i)).trans (movePath_act _ i _)
  · exact (h.trans (modPath_act _ i _)).trans (movePath_act _ i _)
  all_goals rfl

theorem sourceLost_act (s : State) (i : PathIx) : ActFrame s (sourceLost i s) := by
  unfold sourceLost; split
  · rfl
  · split
    · exact acquireFail_act s i
    · split
      · exact ((loseSource_act s i).trans (noticeFreed_act s _)).trans (serveMarks_act _)
      · rfl

theorem noticeChanged_act (s : State) (e : Source) : ActFrame s (noticeChanged e s) := by
  refine forPaths_act (fun i t => ?_) s
  unfold takeChanged; split
  · split
    · exact sourceLost_act t i
    · rfl
  · rfl

theorem noticeRemoved_act (s : State) (e : Source) : ActFrame s (noticeRemoved s e) := by
  refine forPaths_act (fun i t => ?_) s
  unfold takeRemoved; split
  · exact sourceLost_act t i
  · rfl

theorem removeSources_act (s : State) (gone : Source → Bool) : ActFrame s (removeSources gone s) :=
  foldl_keeps (P := ActFrame s) (fun t e ht => ht.trans (noticeRemoved_act t e)) _ (sources_act s _)

theorem massRelease_act (s : State) (o : ReleaseOrder) (st : StationId) : ActFrame s (massRelease o st s) := by
  unfold massRelease; split
  · exact (releaseStationClaims_act s st).trans (removeSources_act _ _)
  · exact (removeSources_act s (fun e => e.station == st)).trans (releaseStationClaims_act _ st)

theorem acquire_act (s : State) (i : PathIx) : ActFrame s (acquire i s) := by
  unfold acquire; dsimp only; split
  · exact (((modPath_act s i _).trans (modPath_act _ i _)).trans (recordEvent_act _ i _)).trans (movePath_act _ i _)
  · exact (((modPath_act s i _).trans (recordEvent_act _ i _)).trans (movePath_act _ i _)).trans
      (chooseAndClaim_act _ i)

theorem takeGoodFrame_act (s : State) (i : PathIx) (st : StationId) (pr : ProgrammeId) (k : Slot) :
    ActFrame s (takeGoodFrame i st pr k s) := by
  unfold takeGoodFrame; split
  · split
    · split
      · exact acquire_act s i
      · rfl
    · split <;> rfl
  · rfl

theorem expireHoldover_act (s : State) (i : PathIx) : ActFrame s (expireHoldover i s) :=
  ((((modPath_act s i _).trans (releaseClaim_act _ i)).trans (dropOutput_act _ i)).trans (recordEvent_act _ i _)).trans
    (movePath_act _ i _)

end Sys2Proof.Machine
end

