-- ==== Sys2Proof/Laws/Levels.lean ====
section
/-! SUPPORT. What the derived levels' acts do to path records and what they leave alone (R126, R150, R156), and what an act
(ActFrame) leaves, field by field. -/

namespace Sys2Proof.Machine

open Sys2Proof

/-! ### Field by field: what an act of the path controller or of the slot claim table leaves -/

theorem ActFrame.pending_eq {s t : State} (h : ActFrame s t) : t.pending = s.pending := by rw [h]
theorem ActFrame.timing_eq {s t : State} (h : ActFrame s t) : t.timing = s.timing := by rw [h]
theorem ActFrame.params_eq {s t : State} (h : ActFrame s t) : t.params = s.params := by rw [h]
theorem ActFrame.carry_eq {s t : State} (h : ActFrame s t) : t.carry = s.carry := by rw [h]
theorem ActFrame.station_eq {s t : State} (h : ActFrame s t) : t.station = s.station := by rw [h]
theorem ActFrame.loader_eq {s t : State} (h : ActFrame s t) : t.loader = s.loader := by rw [h]
theorem ActFrame.band_eq {s t : State} (h : ActFrame s t) : t.band = s.band := by rw [h]
theorem ActFrame.coupler_eq {s t : State} (h : ActFrame s t) : t.coupler = s.coupler := by rw [h]
theorem ActFrame.rx_eq {s t : State} (h : ActFrame s t) : t.rx = s.rx := by rw [h]
theorem ActFrame.tx_eq {s t : State} (h : ActFrame s t) : t.tx = s.tx := by rw [h]
theorem ActFrame.composite_eq {s t : State} (h : ActFrame s t) : t.composite = s.composite := by rw [h]
theorem ActFrame.framers_eq {s t : State} (h : ActFrame s t) : t.framers = s.framers := by rw [h]
theorem ActFrame.builder_eq {s t : State} (h : ActFrame s t) : t.builder = s.builder := by rw [h]
theorem ActFrame.survey_eq {s t : State} (h : ActFrame s t) : t.survey = s.survey := by rw [h]
theorem ActFrame.neighbours_eq {s t : State} (h : ActFrame s t) : t.neighbours = s.neighbours := by rw [h]
theorem ActFrame.neighbourOverflow_eq {s t : State} (h : ActFrame s t) : t.neighbourOverflow = s.neighbourOverflow := by rw [h]
theorem ActFrame.gov_eq {s t : State} (h : ActFrame s t) : t.gov = s.gov := by rw [h]
theorem ActFrame.status_eq {s t : State} (h : ActFrame s t) : t.status = s.status := by rw [h]
theorem ActFrame.mon_rx_eq {s t : State} (h : ActFrame s t) : t.mon.rx = s.mon.rx := by rw [h]
theorem ActFrame.mon_framer_eq {s t : State} (h : ActFrame s t) : t.mon.framer = s.mon.framer := by rw [h]
theorem ActFrame.mon_visitPosition_eq {s t : State} (h : ActFrame s t) : t.mon.visitPosition = s.mon.visitPosition := by rw [h]
theorem ActFrame.mon_failureLog_eq {s t : State} (h : ActFrame s t) : t.mon.failureLog = s.mon.failureLog := by rw [h]
theorem ActFrame.mon_chainFault_eq {s t : State} (h : ActFrame s t) : t.mon.chainFault = s.mon.chainFault := by rw [h]
theorem ActFrame.lines_permit_eq {s t : State} (h : ActFrame s t) : t.lines.permit = s.lines.permit := by rw [h]
theorem ActFrame.lines_inhibitAlarmDeadline_eq {s t : State} (h : ActFrame s t) : t.lines.inhibitAlarmDeadline = s.lines.inhibitAlarmDeadline := by rw [h]
theorem ActFrame.lines_inhibitAlarm_eq {s t : State} (h : ActFrame s t) : t.lines.inhibitAlarm = s.lines.inhibitAlarm := by rw [h]
theorem ActFrame.lines_alarm_eq {s t : State} (h : ActFrame s t) : t.lines.alarm = s.lines.alarm := by rw [h]
theorem ActFrame.now_eq {s t : State} (h : ActFrame s t) : t.now = s.now := by rw [h]; rfl
theorem ActFrame.permitted_eq {s t : State} (h : ActFrame s t) : t.claimingPermitted = s.claimingPermitted := by rw [h]; rfl

/-! ### The tables that the derived levels leave -/

@[simp] theorem cutVisitOf_tuning (s : State) (i : PathIx) : (cutVisitOf i s).tuning = s.tuning := by
  unfold cutVisitOf; split
  · rfl
  · split <;> rfl
@[simp] theorem keyUpdate_tuning (s : State) : (keyUpdate s).tuning = s.tuning := by
  unfold keyUpdate; split
  · rfl
  · split <;> rfl
@[simp] theorem cutVisitOf_sources (s : State) (i : PathIx) : (cutVisitOf i s).sources = s.sources := by
  unfold cutVisitOf; split
  · rfl
  · split <;> rfl
@[simp] theorem keyUpdate_sources (s : State) : (keyUpdate s).sources = s.sources := by
  unfold keyUpdate; split
  · rfl
  · split <;> rfl
@[simp] theorem cutVisitOf_slots (s : State) (i : PathIx) : (cutVisitOf i s).slots = s.slots := by
  unfold cutVisitOf; split
  · rfl
  · split <;> rfl
@[simp] theorem keyUpdate_slots (s : State) : (keyUpdate s).slots = s.slots := by
  unfold keyUpdate; split
  · rfl
  · split <;> rfl
@[simp] theorem cutVisitOf_waits (s : State) (i : PathIx) : (cutVisitOf i s).waits = s.waits := by
  unfold cutVisitOf; split
  · rfl
  · split <;> rfl
@[simp] theorem keyUpdate_waits (s : State) : (keyUpdate s).waits = s.waits := by
  unfold keyUpdate; split
  · rfl
  · split <;> rfl
@[simp] theorem cutVisitOf_pinnedCollision (s : State) (i : PathIx) : (cutVisitOf i s).pinnedCollision = s.pinnedCollision := by
  unfold cutVisitOf; split
  · rfl
  · split <;> rfl
@[simp] theorem keyUpdate_pinnedCollision (s : State) : (keyUpdate s).pinnedCollision = s.pinnedCollision := by
  unfold keyUpdate; split
  · rfl
  · split <;> rfl
@[simp] theorem cutVisitOf_silentRelease (s : State) (i : PathIx) : (cutVisitOf i s).silentRelease = s.silentRelease := by
  unfold cutVisitOf; split
  · rfl
  · split <;> rfl
@[simp] theorem keyUpdate_silentRelease (s : State) : (keyUpdate s).silentRelease = s.silentRelease := by
  unfold keyUpdate; split
  · rfl
  · split <;> rfl
@[simp] theorem cutVisitOf_paths (s : State) (i : PathIx) : (cutVisitOf i s).paths = s.paths := by
  unfold cutVisitOf; split
  · rfl
  · split <;> rfl
@[simp] theorem keyUpdate_paths (s : State) : (keyUpdate s).paths = s.paths := by
  unfold keyUpdate; split
  · rfl
  · split <;> rfl
@[simp] theorem turnCond_tuning (s : State) (i : PathIx) (c : Cond) : (turnCond i c s).tuning = s.tuning := by
  unfold turnCond; dsimp only; split <;> simp
@[simp] theorem refreshPath_tuning (s : State) (i : PathIx) : (refreshPath i s).tuning = s.tuning := by
  unfold refreshPath; dsimp only; split <;> simp
@[simp] theorem movePath_tuning (s : State) (i : PathIx) (st : PathState) : (movePath i st s).tuning = s.tuning := by
  simp [movePath]
@[simp] theorem recordEvent_tuning (s : State) (i : PathIx) (e : PathEvent) : (recordEvent i e s).tuning = s.tuning := rfl
@[simp] theorem setOutput_tuning (s : State) (i : PathIx) (o : Option Slot) : (setOutput i o s).tuning = s.tuning := by
  unfold setOutput; dsimp only; split <;> simp
@[simp] theorem turnCond_sources (s : State) (i : PathIx) (c : Cond) : (turnCond i c s).sources = s.sources := by
  unfold turnCond; dsimp only; split <;> simp
@[simp] theorem refreshPath_sources (s : State) (i : PathIx) : (refreshPath i s).sources = s.sources := by
  unfold refreshPath; dsimp only; split <;> simp
@[simp] theorem movePath_sources (s : State) (i : PathIx) (st : PathState) : (movePath i st s).sources = s.sources := by
  simp [movePath]
@[simp] theorem recordEvent_sources (s : State) (i : PathIx) (e : PathEvent) : (recordEvent i e s).sources = s.sources := rfl
@[simp] theorem setOutput_sources (s : State) (i : PathIx) (o : Option Slot) : (setOutput i o s).sources = s.sources := by
  unfold setOutput; dsimp only; split <;> simp
@[simp] theorem turnCond_slots (s : State) (i : PathIx) (c : Cond) : (turnCond i c s).slots = s.slots := by
  unfold turnCond; dsimp only; split <;> simp
@[simp] theorem refreshPath_slots (s : State) (i : PathIx) : (refreshPath i s).slots = s.slots := by
  unfold refreshPath; dsimp only; split <;> simp
@[simp] theorem movePath_slots (s : State) (i : PathIx) (st : PathState) : (movePath i st s).slots = s.slots := by
  simp [movePath]
@[simp] theorem recordEvent_slots (s : State) (i : PathIx) (e : PathEvent) : (recordEvent i e s).slots = s.slots := rfl
@[simp] theorem setOutput_slots (s : State) (i : PathIx) (o : Option Slot) : (setOutput i o s).slots = s.slots := by
  unfold setOutput; dsimp only; split <;> simp
@[simp] theorem turnCond_waits (s : State) (i : PathIx) (c : Cond) : (turnCond i c s).waits = s.waits := by
  unfold turnCond; dsimp only; split <;> simp
@[simp] theorem refreshPath_waits (s : State) (i : PathIx) : (refreshPath i s).waits = s.waits := by
  unfold refreshPath; dsimp only; split <;> simp
@[simp] theorem movePath_waits (s : State) (i : PathIx) (st : PathState) : (movePath i st s).waits = s.waits := by
  simp [movePath]
@[simp] theorem recordEvent_waits (s : State) (i : PathIx) (e : PathEvent) : (recordEvent i e s).waits = s.waits := rfl
@[simp] theorem setOutput_waits (s : State) (i : PathIx) (o : Option Slot) : (setOutput i o s).waits = s.waits := by
  unfold setOutput; dsimp only; split <;> simp
@[simp] theorem turnCond_pinnedCollision (s : State) (i : PathIx) (c : Cond) : (turnCond i c s).pinnedCollision = s.pinnedCollision := by
  unfold turnCond; dsimp only; split <;> simp
@[simp] theorem refreshPath_pinnedCollision (s : State) (i : PathIx) : (refreshPath i s).pinnedCollision = s.pinnedCollision := by
  unfold refreshPath; dsimp only; split <;> simp
@[simp] theorem movePath_pinnedCollision (s : State) (i : PathIx) (st : PathState) : (movePath i st s).pinnedCollision = s.pinnedCollision := by
  simp [movePath]
@[simp] theorem recordEvent_pinnedCollision (s : State) (i : PathIx) (e : PathEvent) : (recordEvent i e s).pinnedCollision = s.pinnedCollision := rfl
@[simp] theorem setOutput_pinnedCollision (s : State) (i : PathIx) (o : Option Slot) : (setOutput i o s).pinnedCollision = s.pinnedCollision := by
  unfold setOutput; dsimp only; split <;> simp
@[simp] theorem turnCond_silentRelease (s : State) (i : PathIx) (c : Cond) : (turnCond i c s).silentRelease = s.silentRelease := by
  unfold turnCond; dsimp only; split <;> simp
@[simp] theorem refreshPath_silentRelease (s : State) (i : PathIx) : (refreshPath i s).silentRelease = s.silentRelease := by
  unfold refreshPath; dsimp only; split <;> simp
@[simp] theorem movePath_silentRelease (s : State) (i : PathIx) (st : PathState) : (movePath i st s).silentRelease = s.silentRelease := by
  simp [movePath]
@[simp] theorem recordEvent_silentRelease (s : State) (i : PathIx) (e : PathEvent) : (recordEvent i e s).silentRelease = s.silentRelease := rfl
@[simp] theorem setOutput_silentRelease (s : State) (i : PathIx) (o : Option Slot) : (setOutput i o s).silentRelease = s.silentRelease := by
  unfold setOutput; dsimp only; split <;> simp

/-! ### Path records after the derived levels' acts -/

theorem turnCond_paths (s : State) (i : PathIx) (c : Cond) :
    (turnCond i c s).paths = (s.modPath i (fun p => { p with cond := c })).paths := by
  unfold turnCond; dsimp only; split <;> simp

theorem turnCond_path_self (s : State) (i : PathIx) (c : Cond) :
    (turnCond i c s).path i = { s.path i with cond := c } := by
  have h := State.path_modPath_self s i (fun p => { p with cond := c })
  unfold State.path at *
  rw [turnCond_paths]; exact h

theorem turnCond_path_ne (s : State) {i j : PathIx} (c : Cond) (h : j ≠ i) : (turnCond i c s).path j = s.path j := by
  have h' := State.path_modPath_ne s i (fun p => { p with cond := c }) h
  unfold State.path at *
  rw [turnCond_paths]; exact h'

/-- After a path's condition is derived again, it is the one that R126 gives and the rest of the record stands. -/
theorem refreshPath_path_self (s : State) (i : PathIx) :
    (refreshPath i s).path i = { s.path i with cond := condOf s.gov.site (s.path i) } := by
  unfold refreshPath; dsimp only; split
  · rename_i h
    rw [eq_of_beq h]
  · exact turnCond_path_self s i _

theorem refreshPath_path_ne (s : State) {i j : PathIx} (h : j ≠ i) : (refreshPath i s).path j = s.path j := by
  unfold refreshPath; dsimp only; split
  · rfl
  · exact turnCond_path_ne s _ h

/-- After every path's condition is derived again, each is the one that R126 gives. -/
theorem refreshAll_path (s : State) (i : PathIx) :
    (refreshAll s).path i = { s.path i with cond := condOf s.gov.site (s.path i) } := by
  have h := forPaths_pointwise (fun t j => (t.path j, t.gov.site)) refreshPath
    (fun _ x => ({ x.1 with cond := condOf x.2 x.1 }, x.2))
    (fun i t => by rw [refreshPath_path_self, (refreshPath_act t i).gov_eq])
    (fun i j t hj => by rw [refreshPath_path_ne t hj, (refreshPath_act t i).gov_eq]) s i
  exact (Prod.mk.inj h).1

/-- A path that goes to a state: the state, its condition by R126, and the hysteresis cleared on leaving ON (R87). -/
theorem movePath_path_self (s : State) (i : PathIx) (st : PathState) :
    (movePath i st s).path i =
      { s.path i with
        state := st, cond := condOf s.gov.site { s.path i with state := st }
        candidate := if (s.path i).state = .on ∧ st ≠ .on then none else (s.path i).candidate
        candidateCount := if (s.path i).state = .on ∧ st ≠ .on then 0 else (s.path i).candidateCount } := by
  unfold movePath
  rw [refreshPath_path_self, State.path_modPath_self]
  by_cases h : (s.path i).state = .on ∧ st ≠ .on
  · simp [h, condOf]
  · have h' : ((s.path i).state == .on && st != .on) = false := by
      simp only [Bool.and_eq_false_iff, beq_eq_false_iff_ne, bne_eq_false_iff_eq, ne_eq]
      by_cases g : (s.path i).state = .on
      · exact Or.inr (by_contra fun hst => h ⟨g, hst⟩)
      · exact Or.inl g
    simp [h, h']

theorem movePath_path_ne (s : State) {i j : PathIx} (st : PathState) (h : j ≠ i) :
    (movePath i st s).path j = s.path j := by
  unfold movePath
  rw [refreshPath_path_ne _ h, State.path_modPath_ne _ _ _ h]

theorem setOutput_path_self (s : State) (i : PathIx) (o : Option Slot) :
    (setOutput i o s).path i = { s.path i with output := o } := by
  have h := State.path_modPath_self s i (fun p => { p with output := o })
  unfold setOutput; dsimp only; split
  · exact h
  · unfold State.path at *
    rw [cutVisitOf_paths]; exact h

theorem setOutput_path_ne (s : State) {i j : PathIx} (o : Option Slot) (h : j ≠ i) :
    (setOutput i o s).path j = s.path j := by
  have h' := State.path_modPath_ne s i (fun p => { p with output := o }) h
  unfold setOutput; dsimp only; split
  · exact h'
  · unfold State.path at *
    rw [cutVisitOf_paths]; exact h'

end Sys2Proof.Machine
end

