-- ==== Sys2Proof/Laws/Boundary.lean ====
section
/-! SUPPORT. What the shared operations of a block boundary do, each said once: the tag tone, an evaluation's restore, and
the acts of a boundary taken one after another. -/

namespace Sys2Proof.Machine

open Sys2Proof

/-! ### The tag tone (R12) -/

theorem TxSide.advanceTone_eq (t : TxSide) :
    t.advanceTone = { t with tonePhase := t.tonePhase + (t.tone.map toneStep).getD 0 } := by
  cases t with
  | mk w p s u q r tone ph c => cases tone <;> simp [TxSide.advanceTone]

@[simp] theorem TxSide.advanceTone_tone (t : TxSide) : t.advanceTone.tone = t.tone := by rw [t.advanceTone_eq]
@[simp] theorem TxSide.advanceTone_inUse (t : TxSide) : t.advanceTone.inUse = t.inUse := by rw [t.advanceTone_eq]
@[simp] theorem TxSide.takeTone_tonePhase (x : Tone) (t : TxSide) : (t.takeTone x).tonePhase = t.tonePhase := rfl
@[simp] theorem TxSide.takeTone_inUse (x : Tone) (t : TxSide) : (t.takeTone x).inUse = t.inUse := rfl
@[simp] theorem TxSide.takeProgramme_channel (x : IQ) (t : TxSide) :
    (t.takeProgramme x).channel = scaledSample t.inUse x := rfl

/-! ### RESTORE (R136) -/

/-- RESTORE leaves the state as it is, or restores the recorded candidate at a full count. -/
theorem restore_cases (s : State) :
    restore s = s ∨ ∃ i, s.gov.restoreCandidate = some i ∧ restoreLimit ≤ s.gov.restoreCount ∧
      restore s = applyBackoff s.gov.evaluationCap (restoreOne i s) := by
  unfold restore
  split
  · exact .inl rfl
  · rename_i i h
    by_cases hc : restoreLimit ≤ s.gov.restoreCount
    · exact .inr ⟨i, h, hc, if_pos hc⟩
    · exact .inl (if_neg hc)

/-! ### The acts of a boundary -/

@[simp] theorem boundaryRun_nil (reports : Vector (Option Nat) 12) (clips : Nat) (s : State) :
    boundaryRun reports clips [] s = s := rfl

@[simp] theorem boundaryRun_cons (reports : Vector (Option Nat) 12) (clips : Nat) (a : BoundaryAct)
    (rest : List BoundaryAct) (s : State) :
    boundaryRun reports clips (a :: rest) s = boundaryRun reports clips rest (boundaryAct reports clips rest a s) := rfl

/-- What every act of a boundary keeps, the whole run keeps. -/
theorem boundaryRun_keeps {P : State → Prop} {reports : Vector (Option Nat) 12} {clips : Nat}
    (h : ∀ rest a s, P s → P (boundaryAct reports clips rest a s)) :
    ∀ (order : List BoundaryAct) {s : State}, P s → P (boundaryRun reports clips order s)
  | [], _, hs => hs
  | a :: rest, _, hs => boundaryRun_keeps h rest (h rest a _ hs)

/-- A boundary keeps what its opening, each of its own acts and each step keep: the one case split that a proof about every
order needs. -/
theorem blockBoundary_keeps {P : State → Prop} {s : State} (order : List BoundaryAct) (hopen : P (openBoundary s))
    (hlevel : ∀ r i t, P t → P (levelPath r i t)) (hclips : ∀ n t, P t → P (takeClipCount n t))
    (heval : ∀ t, P t → P (compositeEvaluation t)) (hrestore : ∀ t, P t → P (restore t))
    (hbit : ∀ i t, P t → P (handBit i t)) (hstep : ∀ ahead b t, P t → P (takeStep ahead b t)) :
    P (blockBoundary order s) := by
  refine boundaryRun_keeps (fun rest a t ht => ?_) _ hopen
  cases a with
  | level i => exact hlevel _ i t ht
  | clips => exact hclips _ t ht
  | evaluation =>
    dsimp only [boundaryAct]
    split
    · exact heval t ht
    · exact hrestore _ (heval t ht)
  | bit i => exact hbit i t ht
  | step b => exact hstep _ b t ht

/-- An order without steps is one of the boundary's own acts alone. -/
theorem boundaryOrder_plain {order : List BoundaryAct} (h : PlainOrder order) : PlainOrder (boundaryOrder order) := by
  unfold boundaryOrder
  split
  · exact h
  · intro b hb; simp [BoundaryAct.all, BoundaryAct.levels, BoundaryAct.bits] at hb

/-- A frame start behind every bit of its boundary is FRAME_START (R36). -/
theorem frameStartAmong_eq {ahead : PathIx → Bool} (h : ∀ i, ahead i = false) (s : State) :
    frameStartAmong ahead s = frameStart s := by
  rw [funext h]; rfl

/-! ### The set that comes into use (R10, R11) -/

@[simp] theorem TxSide.takeSet_inUse (o : Option Slot) (t : TxSide) : (t.takeSet o).inUse = t.pendingSet := rfl
@[simp] theorem TxSide.takeSet_recordSlot (o : Option Slot) (t : TxSide) : (t.takeSet o).recordSlot = o := rfl
@[simp] theorem TxSide.takeSet_pendingSet (o : Option Slot) (t : TxSide) : (t.takeSet o).pendingSet = t.pendingSet := rfl
@[simp] theorem TxSide.takeSet_tone (o : Option Slot) (t : TxSide) : (t.takeSet o).tone = t.tone := rfl

/-- A side keeps its channel through the boundary just when its new set is FULL (R11). -/
theorem channelFor_eq (set : TxSet) (c : WideIQ) : channelFor set c = if set.cond = .full then c else ⟨0, 0⟩ := by
  unfold channelFor; cases h : set.cond <;> simp

/-! ### The survey receive side -/

/-- The survey side leaves its warm-up at a boundary in LISTEN or RUNNING, and stays in it before (R7, R55). -/
@[simp] theorem closeSurvey_warmUp (st : Station) (r : RxSide) : (closeSurvey st r).warmUp = !listening st := by
  unfold closeSurvey; split <;> simp_all [RxSide.close]

/-- But for the flag the survey side closes its block as every receive side does (R7, R44). -/
theorem closeSurvey_eq (st : Station) (r : RxSide) :
    closeSurvey st r = { r.close with warmUp := (closeSurvey st r).warmUp } := by
  unfold closeSurvey; split <;> rfl

end Sys2Proof.Machine
end

