-- ==== Sys2Proof/Tests/Slice0.lean ====
section
/-! SUPPORT. Tests of the model against the manual's worked figures, the smoke test of WellFormed, and for each obligation
with hypotheses named witnesses that they can be met together. Every expected figure is the manual's; its place stands
with the test. -/

namespace Sys2Proof.Tests

open Sys2Proof Sys2Proof.Machine

set_option Elab.async false

/-! ### WellFormed and Decode -/

/-- An order that names an action twice is refused. -/
theorem test_order_with_a_repeat_is_ill_formed :
    (Instr.blockBoundary (.level 3 :: BoundaryAct.all)).wellFormed = false := by decide +kernel

/-- An order that leaves an action out is refused. -/
theorem test_order_with_a_gap_is_ill_formed :
    (Instr.blockBoundary (BoundaryAct.levels ++ [.clips] ++ BoundaryAct.bits)).wellFormed = false ∧
    (Instr.blockBoundary BoundaryAct.all.dropLast).wellFormed = false := by decide +kernel

/-- R39, R130: each path's report and each path's bit has a place of its own. -/
theorem test_every_order_is_well_formed : (Instr.blockBoundary BoundaryAct.all.reverse).wellFormed = true ∧
    (Instr.blockBoundary (BoundaryAct.levels.drop 5 ++ BoundaryAct.bits.drop 9 ++ [.evaluation, .clips] ++
      BoundaryAct.bits.take 9 ++ BoundaryAct.levels.take 5)).wellFormed = true := by decide +kernel

/-- Steps may stand among the boundary's own acts, and take the place of none. -/
theorem test_steps_stand_among_the_acts :
    (Instr.blockBoundary ([.step .muteEnd] ++ BoundaryAct.bits ++ [.evaluation, .step .statusRecord, .clips] ++
      BoundaryAct.levels)).wellFormed = true ∧
    (Instr.blockBoundary ([.step .muteEnd, .evaluation, .clips] ++ BoundaryAct.bits)).wellFormed = false := by
  decide +kernel

/-- No row of the opcode table has bits, so no word spells a command. -/
theorem test_no_word_spells_a_command (nbits w : Nat) : decodeTableWord nbits w = none := rfl

/-! ### The manual's figures -/

/-- Table 1-1 and R1: slot 32 stands at the band centre, slot 0 at −32 and slot 63 at +31 steps of 52,428,800. -/
theorem test_slot_words : slotWord 32 = 0 ∧ slotWord 33 = 52428800#32 ∧ (slotWord 0).toInt = -1677721600 ∧
    (slotWord 63).toInt = 1625292800 := by decide

/-- R6: the sample magnitudes of its examples. -/
theorem test_sample_magnitudes : sampleMagnitude ⟨BitVec.ofInt 16 (-32768), BitVec.ofInt 16 (-32768)⟩ = 32767 ∧
    sampleMagnitude ⟨BitVec.ofInt 16 (-300), 120⟩ = 360 ∧ sampleMagnitude ⟨0, 0⟩ = 0 := by decide

/-- R7: 46,080 over a block is M = 180. -/
theorem test_block_measurement :
    ({ RxSide.atReset with sum := 46080, count := 256, warmUp := false } : RxSide).report = some 180 := by decide

/-- R11: a part of 1000 at programme gain 2162 becomes 2111. -/
theorem test_scaled_part : scalePart 2162 1000 = 2111 := by decide

/-- R12 and R21: 256 samples of mark at 80 kHz and of space at 64 kHz are whole turns of the tone, so that an edge of a
bit finds it at the phase it had, and 16 samples are 5 and 4 turns. -/
theorem test_tone_phase : 256 * toneStep .mark = 0 ∧ 256 * toneStep .space = 0 ∧
    16 * (toneStep .mark).toNat = 5 * 2 ^ 32 ∧ 16 * (toneStep .space).toNat = 4 * 2 ^ 32 := by decide

/-- R10: G = 3276, M = 500 at s = 169 give a programme gain of 2162 and a tag amplitude of 65. -/
theorem test_pending_set : pendingFor 169 { PathRec.atReset with cond := .full, g := 3276, m := 500 } =
    { cond := .full, gain := 2162, tag := 65 } := by decide

/-- R131: the three desired gains of its examples. -/
theorem test_desired_gains : desiredGain Params.default 1600 500 = 3276 ∧ desiredGain Params.default 4095 32 = 65535 ∧
    desiredGain Params.default 1 32767 = 16 := by decide

/-- Table 8-1: from G = 1024 toward a higher gain the first step is 16. -/
theorem test_first_slew : slewGain 1024 3276 = 1040 ∧ slewGain 1040 1045 = 1045 ∧ slewGain 30 16 = 29 := by decide

/-- R133: the largest product is capped at 4095. -/
theorem test_amplitude_cap : fullAmplitude { PathRec.atReset with m := 32767, g := 65535 } = 4095 := by decide

/-- R134: at P_max = 1,000,000 a sum of one full channel of 4095 calls for s = 62. -/
theorem test_backoff_of_one_full_channel : backoffFor 1000000 16769025 = 62 := by decide +kernel

/-- R74's table, at M_floor 32 and M_good 256. -/
theorem test_level_grades : [31, 32, 120, 140, 180, 256, 300].map (levelGrade Params.default) =
    [0, 0, 39, 48, 66, 100, 100] := by decide

/-- R76: four failures take 99 to 49, 24, 12 and 6, and a clean frame lifts 6 to 53. -/
theorem test_integrity_run : (99 / 2, 49 / 2, 24 / 2, 12 / 2) = (49, 24, 12, 6) ∧ (6 + integrityTarget 0) / 2 = 53 := by
  decide

/-- R75: a frame with 20 noisy bits has the target 0. -/
theorem test_integrity_targets : integrityTarget 0 = 100 ∧ integrityTarget 19 = 5 ∧ integrityTarget 20 = 0 := by decide

/-- R160: a neighbour timeout of 45 s with a grace of 60 s gives 45 and 22; 20 s with 14 s gives 30 and 14. -/
theorem test_grace_clamps :
    (settleParams { Params.default with neighbourTimeout := 45, silenceGrace := 60 }).silenceGrace = 22 ∧
    (settleParams { Params.default with neighbourTimeout := 20, silenceGrace := 14 }).neighbourTimeout = 30 ∧
    (settleParams { Params.default with neighbourTimeout := 20, silenceGrace := 14 }).silenceGrace = 14 := by decide

/-- Table 10-3: the values in force before a valid load are within their ranges. -/
theorem test_default_parameters_settle : settleParams Params.default = Params.default := by decide

/-- R34 over one byte: the polynomial's terms below x^8 for the byte 0x01. -/
theorem test_tag_crc_of_one : crc8 [0x01] = 0x35 := by decide

/-- R159: the polynomial's terms for a register of 0 and the byte 0x01. -/
theorem test_crc16_of_one : crc16Byte 0 0x01 = 0x1021 := by decide

/-- R22: bit-times 0 to 19 are space, 20 is mark, 21 the start bit of the lead byte and 22 its least significant bit. -/
theorem test_frame_opens_with_a_break : frameTone [0xB4] 19 = .space ∧ frameTone [0xB4] 20 = .mark ∧
    frameTone [0xB4] 21 = .space ∧ frameTone [0xB4] 22 = .space ∧ frameTone [0xB4] 24 = .mark ∧
    frameTone [0xB4] 30 = .mark := by decide

/-- R158: the count wraps, and a deadline is compared by the signed difference. -/
theorem test_deadline_over_the_wrap : reached 5 (0#32 - 10) = true ∧ reached (0#32 - 10) 5 = false := by decide

/-! ### A station at work, for the witnesses -/

/-- A RUNNING station 20 of network 5 whose site transmits, at station time 100,000, with every path enabled and every slot
BOTH. -/
def running : State :=
  { State.reset with
    station := .running
    timing := { State.reset.timing with ms := 100000, tuningDue := true, statusDue := true, wholeSecond := true }
    params := { Params.default with stationId := 20, networkId := 5 }
    carry := updAll State.reset.carry (fun i _ =>
      { enabled := true, pinned := i == 2, programme := BitVec.ofNat 16 (301 + i.val), priority := i.val % 8 + 1
        target := 1600, preferred := 12 })
    loader := { State.reset.loader with reading := false }
    slots := updAll State.reset.slots (fun _ e => { e with attr := .both })
    gov := { State.reset.gov with site := .transmitting }
    lines := { State.reset.lines with permit := true } }

/-- A path in a state with a selected source on slot 40. -/
def sourced (i : PathIx) (st : PathState) (s : State) : State :=
  s.modPath i (fun p => { p with
    state := st, selected := some ⟨40, 5, 1⟩, rxSlot := some 40, evalDeadline := some 99000
    acquireDeadline := some 100000, lastSourceFrame := some 98000, m := 500, g := 3276 })

/-- A path that holds slot k. -/
def holding (i : PathIx) (st : PathState) (k : Slot) (c : Cond) (s : State) : State :=
  { ((s.modPath i (fun p => { p with state := st, output := some k, cond := c, txPending := true })).modSlot k
      (fun e => { e with own := .held, ownPath := some i })) with
    lines := { s.lines with txkey := true } }

/-- Path 0 ON with its source on slot 40 and slot 12 held. -/
def onAir : State := holding 0 .on 12 .full (sourced 0 .on running)

/-- The entry that path 0 has selected in onAir. -/
def entry : Source :=
  { slot := 40, station := 5, programme := 301, depth := 1, upstream := some 3, m := 200, levelGrade := 75
    integrityGrade := 90, absent := false, quality := 75, lastHeard := 99500, barredUntil := none }

/-- A frame of station 5 with programme 301 at depth 1, claiming slot 40. -/
def frameBody : List Byte := [0xB4, 5, 1, 0, 5, 1, 45, 16, 0, 3, 104]
def frame : List Byte := frameBody ++ [crc8 frameBody]

/-- The neighbour record of station 5. -/
def neighbour5 : Neighbour :=
  { station := 5, network := 5, lastHeard := 99000, lastAbsent := false, lowestDepth := 1, lowestDepthTime := 99000
    whereHeard := .relay }

/-- A framer that has decided an outcome. -/
def decided (ix : FramerIx) (o : FrameOutcome) (s : State) : State := s.modFramer ix (fun f => { f with outcome := some o })

/-- The parameters of an image with a listen time, its slot and carry tables with one entry for programme 301, and the rest of
it, zeros. -/
def imageHead (listen : Byte) : List Byte :=
  [0, 20, 5, 1, 1, 5, 0, 30, 0, 120, 0, 60, 5, 7, 208, 0, 30, listen, 30, 8, 10, 3, 0, 32, 1, 0, 0, 16, 255, 255, 0, 15, 66, 64,
    64, 0, 64]
def imageTables : List Byte := List.replicate 16 0xFF ++ [0x80, 1, 45, 2, 6, 64, 48]
def zeros (n : Nat) : List Byte := List.replicate n 0
def imageBody (listen : Byte) : List Byte :=
  imageHead listen ++ imageTables ++ zeros 26 ++ zeros 26 ++ zeros 25

/-- An image of 141 bytes with a right CRC but for its marker. -/
def imageMarked (marker : Byte) : List Byte := [marker, 0x36] ++ imageBody 10 ++ [0x51, 0x00]
def image : List Byte := imageMarked 0x4A

/-- The image with a listen time of 0. -/
def imageUnheard : List Byte := [0x4A, 0x36] ++ imageBody 0 ++ [0x66, 0x02]

/-- The state in which an image has just been read. -/
def loaded (bs : List Byte) : State := { State.reset with loader := { State.reset.loader with image := bs } }

/-- Station 5 is heard as a neighbour. -/
def heard5 : State :=
  { running with
    neighbours := [neighbour5]
    rx := updAll running.rx (fun _ r => { r with word := slotWord 40, warmUp := false, latest := some 200 }) }

/-! ### Small steps on small states -/

theorem test_crc_of_a_frame_is_checked : readable { network := 5, acceptOpen := true } frame = true := by decide +kernel

/-! The CRC of the image, piece by piece. -/

theorem test_crc_head : (imageHead 10).foldl crc16Byte 0xFFFF#16 = 18297#16 := by decide +kernel
theorem test_crc_tables : imageTables.foldl crc16Byte 18297#16 = 22386#16 := by decide +kernel
theorem test_crc_zeros_1 : (zeros 26).foldl crc16Byte 22386#16 = 22371#16 := by decide +kernel
theorem test_crc_zeros_2 : (zeros 26).foldl crc16Byte 22371#16 = 2323#16 := by decide +kernel
theorem test_crc_zeros_3 : (zeros 25).foldl crc16Byte 2323#16 = 20736#16 := by decide +kernel

theorem test_crc_of_the_image : crc16 (imageBody 10) = 20736#16 := by
  simp only [crc16, imageBody, List.foldl_append, test_crc_head, test_crc_tables, test_crc_zeros_1, test_crc_zeros_2,
    test_crc_zeros_3]

theorem test_image_is_laid_out : (image.drop 2).take 137 = imageBody 10 ∧ field16 image 0 = 0x4A36 ∧
    field16 image 139 = 20736 ∧ field16 image 2 = 20 ∧ image.length = 141 := by decide +kernel

theorem test_image_is_valid : imageValid image = true := by
  obtain ⟨hb, h0, hc, h2, -⟩ := test_image_is_laid_out
  simp only [imageValid, hb, h0, hc, h2, test_crc_of_the_image]
  decide

/-- The image with a wrong marker. -/
def badImage : List Byte := imageMarked 0x4B

theorem test_wrong_marker : field16 badImage 0 = 0x4B36 := by decide +kernel

theorem test_wrong_marker_is_invalid : imageValid badImage = false := by simp [imageValid, test_wrong_marker]

/-- R139: a low permit inhibits a RUNNING site that nothing else holds, and a mute goes before it. -/
theorem test_site_order : siteOf .running none none false = .inhibited ∧ siteOf .running none (some 5) false = .muted ∧
    siteOf .running (some 9) (some 5) true = .lockedOut ∧ siteOf .listen none none true = .silent := by decide

/-! ### Witnesses: states that meet the hypotheses of the obligations -/

theorem witness_step_front : ∃ (c : Instr) (rest : List Instr) (s : State), s.pending = c :: rest ∧
    State.reset.pending = [] := ⟨.restore, [], running.withPending [.restore], rfl, rfl⟩

theorem witness_image_read : (loaded []).loader.reading = true ∧ (loaded []).loader.image.length < 141 ∧
    (loaded (List.replicate 140 0)).loader.image.length < 141 ∧ running.loader.reading = false := by decide +kernel

/-- A station in QUIET with a retry deadline at 10,003, at its time and one ms before it. -/
def quietAt (now : Time) : State :=
  { State.reset with
    station := .quiet, timing := { State.reset.timing with ms := now }
    loader := { State.reset.loader with reading := false, retryDeadline := some 10003, configInvalid := true } }

theorem witness_config_retry : (quietAt 10003).station = .quiet ∧
    (quietAt 10003).loader.retryDeadline = some 10003 ∧ reached (quietAt 10003).now 10003 = true ∧
    (quietAt 10002).loader.retryDeadline = some 10003 ∧ reached (quietAt 10002).now 10003 = false := by decide +kernel

theorem witness_invalid_image_state : LevelsOk (loaded badImage) ∧ LoadingOk (loaded badImage) ∧
    (loaded badImage).loader.reading = true := by decide +kernel

theorem witness_invalid_image_bytes : (loaded badImage).loader.image.length = 141 ∧
    field16 (loaded badImage).loader.image 0 = 0x4B36 := by decide +kernel

theorem witness_invalid_image : ∃ s, LevelsOk s ∧ LoadingOk s ∧ s.loader.reading = true ∧ s.loader.image.length = 141 ∧
    field16 s.loader.image 0 ≠ 0x4A36 := by
  obtain ⟨h1, h2, h3⟩ := witness_invalid_image_state
  obtain ⟨h4, h5⟩ := witness_invalid_image_bytes
  exact ⟨loaded badImage, h1, h2, h3, h4, by rw [h5]; decide⟩

theorem witness_valid_image_state : LevelsOk (loaded image) ∧ LoadingOk (loaded image) ∧
    (∀ i : PathIx, ((loaded image).path i).state = .idle) ∧ (loaded image).loader.reading = true := by decide +kernel

theorem witness_valid_image_bytes : (loaded image).loader.image.length = 141 ∧
    field16 (loaded image).loader.image 0 = 0x4A36 ∧
    (crc16 (((loaded image).loader.image.drop 2).take 137)).toNat = field16 (loaded image).loader.image 139 ∧
    field16 (loaded image).loader.image 2 ≠ 0 ∧ field16 (loaded image).loader.image 2 ≠ 65535 := by
  obtain ⟨hb, h0, hc, h2, hl⟩ := test_image_is_laid_out
  simp only [loaded, hb, h0, hc, h2, hl, test_crc_of_the_image]
  decide

theorem witness_valid_image : ∃ s, (LevelsOk s ∧ LoadingOk s ∧ (∀ i : PathIx, (s.path i).state = .idle) ∧
    s.loader.reading = true) ∧ s.loader.image.length = 141 ∧ field16 s.loader.image 0 = 0x4A36 ∧
    (crc16 ((s.loader.image.drop 2).take 137)).toNat = field16 s.loader.image 139 ∧
    field16 s.loader.image 2 ≠ 0 ∧ field16 s.loader.image 2 ≠ 65535 :=
  ⟨loaded image, witness_valid_image_state, witness_valid_image_bytes⟩

/-! The CRC of the image with a listen time of 0, piece by piece. -/

theorem test_unheard_head : (imageHead 0).foldl crc16Byte 0xFFFF#16 = 37286#16 := by decide +kernel
theorem test_unheard_tables : imageTables.foldl crc16Byte 37286#16 = 58965#16 := by decide +kernel
theorem test_unheard_zeros_1 : (zeros 26).foldl crc16Byte 58965#16 = 43002#16 := by decide +kernel
theorem test_unheard_zeros_2 : (zeros 26).foldl crc16Byte 43002#16 = 43701#16 := by decide +kernel
theorem test_unheard_zeros_3 : (zeros 25).foldl crc16Byte 43701#16 = 26114#16 := by decide +kernel

theorem test_unheard_crc : crc16 (imageBody 0) = 26114#16 := by
  simp only [crc16, imageBody, List.foldl_append, test_unheard_head, test_unheard_tables, test_unheard_zeros_1,
    test_unheard_zeros_2, test_unheard_zeros_3]

theorem test_unheard_is_laid_out : (imageUnheard.drop 2).take 137 = imageBody 0 ∧ field16 imageUnheard 0 = 0x4A36 ∧
    field16 imageUnheard 139 = 26114 ∧ field16 imageUnheard 2 = 20 ∧ imageUnheard.length = 141 := by decide +kernel

/-- R164: a valid image with a listen time of 0. -/
theorem witness_listen_time_zero_state : LevelsOk (loaded imageUnheard) ∧ LoadingOk (loaded imageUnheard) ∧
    (∀ i : PathIx, ((loaded imageUnheard).path i).state = .idle) ∧ (loaded imageUnheard).loader.reading = true ∧
    (settleParams (storedParams imageUnheard)).listenTime = 0 ∧
    (settleParams (storedParams image)).listenTime = 10 := by decide +kernel

theorem witness_listen_time_zero_bytes : (loaded imageUnheard).loader.image.length = 141 ∧
    field16 (loaded imageUnheard).loader.image 0 = 0x4A36 ∧
    (crc16 (((loaded imageUnheard).loader.image.drop 2).take 137)).toNat =
      field16 (loaded imageUnheard).loader.image 139 ∧
    field16 (loaded imageUnheard).loader.image 2 ≠ 0 ∧ field16 (loaded imageUnheard).loader.image 2 ≠ 65535 := by
  obtain ⟨hb, h0, hc, h2, hl⟩ := test_unheard_is_laid_out
  simp only [loaded, hb, h0, hc, h2, hl, test_unheard_crc]
  decide

/-- R160: the image has every value in its range, and an image that asks for a guard distance of 9 does not. -/
theorem test_configuration_clamped : imageClamped image = false ∧ imageClamped (image.set 6 9) = true ∧
    imageAttr (image.set 39 0x1B) 0 = .barred ∧ imageAttr (image.set 39 0x1B) 1 = .watch ∧
    imageAttr (image.set 39 0x1B) 2 = .transmit ∧ imageAttr (image.set 39 0x1B) 3 = .both := by decide +kernel

theorem witness_settled_image : Params.default.sFloor ≤ 255 ∧ (settleCarry image 0).enabled = true ∧
    imageProgramme image 0 = some 301 := by decide +kernel

/-- Two enabled entries with two programmes, and a third that repeats the first and is disabled. -/
def twoEntries : List Byte :=
  List.replicate 55 0 ++ [0x80, 1, 45, 2, 6, 64, 48] ++ [0x80, 1, 46, 2, 6, 64, 48] ++ [0x80, 1, 45, 2, 6, 64, 48]

theorem witness_two_carry_entries : (settleCarry twoEntries 0).enabled = true ∧
    (settleCarry twoEntries 1).enabled = true ∧ (settleCarry twoEntries 2).enabled = false := by decide +kernel

/-- A station in LISTEN whose listening ends at 100,000. -/
def listeningUntil (permit : Bool) : State :=
  { running with
    station := .listen, gov := State.reset.gov, lines := { State.reset.lines with permit := permit }
    loader := { running.loader with endOfListening := some 100000 } }

theorem witness_end_of_listening (permit : Bool) : LevelsOk (listeningUntil permit) ∧
    (listeningUntil permit).station = .listen ∧
    (listeningUntil permit).loader.endOfListening = some 100000 ∧
    reached (listeningUntil permit).now 100000 = true ∧ (listeningUntil permit).gov.lockoutDeadline = none ∧
    (listeningUntil permit).gov.muteDeadline = none := by cases permit <;> decide +kernel

/-- An on-air station with a block just measured on path 0. -/
def measured (m : Nat) (acquired : Bool) : State :=
  { (onAir.modPath 0 (fun p => { p with acquired := acquired, lowCarrier := 49 })) with
    rx := updAll onAir.rx (fun _ r => { r with sum := 256 * m, count := 256, warmUp := false }) }

theorem witness_block_report : watching ((measured 32 false).path 0).state = true ∧
    ((measured 32 false).rxSide 0).warmUp = false ∧
    (measured 32 false).params.mFloor ≤ ((measured 32 false).rxSide 0).sum / 256 ∧
    ((measured 31 false).rxSide 0).sum / 256 < (measured 31 false).params.mFloor ∧
    ((measured 32 false).path 0).lowCarrier < 50 ∧ ((measured 32 true).path 0).acquired = true ∧
    watching (running.path 0).state = false ∧ (State.reset.rxSide 0).warmUp = true := by decide +kernel

/-- The boundary's own acts but for the evaluation and the clip count. -/
def reportsAndBits : List BoundaryAct := BoundaryAct.levels ++ BoundaryAct.bits

/-- The boundary's own acts with the evaluation last. -/
def evaluationLast : List BoundaryAct := reportsAndBits ++ [.clips, .evaluation]

theorem plain_reports_and_bits : PlainOrder reportsAndBits := fun b h => by
  simp [reportsAndBits, BoundaryAct.levels, BoundaryAct.bits] at h

theorem witness_plain_order : PlainOrder evaluationLast ∧ orderOk evaluationLast = true ∧
    evaluationLast.getLast? = some .evaluation ∧ PlainOrder reportsAndBits ∧
    orderOk (reportsAndBits ++ [.evaluation, .clips]) = true :=
  ⟨fun b h => plain_reports_and_bits b (by simpa [evaluationLast] using h), by decide +kernel, by decide +kernel,
    plain_reports_and_bits, by decide +kernel⟩

/-- R130: with the report of path 0 before the evaluation, its new measurement of 32 sets its amplitude; behind the
evaluation it leaves the amplitude of the block before. Path 1's report stands on the other side. -/
theorem test_reports_on_both_sides :
    (blockBoundary ([.level 0, .evaluation, .clips] ++ BoundaryAct.levels.drop 1 ++ BoundaryAct.bits)
      (measured 32 false)).amplitude 0 = 103 ∧
    (blockBoundary (BoundaryAct.levels.drop 1 ++ [.evaluation, .clips, .level 0] ++ BoundaryAct.bits)
      (measured 32 false)).amplitude 0 = 1599 ∧
    ((blockBoundary (BoundaryAct.levels.drop 1 ++ [.evaluation, .clips, .level 0] ++ BoundaryAct.bits)
      (measured 32 false)).path 0).m = 32 := by decide +kernel

/-- A path whose carrier check stands at a count. -/
def checking (c : CarrierCheck) : State := onAir.modPath 0 (fun p => { p with state := .switching, check := c })

theorem witness_carrier_check : (19 : Nat) < 20 ∧ ((checking (.counting 19)).path 0).check = .counting 19 ∧
    ((checking .warmUp).path 0).check = .warmUp ∧ ((checking .warmUp).rxSide 0).warmUp = true ∧
    (measured 32 false).params.mFloor ≤ 32 := by decide +kernel

/-- A path whose frame in progress promised the programme. -/
def sending (bit : Nat) (c : Cond) : State :=
  (onAir.modPath 0 (fun p => { p with cond := c, shed := c == .tagOnly })).modBuilder 0
    (fun _ => { snapshot := some frame, bitPosition := bit, keptDepth := 2, abandoned := false })

theorem witness_tag_bits : LevelsOk (sending 140 .tagOnly) ∧ LevelsOk (sending 141 .full) ∧
    ((sending 140 .tagOnly).builderPath 0).snapshot = some frame ∧
    ((sending 140 .tagOnly).builderPath 0).abandoned = false ∧ (byteAt frame 2).getLsbD 6 = false ∧
    ((sending 140 .tagOnly).builderPath 0).bitPosition < frameBits frame ∧ ((sending 140 .tagOnly).path 0).cond ≠ .full ∧
    frameBits frame ≤ ((sending 141 .full).builderPath 0).bitPosition ∧
    (sending 140 .tagOnly).gov.restoreCandidate ≠ some 0 := by decide +kernel

/-- A dwell and a visit in progress, with a block just closed. -/
def surveying (dph : DwellPhase) (vph : VisitPhase) (checks m : Nat) (warm : Bool) : State :=
  { onAir with
    survey := { onAir.survey with
      rx := { onAir.survey.rx with sum := 256 * m, warmUp := warm }
      dwell := (some { phase := dph, slot := 7, deadline := 100600, checks := checks, good := 0, latest := none } :
        Option Dwell) }
    mon := { onAir.mon with
      rx := { onAir.mon.rx with warmUp := warm }
      visit := (some { phase := vph, path := 0, slot := 12, cond := .full, deadline := 100600 } : Option Visit) } }

theorem witness_dwell_and_visit : LevelsOk (surveying .warmUp .warmUp 0 0 true) ∧
    LevelsOk (surveying .check .listening 19 32 false) ∧ LevelsOk (surveying .listening .listening 20 31 false) ∧
    (surveying .check .listening 19 32 false).survey.rx.sum / 256 = 32 ∧
    (surveying .check .listening 19 32 false).params.mFloor = 32 ∧
    (surveying .warmUp .warmUp 0 0 true).composite.clips ≤ 64 := by decide +kernel

/-- A boundary that leaves the visited path's condition as it is, and one that sheds the path. -/
theorem witness_visited_condition :
    ((blockBoundary evaluationLast (surveying .warmUp .warmUp 0 0 true)).path 0).cond = .full ∧
    ((blockBoundary evaluationLast { surveying .warmUp .warmUp 0 0 true with
      params := { onAir.params with pMax := 65536 } }).path 0).cond = .tagOnly := by decide +kernel

theorem witness_evaluation_last : orderOk evaluationLast = true ∧ evaluationLast.getLast? = some .evaluation ∧
    LevelsOk onAir ∧ (onAir.path 0).shed = false := by decide +kernel

/-- Orders in which an evaluation stands between reports, and in which the bit of path 0 stands before it and behind. -/
theorem witness_acts_on_both_sides :
    orderOk (BoundaryAct.levels.take 1 ++ .evaluation :: (BoundaryAct.levels.drop 1 ++ [.clips] ++ BoundaryAct.bits)) = true ∧
    orderOk ([] ++ .bit 0 :: ([.clips, .evaluation] ++ BoundaryAct.levels ++ BoundaryAct.bits.drop 1)) = true ∧
    orderOk ([BoundaryAct.clips, .evaluation] ++ .bit 0 :: (BoundaryAct.levels ++ BoundaryAct.bits.drop 1)) = true := by
  decide +kernel

theorem witness_acts_on_both_sides_plain : PlainOrder ([BoundaryAct.clips, .evaluation] ++ .bit 0 :: reportsAndBits) := fun b h => by
  simp [reportsAndBits, BoundaryAct.levels, BoundaryAct.bits] at h

/-- An on-air station whose block ended with a number of clips. -/
def clipped (n : Nat) : State := { onAir with composite := { onAir.composite with clips := n } }

theorem witness_clip_fault : LevelsOk (clipped 65) ∧ (clipped 65).params.clipLimit < (clipped 65).composite.clips ∧
    (clipped 65).gov.site = .transmitting ∧ (clipped 64).composite.clips ≤ (clipped 64).params.clipLimit := by
  decide +kernel

/-- A station whose evaluation calls for more than the budget. -/
def overloaded : State := { onAir with params := { onAir.params with pMax := 1000000 } }

theorem witness_backoff : overloaded.params.pMax < compositeSum overloaded ∧ computedBackoff overloaded = 160 ∧
    (∀ i : PathIx, (running.path i).cond = .off) ∧ compositeSum onAir ≤ onAir.params.pMax := by decide +kernel

/-- A station whose budget takes one path at the tag-only amplitude and not at its full one, and one that takes neither. -/
theorem witness_shed :
    computedBackoff { onAir with params := { onAir.params with pMax := 65536 } } = 40 ∧
    shedPath { onAir with params := { onAir.params with pMax := 65536 } } = some 0 ∧
    computedBackoff ({ onAir with params := { onAir.params with pMax := 1000 } }.modPath 0
      (fun p => { p with shed := true, cond := .tagOnly })) = 31 ∧ onAir.params.sFloor = 64 := by decide +kernel

/-- A boundary that sheds a path, whose full level the budget does not take at s_floor. -/
theorem witness_newly_shed : (onAir.path 0).shed = false ∧ onAir.params.sFloor ≤ 255 ∧
    ((blockBoundary evaluationLast { onAir with params := { onAir.params with pMax := 65536 } }).path 0).shed = true ∧
    (∀ i : PathIx, i ≠ 0 →
      ((blockBoundary evaluationLast { onAir with params := { onAir.params with pMax := 65536 } }).path i).shed = false) := by
  decide +kernel

/-- A shed path whose restore count has reached n. -/
def shedding (n : Nat) : State :=
  { (onAir.modPath 0 (fun p => { p with shed := true, cond := .tagOnly })) with
    gov := { onAir.gov with restoreCandidate := some 0, restoreCount := n } }

theorem witness_restore : (shedding 1000).gov.restoreCandidate = some 0 ∧ 1000 ≤ (shedding 1000).gov.restoreCount ∧
    ((shedding 1000).path 0).shed = true ∧ ((shedding 1000).path 0).state = .on ∧
    ((shedding 1000).path 0).cond = .tagOnly ∧ ((shedding 1000).path 0).txFaultDeadline = none ∧
    (shedding 1000).gov.site = .transmitting ∧ (shedding 999).gov.restoreCount < 1000 := by decide +kernel

/-- The restore test at a boundary: a candidate that fits rises to 1,000, one that would not fit falls to 0, a new one
starts at 0, and without one the candidate is absent. -/
theorem witness_restore_test :
    (blockBoundary evaluationLast (shedding 999)).gov.restoreCount = 1000 ∧
    ((blockBoundary evaluationLast (shedding 999)).path 0).cond = .tagOnly ∧
    (blockBoundary evaluationLast { shedding 999 with params := { onAir.params with pMax := 65536 } }).gov.restoreCount
      = 0 ∧
    (blockBoundary evaluationLast { shedding 5 with gov := { onAir.gov with restoreCandidate := some 1 } }).gov
      = { (blockBoundary evaluationLast (shedding 5)).gov with restoreCount := 0 } ∧
    (blockBoundary evaluationLast onAir).gov.restoreCandidate = none := by decide +kernel

/-- R136: with another act behind it the evaluation restores its candidate itself. -/
theorem test_restore_inside_the_boundary :
    ((blockBoundary (reportsAndBits ++ [.evaluation, .clips]) (shedding 999)).path 0).cond = .full ∧
    ((blockBoundary (reportsAndBits ++ [.evaluation, .clips]) (shedding 999)).path 0).event = some .restored := by
  decide +kernel

/-- R39: a clip fault turns path 0 OFF; a check before it hands one more bit of the frame, and one behind it abandons the
frame. -/
theorem test_check_before_or_behind_a_clip_fault :
    ((blockBoundary ([.bit 0, .clips, .evaluation] ++ BoundaryAct.levels ++ BoundaryAct.bits.drop 1)
      { sending 140 .full with composite := { onAir.composite with clips := 65 } }).builderPath 0).abandoned = false ∧
    ((blockBoundary ([.clips, .bit 0, .evaluation] ++ BoundaryAct.levels ++ BoundaryAct.bits.drop 1)
      { sending 140 .full with composite := { onAir.composite with clips := 65 } }).builderPath 0).abandoned = true := by
  decide +kernel

/-- R11: a side that goes from FULL to TAG_ONLY holds no programme sample from the boundary on; one that stays FULL keeps the
latest. -/
theorem test_channel_leaves_full :
    ((takePending (onAir.modTx 0 (fun t => { t with channel := ⟨2111, 5⟩, pendingSet := ⟨.tagOnly, 0, 256⟩ }))).txSide 0).channel
      = ⟨0, 0⟩ ∧
    ((takePending (onAir.modTx 0 (fun t => { t with channel := ⟨2111, 5⟩, pendingSet := ⟨.full, 2162, 16⟩ }))).txSide 0).channel
      = ⟨2111, 5⟩ := by decide +kernel

/-- An on-air station with one entry at the head of its tuning queue. -/
def queued (e : TuneEntry) : State := { onAir with tuning := [e, ⟨0, .transmit, 12⟩] }

theorem witness_tuning_head : (queued ⟨0, .receive, 40⟩).timing.tuningDue = true ∧
    (queued ⟨0, .receive, 40⟩).tuning = ⟨0, .receive, 40⟩ :: [⟨0, .transmit, 12⟩] ∧
    ((queued ⟨0, .receive, 40⟩).path 0).rxSlot = some 40 ∧
    ((queued ⟨0, .transmit, 12⟩).slot 12).own ≠ .none ∧ ((queued ⟨0, .transmit, 12⟩).slot 12).ownPath = some 0 ∧
    ((queued ⟨0, .receive, 41⟩).path 0).rxSlot ≠ some 41 ∧ ((queued ⟨0, .transmit, 13⟩).slot 13).own = .none ∧
    State.reset.timing.tuningDue = false := by decide +kernel

/-- A path that owes a cancellation, with its entries and another path's in the queue. -/
def owing : State :=
  { running.modPath 0 (fun p => { p with state := .waitSlot, cancelOwed := 1, rxSlot := some 40 }) with
    tuning := [⟨0, .transmit, 12⟩, ⟨1, .transmit, 50⟩, ⟨0, .receive, 40⟩] }

theorem witness_owed_cancellation : owing.timing.tuningDue = true ∧ (owing.path 0).cancelOwed = 1 ∧
    owing.tuning = ⟨0, .transmit, 12⟩ :: [⟨1, .transmit, 50⟩, ⟨0, .receive, 40⟩] ∧ (owing.slot 12).own = .none ∧
    { owing with tuning := [] }.tuning = [] := by decide +kernel

/-- R19: the withdrawn entry fails at the head and the receive entry behind it goes with it; behind another head the
cancellation takes the withdrawn entry alone (R20). -/
theorem test_withdrawn_entry_at_the_head :
    (tuningEntryApplied owing).tuning = [⟨1, .transmit, 50⟩] ∧ ((tuningEntryApplied owing).path 0).cancelOwed = 0 ∧
    (tuningEntryApplied { owing with tuning := [⟨1, .receive, 40⟩, ⟨0, .transmit, 12⟩, ⟨0, .receive, 40⟩] }).tuning =
      [⟨0, .receive, 40⟩] := by decide +kernel

/-- A framer in a state with a space run and a limit count. -/
def framing (st : FramerState) (run limit : Nat) (stop : Bool) : State :=
  running.modFramer .survey (fun f => { f with state := st, spaceRun := run, limit := some limit, stopSpace := stop })

theorem witness_framer_break : ((framing .hunt 192 1 false).framer .survey).spaceRun = 192 ∧
    ((framing .hunt 192 1 false).framer .survey).outcome = none ∧
    ((framing .hunt 192 1 false).framer .survey).state = .hunt ∧
    ((framing .body 192 1 true).framer .survey).state = .body ∧
    ((framing .body 192 1 true).framer .survey).stopSpace = true ∧
    ((framing .hunt 191 1 false).framer .survey).spaceRun < 192 ∧
    ((framing .brk 192 1 false).framer .survey).state = .brk := by decide +kernel

theorem witness_framer_limits : ((framing .lead 0 41 false).framer .survey).state = .lead ∧
    ((framing .lead 0 41 false).framer .survey).limit = some 41 ∧
    ((framing .lead 0 40 false).framer .survey).limit = some 40 ∧
    ((framing .lead 0 41 false).framer .survey).position = none ∧
    ((framing .lead 0 41 false).framer .survey).stopSpace = false ∧
    ((framing .lead 0 41 false).framer .survey).outcome = none ∧
    ((framing .body 0 25 false).framer .survey).state = .body ∧
    ((framing .body 0 25 false).framer .survey).limit = some 25 ∧
    ((framing .body 0 24 false).framer .survey).limit = some 24 := by decide +kernel

theorem witness_framer_edge : ((framing .lead 0 39 false).framer .survey).limit = some 39 ∧
    ((framing .lead 0 39 false).framer .survey).spaceRun = 0 ∧
    ((framing .body 0 23 false).framer .survey).state = .body ∧ ((framing .body 1 23 false).framer .survey).spaceRun = 1 ∧
    ((framing .body 155 0 true).framer .survey).stopSpace = true ∧ (heard5.rxOf (.path 0)).warmUp = false := by
  decide +kernel

/-- The samples of a byte from sample 2 of its start bit up to its stop bit's sample 11, with the samples numbered flips
inverted. -/
def byteSamples (b : Byte) (flips : List Nat) : List Tone :=
  (List.range 154).map (fun k =>
    let x := frameTone [b] (21 + (k + 1) / 16)
    if flips.contains (k + 2) then (if x == .mark then .space else .mark) else x)

/-- A path framer of heard5 that has taken sample p of a byte, with the data bits read so far. -/
def reading (st : FramerState) (buffer : List Byte) (p : Nat) (shift : Byte) : State :=
  heard5.modFramer (.path 0) (fun f =>
    { f with state := st, position := some p, limit := some 17, buffer := buffer, crc := crc8 buffer, shift := shift })

/-- A clean lead byte, one with a noisy start bit and a noisy data bit, one whose stop bit is space, and a false edge. -/
theorem witness_byte : (byteSamples 0xB4 []).length = 154 ∧ spacesAt (byteSamples 0xB4 []) [4, 6, 8] = 3 ∧
    spacesAt (byteSamples 0xB4 [6, 25]) [4, 6, 8] = 2 ∧ bitSpaces (byteSamples 0xB4 [6, 25]) 1 = 2 ∧
    bitSpaces (byteSamples 0xB4 []) 9 = 0 ∧ bitSpaces (byteSamples 0xB4 [153, 154]) 9 = 2 ∧
    spacesAt ((byteSamples 0xB4 [4, 6]).take 7) [4, 6, 8] = 1 ∧ ((byteSamples 0xB4 [4, 6]).take 7).length = 7 := by
  decide +kernel

theorem witness_byte_reader : ((reading .body (frame.take 2) 1 0).framer (.path 0)).crc = crc8 (frame.take 2) ∧
    ((reading .lead [] 1 0).framer (.path 0)).buffer = [] ∧ ((reading .lead [] 1 0).framer (.path 0)).votes = 0 ∧
    ((reading .lead [] 1 0).framer (.path 0)).stopSpace = false ∧
    ((reading .lead [] 1 0).framer (.path 0)).outcome = none := by decide +kernel

/-- R26, R27: a start bit with sample 6 inverted and a mark bit with its second deciding sample inverted are read, and each
adds 1 to the noise count. -/
theorem test_noisy_bits_are_read :
    ((feedTones (.path 0) ((byteSamples 0xB4 [6]).take 7) (reading .lead [] 1 0)).framer (.path 0)).noise = 1 ∧
    ((feedTones (.path 0) ((byteSamples 0xB4 [58]).drop 47 |>.take 11) (reading .lead [] 48 0)).framer (.path 0)).noise = 1 ∧
    ((feedTones (.path 0) ((byteSamples 0xB4 [58]).drop 47 |>.take 11) (reading .lead [] 48 0)).framer (.path 0)).shift = 4 := by
  decide +kernel

/-- R26, R28, R30: a false edge, a stop bit of space with the mark that follows it, a lead byte, and one of another value. -/
theorem test_byte_ends :
    ((feedTones (.path 0) ((byteSamples 0xB4 [4, 6]).take 7) (reading .lead [] 1 0)).framer (.path 0)).position = none ∧
    ((feedTones (.path 0) ((byteSamples 0xB4 [153, 154]).drop 143 ++ [.mark]) (reading .lead [] 144 0xB4)).framer
      (.path 0)).outcome = some .framing ∧
    ((feedTones (.path 0) ((byteSamples 0xB4 []).drop 143) (reading .lead [] 144 0xB4)).framer (.path 0)).state = .body ∧
    ((feedTones (.path 0) ((byteSamples 0xB5 []).drop 143) (reading .lead [] 144 0xB5)).framer (.path 0)).outcome =
      some .malformed := by decide +kernel

/-- The witness frame with one byte replaced: a lead byte, a network without the open flag, a claim count of 13. -/
theorem witness_frame_ends : FrameEnds heard5.netFilter (frame.set 0 0xB5) 0 0 .malformed ∧
    FrameEnds { network := 6, acceptOpen := false } frame 0 2 .foreign ∧
    FrameEnds heard5.netFilter (frame.set 2 13) 0 2 .malformed :=
  ⟨.inl (by decide), .inr (.inr (.inl (by decide))), .inr (.inl (by decide))⟩

/-- The witness frame with a wrong CRC ends at its last byte and at none before. -/
theorem witness_frame_ends_late : FrameEnds heard5.netFilter (frame.set 11 0) 0 11 .crcFail ∧ 11 < (frame.set 11 0).length ∧
    ∀ k, k < 11 → ∀ o, ¬FrameEnds heard5.netFilter (frame.set 11 0) 0 k o := by
  refine ⟨.inr (.inr (.inr (.inr (.inr (.inr (.inl (by decide +kernel))))))), by decide, fun k hk o h => ?_⟩
  rcases h with ⟨rfl, h, -⟩ | ⟨rfl, h, -⟩ | ⟨rfl, -, h, -⟩ | ⟨rfl, h, -⟩ | ⟨rfl, h, -⟩ | ⟨h, -⟩ | ⟨h, h', -⟩ | ⟨h, h', -⟩
  · exact absurd h (by decide)
  · exact absurd h (by decide)
  · exact absurd h (by decide)
  · exact absurd h (by decide)
  · exact absurd h (by decide)
  · omega
  · have : (byteAt (frame.set 11 0) 2).toNat % 16 = 1 := by decide
    dsimp only at h; omega
  · have : (byteAt (frame.set 11 0) 2).toNat % 16 = 1 := by decide
    dsimp only at h; omega

/-- The samples of the witness frame wait at a path framer in HUNT. -/
def onTheAir : State := heard5.withPending ((frameSamples frame).map (Instr.tagLineSample (.path 0)))

theorem witness_frame_on_the_air : (onTheAir.framer (.path 0)).state = .hunt ∧
    (onTheAir.framer (.path 0)).spaceRun < 192 ∧ (onTheAir.framer (.path 0)).outcome = none ∧
    (onTheAir.rxOf (.path 0)).warmUp = false ∧ readable onTheAir.netFilter frame = true := by decide +kernel

theorem witness_frame_on_the_air_waits :
    onTheAir.pending = (frameSamples frame).map (Instr.tagLineSample (.path 0)) := State.withPending_pending _ _

/-- A station at a frame start, and one whose next boundary is one. -/
def frameDue (n : Nat) : State := { onAir with builder := { onAir.builder with frameTimer := n } }

theorem witness_snapshot : (claimBytes onAir).length ≤ 12 ∧ onAir.params.stationId ≠ 0 ∧ onAir.params.stationId ≠ 65535 ∧
    (onAir.carryOf 0).programme ≠ 0 := by decide +kernel

theorem witness_frame_start : 400 ≤ (frameDue 400).builder.frameTimer ∧ (claimBytes (frameDue 400)).length ≤ 12 ∧
    (frameDue 400).station = .running ∧ ((frameDue 400).carryOf 0).enabled = true ∧
    (frameDue 399).builder.frameTimer < 400 ∧ 399 ≤ (frameDue 399).builder.frameTimer ∧ (State.reset.carryOf 0).enabled = false := by decide +kernel

theorem witness_outcome_without_frame : ((decided .survey .foreign running).framer .survey).outcome = some .foreign ∧
    ((decided (.path 0) .crcFail onAir).framer (.path 0)).outcome = some .crcFail ∧
    (decided (.path 0) .crcFail onAir).station = .running ∧
    ((decided (.path 0) .crcFail onAir).path 0).selected = some ⟨40, 5, 1⟩ ∧
    ((decided (.path 0) .crcFail onAir).rxSide 0).word ≠ slotWord 40 ∧
    ((decided (.path 0) .crcFail heard5).rxSide 0).word = slotWord 40 ∧
    (running.framer .survey).outcome = none := by decide +kernel

/-- Path 0 of a station that hears station 5 has decided a good frame. -/
def goodFrame : State := decided (.path 0) (.good frame 0) heard5

theorem witness_frame_held : FrameHeld goodFrame (readFrame frame) none :=
  Or.inl ⟨neighbour5, by decide +kernel, by decide +kernel, by decide +kernel⟩

theorem witness_frame_held_afresh :
    FrameHeld { goodFrame with neighbours := [{ neighbour5 with network := 6 }] } (readFrame frame) (some 5) :=
  Or.inl ⟨{ neighbour5 with network := 6 }, by decide +kernel, by decide +kernel, by decide +kernel⟩

theorem witness_frame_inserted : FrameHeld { goodFrame with neighbours := [] } (readFrame frame) none :=
  Or.inr ⟨by simp, Or.inl ⟨by simp, rfl⟩⟩

theorem witness_good_frame : (goodFrame.framer (.path 0)).outcome = some (.good frame 0) ∧
    goodFrame.station = .running ∧ (readFrame frame).station ≠ goodFrame.params.stationId ∧ TablesOk goodFrame ∧
    goodFrame.sources.length < 32 ∧ neighbour5 ∈ goodFrame.neighbours ∧
    neighbour5.station = (readFrame frame).station ∧ neighbour5.network = (readFrame frame).network ∧
    matchesCarry goodFrame (readFrame frame) = true := by decide +kernel

/-- The same with the record of station 5 in another network, with no record of it, and with programmes it does not carry. -/
theorem witness_good_frame_cases :
    TablesOk { goodFrame with neighbours := [{ neighbour5 with network := 6 }] } ∧
    ({ neighbour5 with network := 6 } : Neighbour).station = (readFrame frame).station ∧
    ({ neighbour5 with network := 6 } : Neighbour).network ≠ (readFrame frame).network := by decide +kernel

theorem witness_good_frame_more_cases : TablesOk { goodFrame with neighbours := [] } ∧
    TablesOk { goodFrame with sources := [entry] } ∧ entry.slot = heardSlot (goodFrame.rxSide 0).word ∧
    entry.station = (readFrame frame).station ∧
    matchesCarry { goodFrame with carry := State.reset.carry } (readFrame frame) = false ∧
    (goodFrame.rxSide 0).latest = some 200 := by decide +kernel

/-- A full neighbour list of 24 stations that were all last heard at one time. -/
def fullList (last : Time) : State :=
  { goodFrame with neighbours := (List.range 24).map (fun n =>
      { neighbour5 with station := BitVec.ofNat 16 (100 + n), lastHeard := last }) }

theorem witness_full_list : (fullList 89999).neighbours.length = 24 ∧ TablesOk (fullList 89999) ∧
    (∀ r ∈ (fullList 89999).neighbours, r.station ≠ (readFrame frame).station) ∧
    age (fullList 89999).now 89999 = 10001 ∧ age (fullList 90000).now 90000 = 10000 := by decide +kernel

theorem witness_frame_replaces : FrameHeld (fullList 89999) (readFrame frame) (some 123) :=
  Or.inr ⟨by decide +kernel, Or.inr ⟨by decide +kernel,
    { neighbour5 with station := 123, lastHeard := 89999 }, by decide +kernel, by decide +kernel, by decide +kernel⟩⟩

/-- R59: of records heard last at one time, one heard by survey only goes first, then the larger lowest depth, then the
absent flag, then the higher station ID. -/
theorem test_replacement_ties :
    [({ neighbour5 with whereHeard := .survey }, { neighbour5 with lowestDepth := 9 }),
      ({ neighbour5 with lowestDepth := 2 }, { neighbour5 with lastAbsent := true }),
      ({ neighbour5 with lastAbsent := true }, { neighbour5 with station := 6 }),
      (({ neighbour5 with station := 6 } : Neighbour), neighbour5)].map (fun (a, b) => candidateBefore 100000 a b) =
    [true, true, true, true] := by decide +kernel

/-- A source table of 32 entries on slots 0 to 31, the one on slot 9 of the lowest quality. -/
def fullTable : State :=
  { goodFrame with sources := (indices 32).map (fun n : Fin 32 =>
      { entry with slot := ⟨n.val, by omega⟩, station := 9, quality := if n = 9 then 3 else 75 }) }

theorem witness_full_table : TablesOk fullTable ∧ fullTable.sources.length = 32 ∧
    (∀ e ∈ fullTable.sources, ¬(e.slot = 40 ∧ e.station = 5)) ∧
    { entry with slot := 9, station := 9, quality := 3 } ∈ fullTable.sources ∧
    isSelected fullTable { entry with slot := 9, station := 9, quality := 3 } = false ∧
    (∀ e ∈ fullTable.sources, e ≠ { entry with slot := 9, station := 9, quality := 3 } → 3 < e.quality) ∧
    FrameHeld fullTable (readFrame frame) none :=
  ⟨by decide +kernel, by decide +kernel, by decide +kernel, by decide +kernel, by decide +kernel, by decide +kernel,
    Or.inl ⟨neighbour5, by decide +kernel, by decide +kernel, by decide +kernel⟩⟩

/-- Frames of station 5 that claim slot 12: HELD, and INTENT. -/
def claimBody (c : Byte) : List Byte := [0xB4, 5, 1, 0, 5, 1, 143, 16, 0, 3, c]
def claimFrame (c : Byte) : List Byte := claimBody c ++ [crc8 (claimBody c)]

/-- Path 0 holds an INTENT, or a HELD claim, on slot 12, and path 1 has read station 5's claim on it. -/
def contested (s : State) (own : StationId) (c : Byte) : State :=
  decided (.path 1) (.good (claimFrame c) 0)
    { s with
      params := { s.params with stationId := own }
      neighbours := [neighbour5]
      paths := updAll s.paths (fun _ p => { p with selected := p.selected.map (fun x => { x with station := 9 }) })
      rx := updAll s.rx (fun _ r => { r with word := slotWord 50, warmUp := false }) }

/-- Slot 7 holds a full peer list; station 5 displaces its highest record. -/
def crowded : State := goodFrame.modSlot 40 (fun e => { e with peers :=
  [⟨6, .held, false, 120000⟩, ⟨7, .held, false, 120000⟩, ⟨8, .held, false, 120000⟩, ⟨9, .held, false, 120000⟩] })

theorem witness_full_peer_list : TablesOk crowded ∧ (crowded.slot 40).peers.length = 4 ∧
    (∀ p ∈ (crowded.slot 40).peers, p.station ≠ (readFrame frame).station) := by decide +kernel

/-- The monitor listens to path 0. -/
def visiting (bs : List Byte) : State :=
  decided .monitor (.good bs 0) { onAir with mon := { onAir.mon with visit :=
    (some { phase := .listening, path := 0, slot := 12, cond := .full, deadline := 100000 } : Option Visit) } }

/-- The own station's frame of path 0, and one of another programme. -/
def ownBody (pr : Byte) : List Byte := [0xB4, 5, 1, 0, 20, 1, pr, 32, 0, 5, 76]
def ownFrame (pr : Byte) : List Byte := ownBody pr ++ [crc8 (ownBody pr)]

theorem witness_own_tag_outcome : ((visiting (ownFrame 45)).framer .monitor).outcome =
    some (.good (ownFrame 45) 0) := rfl

theorem witness_own_tag : (visiting (ownFrame 45)).station = .running ∧
    (readFrame (ownFrame 45)).station = (visiting (ownFrame 45)).params.stationId ∧
    (readFrame (ownFrame 45)).programme = ((visiting (ownFrame 45)).carryOf 0).programme ∧
    (readFrame (ownFrame 46)).programme ≠ ((visiting (ownFrame 46)).carryOf 0).programme ∧
    reached (visiting (ownFrame 45)).now 100000 = true := by decide +kernel

theorem witness_visit_listens : ∃ v, (visiting (ownFrame 45)).mon.visit = some v ∧ v.phase = .listening ∧ v.path = 0 ∧
    v.deadline = 100000 := ⟨_, rfl, rfl, rfl, rfl⟩

theorem witness_level_grade : Params.default.mFloor < Params.default.mGood ∧ (31 : Nat) < Params.default.mFloor ∧
    Params.default.mFloor ≤ 32 ∧ Params.default.mGood ≤ 256 ∧ (∃ e : Source, e.integrityGrade = 40) ∧
    (∃ e : Source, e.integrityGrade = 99) ∧ (∃ e : Source, e.integrityGrade = 100) :=
  ⟨by decide, by decide, by decide, by decide, ⟨{ entry with integrityGrade := 40 }, rfl⟩,
    ⟨{ entry with integrityGrade := 99 }, rfl⟩, ⟨{ entry with integrityGrade := 100 }, rfl⟩⟩

/-- A station with a queue of survey requests; slot 12 is held, slot 40 received. -/
def asking (q : List Slot) (scan : Slot) : State :=
  { onAir with survey := { onAir.survey with requests := q, scanPosition := scan } }

theorem witness_dwell_start : (asking [12, 40, 7] 63).station = .running ∧ (asking [12, 40, 7] 63).survey.dwell = none ∧
    (asking [12, 40, 7] 63).survey.requests = [12, 40] ++ 7 :: [] ∧
    ((asking [12, 40, 7] 63).slot 12).own ≠ .none ∧ ((asking [12, 40, 7] 63).path 0).rxSlot = some 40 ∧
    (∀ i : PathIx, ((asking [12, 40, 7] 63).path i).rxSlot ≠ some 7) ∧
    ((asking [12, 40, 7] 63).slot 7).own = .none ∧
    ((asking [] 63).slot 63).attr = .both ∧ (∀ i : PathIx, ((asking [] 63).path i).rxSlot ≠ some 63) ∧
    ((asking [] 63).slot 63).own = .none ∧ ((63 : Slot) - (asking [] 63).survey.scanPosition) = 0 := by decide +kernel

/-- A dwell on slot 40 with its check complete, and one in LISTENING at its deadline. -/
def dwelling (ph : DwellPhase) (checks good : Nat) : State :=
  { onAir with
    sources := [entry]
    survey := { onAir.survey with dwell :=
      (some { phase := ph, slot := 40, deadline := 100000, checks := checks, good := good, latest := some 20 } :
        Option Dwell) } }

theorem witness_dwell_ends : ∃ d, (dwelling .check 20 1).survey.dwell = some d ∧ d.phase = .check ∧ d.checks = 20 ∧
    1 ≤ d.good := ⟨_, rfl, rfl, rfl, Nat.le_refl 1⟩

theorem witness_dwell_empty : ∃ d, (dwelling .check 20 0).survey.dwell = some d ∧ d.phase = .check ∧ d.checks = 20 ∧
    d.good = 0 := ⟨_, rfl, rfl, rfl, rfl⟩

theorem witness_dwell_deadline : ∃ d, (dwelling .listening 20 1).survey.dwell = some d ∧ d.phase = .listening ∧
    reached (dwelling .listening 20 1).now d.deadline = true := ⟨_, rfl, rfl, by decide⟩

theorem witness_dwell_goes_on : ∃ d, (dwelling .check 19 0).survey.dwell = some d ∧ d.checks < 20 ∧
    d.phase ≠ .listening := ⟨_, rfl, by decide, by decide⟩

/-- A survey frame of station 5 meets a dwell in LISTENING, and one in CHECK. -/
theorem witness_survey_frame : ∀ ph ∈ [DwellPhase.listening, .check],
    (((decided .survey (.good frame 0) (dwelling ph 3 1)).framer .survey).outcome = some (.good frame 0) ∧
    (decided .survey (.good frame 0) (dwelling ph 3 1)).station = .running ∧
    TablesOk (decided .survey (.good frame 0) (dwelling ph 3 1)) ∧
    (decided .survey (.good frame 0) (dwelling ph 3 1)).survey.dwell.isSome = true) := by decide +kernel

/-- Path 0 in CLAIMING on slot 12, whose hold-off ends at 100,000. -/
def claiming : State :=
  (holding 0 .claiming 12 .tagOnly (sourced 0 .claiming running)).modSlot 12
    (fun e => { e with own := .intent, ownDeadline := some 100000 })

theorem witness_hold_off_end : EntryOk (claiming.slot 12) ∧ (claiming.slot 12).own = .intent ∧
    (claiming.slot 12).ownPath = some 0 ∧ (claiming.path 0).state = .claiming ∧
    (claiming.slot 12).ownDeadline = some 100000 ∧ reached claiming.now 100000 = true ∧ claiming.station = .running ∧
    claiming.gov.site = .transmitting ∧ (onAir.slot 12).own ≠ .intent := by decide +kernel

/-- The same with a pinned peer on the slot. -/
theorem witness_hold_off_end_contended :
    (claiming.modSlot 12 (fun e => { e with peers := [⟨21, .intent, true, 120000⟩] })).slot 12 =
      { claiming.slot 12 with peers := [⟨21, .intent, true, 120000⟩] } ∧
    EntryOk { claiming.slot 12 with peers := [⟨21, .intent, true, 120000⟩] } := by decide +kernel

/-- Station 5's HELD claim meets the INTENT and the HELD claim of path 0; its INTENT meets the INTENT of station 4. -/
theorem witness_own_claims : (∀ s ∈ [contested claiming 20 76, contested claiming 4 12, contested onAir 20 76],
      s.station = .running ∧ TablesOk s ∧ ClaimsOk s ∧ MarksServed s ∧ neighbour5 ∈ s.neighbours ∧
      (∀ k : Slot, ∀ p ∈ (s.slot k).peers, p.station ≠ neighbour5.station) ∧
      (s.path 0).selected = some ⟨40, 9, 1⟩ ∧ (s.slot 12).ownPath = some 0) ∧
    ((contested claiming 20 76).slot 12).own = .intent ∧ ((contested onAir 20 76).slot 12).own = .held ∧
    (readFrame (claimFrame 76)).claims = [⟨12, .held, false⟩] ∧
    (readFrame (claimFrame 12)).claims = [⟨12, .intent, false⟩] ∧
    (readFrame (claimFrame 76)).station = neighbour5.station ∧
    (readFrame (claimFrame 76)).network = neighbour5.network := by decide +kernel

/-- R98, R122: the withdrawn path's transmit entry stands with its cancellation owed, or leaves the queue in the act. -/
theorem test_withdrawal_owes_or_cancels :
    (framerOutcome (.path 1) ⟨.claimsFirst, 1⟩
      { contested claiming 20 76 with tuning := [⟨0, .transmit, 12⟩] }).tuning = [⟨0, .transmit, 12⟩] ∧
    ((framerOutcome (.path 1) ⟨.claimsFirst, 1⟩ (contested claiming 20 76)).path 0).cancelOwed = 1 ∧
    (framerOutcome (.path 1) ⟨.claimsFirst, 0⟩
      { contested claiming 20 76 with tuning := [⟨0, .transmit, 12⟩] }).tuning = [] ∧
    ((framerOutcome (.path 1) ⟨.claimsFirst, 0⟩ (contested claiming 20 76)).path 0).cancelOwed = 0 := by
  decide +kernel

/-- Slot 12 of path 0 in collision with a peer, at its deadline. -/
def colliding (p : Peer) : State :=
  onAir.modSlot 12 (fun e => { e with collision := some 100000, peers := [p] })

theorem witness_collision_expiry : MarksServed (colliding ⟨19, .held, false, 120000⟩) ∧
    ((colliding ⟨19, .held, false, 120000⟩).slot 12).own = .held ∧
    ((colliding ⟨19, .held, false, 120000⟩).slot 12).ownPinned = false ∧
    ((colliding ⟨19, .held, false, 120000⟩).slot 12).ownPath = some 0 ∧
    ((colliding ⟨19, .held, false, 120000⟩).slot 12).collision = some 100000 ∧
    reached (colliding ⟨19, .held, false, 120000⟩).now 100000 = true ∧
    (⟨19, .held, false, 120000⟩ : Peer) ∈ ((colliding ⟨19, .held, false, 120000⟩).slot 12).peers ∧
    (19 : StationId) < (colliding ⟨19, .held, false, 120000⟩).params.stationId ∧
    ((colliding ⟨19, .held, false, 120000⟩).path 0).state = .on ∧
    (colliding ⟨21, .held, false, 120000⟩).params.stationId ≤ (21 : StationId) := by decide +kernel

/-- Path 0 waits for a slot and its retry deadline is reached; path 2 waits too and is pinned to slot 12. -/
def retrying (i : PathIx) : State :=
  (sourced i .waitSlot running).modWait i (fun w => { w with retryDeadline := some 100000 })

theorem witness_claim_retry : MarksServed (retrying 0) ∧ ((retrying 0).wait 0).retryDeadline = some 100000 ∧
    reached (retrying 0).now 100000 = true ∧ ((retrying 0).path 0).state = .waitSlot ∧ (retrying 0).station = .running ∧
    (retrying 0).gov.site = .transmitting ∧ holdsSlot (retrying 0) 0 = false ∧
    ((retrying 0).carryOf 0).pinned = false ∧
    nearestEligible (retrying 0) ((retrying 0).carryOf 0).preferred = some 12 := by decide +kernel

/-- The waiting path still owes the cancellation of its withdrawn claim's entry. -/
theorem witness_claim_retry_owing :
    (((retrying 0).modPath 0 (fun p => { p with cancelOwed := 1 })).path 0).cancelOwed = 1 ∧
    nearestEligible ((retrying 0).modPath 0 (fun p => { p with cancelOwed := 1 })) 12 = some 12 := by decide +kernel

theorem witness_claim_retry_pinned : MarksServed (retrying 2) ∧ ((retrying 2).wait 2).retryDeadline = some 100000 ∧
    ((retrying 2).path 2).state = .waitSlot ∧ holdsSlot (retrying 2) 2 = false ∧ anyEligible (retrying 2) = true ∧
    ((retrying 2).carryOf 2).pinned = true ∧
    pinnedEligible (retrying 2) ((retrying 2).carryOf 2).preferred = true := by decide +kernel

/-- A running station with the entry of station 5 in its table. -/
def settledTable : State := { running with sources := [entry] }

/-- A station with the entry of station 5 in its table and paths that seek, hold over and stay ON. -/
def seeking (st : PathState) : State :=
  { (running.modPath 0 (fun p => { p with state := st, evalDeadline := some 100000 })) with sources := [entry] }

theorem witness_stale_slot : TablesOk { settledTable with timing := { running.timing with ms := 140000 } } ∧
    staleSlot { settledTable with timing := { running.timing with ms := 140000 } } 0 = some 40 ∧
    staleSlot settledTable 0 = none := by decide +kernel

theorem witness_evaluation : MarksServed (seeking .seeking) ∧ (seeking .seeking).station = .running ∧
    ((seeking .seeking).path 0).evalDeadline = some 100000 ∧ reached (seeking .seeking).now 100000 = true ∧
    ((seeking .holdover).path 0).state = .holdover ∧ ((seeking .seeking).path 0).rxSlot = none ∧
    bestFresh (seeking .seeking) 0 = some entry ∧ bestFresh (seeking .holdover) 0 = some entry ∧
    bestFresh (seeking .seeking) 1 = none ∧ ((seeking .acquiring).path 0).state = .acquiring := by decide +kernel

/-- Both sides of path 0 are pending: the queue takes both requests, one, or none. -/
theorem test_upkeep_asks_for_both_sides : ∀ s ∈ [(onAir.modPath 0 (fun p => { p with rxPending := true }))],
    (tuningUpkeep 0 s).tuning = [⟨0, .receive, 40⟩, ⟨0, .transmit, 12⟩] ∧
    (tuningUpkeep 0 { s with tuning := [⟨1, .receive, 1⟩, ⟨2, .receive, 1⟩, ⟨3, .receive, 1⟩] }).tuning =
      [⟨1, .receive, 1⟩, ⟨2, .receive, 1⟩, ⟨3, .receive, 1⟩, ⟨0, .receive, 40⟩] ∧
    (tuningUpkeep 0 { s with tuning := [⟨0, .transmit, 13⟩] }).tuning = [⟨0, .transmit, 13⟩, ⟨0, .receive, 40⟩] := by
  decide +kernel

/-- A better source than the one that path 0 receives, met for the third time. -/
def rival : Source := { entry with slot := 44, station := 6, depth := 0, upstream := none, levelGrade := 100, quality := 90 }
def switchable : State :=
  { (onAir.modPath 0 (fun p =>
      { p with evalDeadline := some 100000, candidate := some (44, 6), candidateCount := 2 })) with
    sources := [entry, rival] }

theorem witness_switch : switchable.station = .running ∧ (switchable.path 0).evalDeadline = some 100000 ∧
    (switchable.path 0).state = .on ∧ switchAnswer switchable 0 = some rival := by decide +kernel

/-- The same rival met for the second time, and no rival at all. -/
theorem witness_stay :
    (∃ b sel, bestFresh (switchable.modPath 0 (fun p => { p with candidateCount := 1 })) 0 = some b ∧
      selectedEntry (switchable.modPath 0 (fun p => { p with candidateCount := 1 })) 0 = some sel ∧ b.slot ≠ sel.slot ∧
      score switchable.params sel + switchable.params.switchMargin < score switchable.params b) ∧
    switchAnswer (switchable.modPath 0 (fun p => { p with candidateCount := 1 })) 0 = none ∧
    switchable.params.switchCount = 3 ∧ switchAnswer { switchable with sources := [entry] } 0 = none ∧
    bestFresh { switchable with sources := [entry] } 0 = some entry :=
  ⟨⟨rival, entry, by decide +kernel, by decide +kernel, by decide, by decide +kernel⟩, by decide +kernel, by decide,
    by decide +kernel, by decide +kernel⟩

theorem witness_acquisition_fails : ((checking (.counting 20)).path 0).state = .switching ∧
    ((checking (.counting 20)).path 0).check = .counting 20 ∧
    ((checking (.counting 20)).path 0).acquireDeadline = some 100000 ∧
    reached (checking (.counting 20)).now 100000 = true := by decide +kernel

theorem witness_source_loss : (onAir.path 0).selected ≠ none ∧ (onAir.path 0).state = .on ∧
    (onAir.path 0).lastSourceFrame = some 98000 ∧ age onAir.now 98000 = 2000 ∧
    (claiming.path 0).state = .claiming ∧ (claiming.path 0).selected ≠ none ∧
    ((onAir.modPath 0 (fun p => { p with lowCarrier := 50 })).path 0).lowCarrier = 50 ∧
    (onAir.path 0).lowCarrier < 50 ∧ (running.path 0).lastSourceFrame = none := by decide +kernel

/-- A path in HOLDOVER at its deadline. -/
def heldOver : State :=
  (holding 0 .holdover 12 .tagOnly running).modPath 0 (fun p => { p with holdoverDeadline := some 100000 })

theorem witness_holdover : (heldOver.path 0).state = .holdover ∧ (heldOver.path 0).holdoverDeadline = some 100000 ∧
    reached heldOver.now 100000 = true ∧ (onAir.path 0).holdoverDeadline = none := by decide +kernel

/-- Two paths wait while path 0's slot 12, or the last peer record on it, keeps the one slot that they could take. -/
def waitingTwo (s : State) : State :=
  { (sourced 4 .waitSlot (sourced 3 .waitSlot s)) with
    slots := updAll s.slots (fun k e => if k = 12 then e else { e with attr := .watch }) }

/-- Slot 12 with one peer record at its expiry. -/
def lapsing : State := waitingTwo (running.modSlot 12 (fun e => { e with peers := [⟨9, .held, false, 100000⟩] }))

theorem witness_freed_slot : lapsing.claimingPermitted = true ∧ (lapsing.slot 12).peers ≠ [] ∧
    ((peerClaimExpiry lapsing).slot 12).peers = [] ∧ (lapsing.slot 12).own = .none ∧ (lapsing.slot 12).attr = .both ∧
    guarded lapsing 12 = false ∧ WaitsOn lapsing (peerClaimExpiry lapsing) 4 ∧
    (waitingTwo heldOver).claimingPermitted = true ∧ ((waitingTwo heldOver).slot 12).own ≠ .none ∧
    ((waitingTwo heldOver).slot 12).ownPath = some 0 ∧ ((waitingTwo heldOver).slot 12).peers = [] ∧
    guarded (waitingTwo heldOver) 12 = false ∧
    WaitsOn (waitingTwo heldOver) (holdoverExpired 0 (waitingTwo heldOver)) 4 := by decide +kernel

/-- R103, R121: of two waiting paths the first takes the slot that comes free, and the second waits on. -/
theorem test_waiting_paths_ask : ((peerClaimExpiry lapsing).slot 12).ownPath = some 3 ∧
    ((holdoverExpired 0 (waitingTwo heldOver)).slot 12).ownPath = some 3 ∧
    ((peerClaimExpiry lapsing).path 4).state = .waitSlot := by decide +kernel

/-- Path 0 in a state, with its carrier check at c, hears a good frame of its selected source. -/
def hearing (st : PathState) (c : CarrierCheck) (base : State) : State :=
  decided (.path 0) (.good frame 0)
    { base.modPath 0 (fun p => { p with state := st, check := c }) with
      neighbours := [neighbour5], sources := [entry]
      rx := updAll base.rx (fun _ r => { r with word := slotWord 40, warmUp := false, latest := some 200 }) }

def hearings : List State :=
  [hearing .switching .passed onAir, hearing .acquiring .passed (sourced 0 .acquiring running),
    hearing .acquiring (.counting 3) (sourced 0 .acquiring running), hearing .on .passed onAir]

theorem witness_acquired_invariants : ∀ s ∈ hearings, TablesOk s ∧ ClaimsOk s ∧ MarksServed s := by decide +kernel

theorem witness_acquired : ∀ s ∈ hearings, s.station = .running ∧ neighbour5 ∈ s.neighbours ∧
    (s.path 0).selected = some ⟨40, 5, 1⟩ ∧ (s.path 0).rxSlot = some 40 ∧ (s.rxSide 0).word = slotWord 40 ∧
    entry ∈ s.sources ∧ (s.carryOf 0).programme = 301 ∧ (s.carryOf 0).enabled = true ∧ s.params.networkId = 5 ∧
    (∀ j : PathIx, j ≠ 0 → (s.path j).selected = none) ∧ s.claimingPermitted = true ∧
    (s.framer (.path 0)).outcome = some (.good frame 0) := by decide +kernel

theorem witness_acquired_frame : readFrame frame =
    { network := 5, openFlag := false, absent := false, station := 5, programme := 301, depth := 1
      upstream := 3, claims := [⟨40, .held, false⟩] } := by decide +kernel

/-- The same while the station listens, so that claiming is not permitted. -/
theorem witness_acquired_silent :
    ClaimsOk { hearing .acquiring .passed (sourced 0 .acquiring (listeningUntil true)) with pending := [] } ∧
    (hearing .acquiring .passed (sourced 0 .acquiring (listeningUntil true))).claimingPermitted = false ∧
    (hearing .acquiring .passed (sourced 0 .acquiring (listeningUntil true))).station = .listen := by decide +kernel

/-- The site inhibited, muted, locked out. -/
def inhibited : State :=
  { running with
    gov := { running.gov with site := .inhibited, graceDeadline := some 160000 }
    lines := { running.lines with permit := false } }
def muted : State :=
  { running with gov := { running.gov with site := .muted, muteDeadline := some 100000, graceDeadline := some 150000 } }
def lockedOut : State :=
  { running with
    gov := { running.gov with site := .lockedOut, lockoutDeadline := some 100000 }
    lines := { running.lines with alarm := true } }

theorem witness_permit : LevelsOk onAir ∧ onAir.station = .running ∧ onAir.gov.lockoutDeadline = none ∧
    onAir.gov.muteDeadline = none ∧ onAir.lines.permit = true ∧ onAir.anyOnAir = true ∧ LevelsOk inhibited ∧
    inhibited.lines.permit = false ∧ LevelsOk muted ∧ muted.gov.muteDeadline ≠ none := by decide +kernel

theorem witness_mute_and_lockout : LevelsOk muted ∧ muted.gov.muteDeadline = some 100000 ∧
    reached muted.now 100000 = true ∧ LevelsOk lockedOut ∧ lockedOut.gov.lockoutDeadline = some 100000 ∧
    reached lockedOut.now 100000 = true ∧ running.gov.muteDeadline = none := by decide +kernel

/-- A mute that ends with the permit low, and one that ends at the boundary that begins. -/
def mutedFor (d : Time) (permit : Bool) : State :=
  { running with
    gov := { running.gov with site := .muted, muteDeadline := some d, graceDeadline := some 150000 }
    lines := { running.lines with permit := permit } }

theorem witness_mute_ends_inhibited : LevelsOk (mutedFor 100000 false) ∧
    (muteEnd (mutedFor 100000 false)).gov.site = .inhibited := by decide +kernel

theorem witness_mute_end_first : LevelsOk (mutedFor 100001 true) ∧ (mutedFor 100001 true).station = .running ∧
    (mutedFor 100001 true).gov.muteDeadline = some 100001 ∧ (mutedFor 100001 true).gov.lockoutDeadline = none ∧
    reached ((mutedFor 100001 true).timing.ms + 1) 100001 = true ∧
    (mutedFor 100001 true).composite.clips ≤ (mutedFor 100001 true).params.clipLimit := by decide +kernel

/-- R144: MUTE_END before the evaluation has that evaluation apply the cap of 64; after it, the next one. -/
theorem test_cap_at_the_mute_end :
    (blockBoundary (.step .muteEnd :: evaluationLast) (mutedFor 100001 true)).gov.backoff = 64 ∧
    (blockBoundary (.step .muteEnd :: evaluationLast) (mutedFor 100001 true)).gov.cap = 72 ∧
    (muteEnd (blockBoundary evaluationLast (mutedFor 100001 true))).gov.cap = 64 := by decide +kernel

/-- A muted site with a claim, whose grace ends. -/
def graceful : State := { onAir with gov := { onAir.gov with graceDeadline := some 100000 } }

theorem witness_grace : ClaimsOk graceful ∧ graceful.gov.graceDeadline = some 100000 ∧
    reached graceful.now 100000 = true ∧ (graceful.path 0).output ≠ none ∧ (graceful.path 1).output = none := by
  decide +kernel

/-- Site lines with a key hold and an alarm deadline at 100,000. -/
def holds : State :=
  { running with lines := { running.lines with
      txkey := true, keyHoldDeadline := some 100000, inhibitAlarmDeadline := some 100001 } }

theorem witness_holds : holds.lines.keyHoldDeadline = some 100000 ∧ reached holds.now 100000 = true ∧
    holds.lines.inhibitAlarmDeadline = some 100001 ∧ reached holds.now 100001 = false := by decide +kernel

/-- Path 0 radiates on its slot. -/
def radiating : State :=
  { (onAir.modTx 0 (fun t => { t with slotInUse := some 12, inUse := { cond := .full, gain := 1024, tag := 16 } })) with
    mon := { onAir.mon with visitPosition := 11 } }

theorem witness_visit : radiating.mon.visit = none ∧ radiating.gov.site = .transmitting ∧
    (radiating.path 0).output = some 12 ∧ mayVisit radiating 0 = true ∧
    (∀ j : PathIx, j - radiating.mon.visitPosition < 0 - radiating.mon.visitPosition → mayVisit radiating j = false) ∧
    (∀ i : PathIx, mayVisit running i = false) := by decide +kernel

theorem witness_tx_fault :
    ((onAir.modPath 0 (fun p => { p with txFaultDeadline := some 100000 })).path 0).txFaultDeadline = some 100000 ∧
    reached onAir.now 100000 = true ∧ (onAir.path 0).txFaultDeadline = none := by decide +kernel

theorem witness_sweep : TablesOk goodFrame ∧ ClaimsOk goodFrame ∧ goodFrame.timing.wholeSecond = true ∧
    State.reset.timing.wholeSecond = false := by decide +kernel

/-- R64: each station's release has its own order in a sweep, and both orders remove the station. -/
theorem test_sweep_orders : sweepOrder [6] 6 = .sourcesFirst ∧ sweepOrder [6] 5 = .claimsFirst ∧
    (neighbourSweep [6] { running with neighbours :=
      [{ neighbour5 with lastHeard := 0 - 20000 }, { neighbour5 with station := 6, lastHeard := 0 - 20000 }] }).neighbours = [] := by
  decide +kernel

/-- A record of one byte on the status line. -/
def talking (sent : Nat) : State := { running with status := { running.status with buffer := [0x5A], sent := sent } }

theorem witness_status : running.timing.statusDue = true ∧ State.reset.timing.statusDue = false ∧
    (talking 9).status.sent = 10 * 0 + 9 ∧ 0 < (talking 9).status.buffer.length ∧
    10 * (talking 10).status.buffer.length ≤ (talking 10).status.sent := by decide +kernel

theorem witness_samples : (running.rxSide 0).count < 256 ∧ running.mon.rx.count < 256 ∧
    running.composite.clips < 16384 ∧ running.band.alignment % 64 ≠ 63 ∧
    running.survey.rx.count < 256 ∧
    ({ running with band := { running.band with alignment := 63 } } : State).band.alignment % 64 = 63 := by
  decide +kernel

/-- A working station meets every invariant, so that none of the kept invariants is empty but for reset. -/
def settled : State := { onAir with sources := [entry] }

theorem witness_invariants : PinnedFlagOk settled ∧ TablesOk settled ∧ QualityOk settled ∧ LevelsOk settled ∧ ClaimsOk settled ∧
    MarksServed settled ∧ (settled.slot 12).own = .held ∧ (settled.path 0).selected = some ⟨40, 5, 1⟩ := by
  decide +kernel

/-- A pinned collision, and a fault history at its capacity. -/
theorem witness_pinned_flag_and_history :
    PinnedFlagOk { settled.modSlot 12 (fun e => { e with ownPinned := true, peers := [⟨9, .intent, true, 120000⟩] }) with
      pinnedCollision := true } ∧
    HistoryOk { settled.gov with faultHistory := [99000, 99500, 100000], lockoutDeadline := some 1000000 } := by
  decide +kernel

theorem witness_guard : LoadingOk settled ∧ (∀ k : Slot, (settled.slot k).own ≠ .none → k = 12) ∧
    (∀ i : PathIx, (settled.path i).rxSlot = none ∨ (settled.path i).rxSlot = some 40) ∧
    withinGuard settled.params.guardDistance 40 12 = false := by decide +kernel

theorem witness_guard_clear : GuardClear settled := by
  obtain ⟨-, hk, hr, hg⟩ := witness_guard
  intro k i hown r hrx
  cases hk k hown
  rcases hr i with h | h <;> rw [h] at hrx
  · cases hrx
  · cases hrx; exact hg

/-- R55: the survey side stays in warm-up until LISTEN and leaves it with the first block boundary in LISTEN, while the
sides of the paths leave it at the first boundary after reset (R7). -/
theorem test_survey_side_before_listen :
    (blockBoundary BoundaryAct.all State.reset).survey.rx.warmUp = true ∧
    ((blockBoundary BoundaryAct.all State.reset).rxSide 0).warmUp = false ∧
    (blockBoundary BoundaryAct.all { State.reset with station := .listen }).survey.rx.warmUp = false := by decide +kernel

theorem witness_survey_held : SurveyHeldOk (quietAt 10003) ∧ LoadingOk (quietAt 10003) ∧
    (quietAt 10003).unloaded = true := by decide +kernel

theorem witness_selections_safe : (∀ i : PathIx, (settled.path i).selected.isSome = hasSource (settled.path i).state) ∧
    (∀ i : PathIx, (settled.path i).selected = none ∨ (settled.path i).selected = some ⟨40, 5, 1⟩) ∧
    selectionSafe settled ⟨40, 5, 1⟩ = true := by decide +kernel

theorem witness_selections : SelectionsOk settled := by
  obtain ⟨h1, h2, h3⟩ := witness_selections_safe
  refine fun i => ⟨h1 i, fun x hx => ?_⟩
  rcases h2 i with h | h <;> rw [h] at hx
  · cases hx
  · cases hx; exact h3

/-- A side that is not FULL holds no programme (R11). -/
theorem witness_channels : ChannelsOk settled ∧ (settled.txSide 0).inUse.cond ≠ .full := by decide +kernel

theorem witness_step_of_settled : ∃ t, step settled = .next t := ⟨settled, rfl⟩

end Sys2Proof.Tests
end

section
/-! PROOFS. The source table and the selector (chapter 5): what the grades, the tests of eligibility and the ranking are, each
said once, and the statements about them (O31, O32, O40). -/

namespace Sys2Proof.Machine

open Sys2Proof

/-! ### The level grade (R74) -/

theorem levelGrade_of_lt {p : Params} {m : Nat} (h : m < p.mFloor) : levelGrade p m = 0 := if_pos h

theorem levelGrade_of_ge {p : Params} {m : Nat} (h : p.mFloor ≤ m) :
    levelGrade p m = min 100 ((m - p.mFloor) * 100 / (p.mGood - p.mFloor)) := if_neg (Nat.not_lt.mpr h)

@[simp] theorem levelGrade_mFloor (p : Params) : levelGrade p p.mFloor = 0 := by simp [levelGrade]

theorem levelGrade_of_good {p : Params} {m : Nat} (hp : p.mFloor < p.mGood) (h : p.mGood ≤ m) :
    levelGrade p m = 100 := by
  have hdiv : 100 ≤ (m - p.mFloor) * 100 / (p.mGood - p.mFloor) :=
    (Nat.le_div_iff_mul_le (by omega)).mpr (by omega)
  rw [levelGrade_of_ge (hp.le.trans h), Nat.min_eq_left hdiv]

theorem levelGrade_mono (p : Params) {m n : Nat} (h : m ≤ n) : levelGrade p m ≤ levelGrade p n := by
  rcases Nat.lt_or_ge m p.mFloor with hm | hm
  · simp [levelGrade_of_lt hm]
  · have hdiv : (m - p.mFloor) * 100 / (p.mGood - p.mFloor) ≤ (n - p.mFloor) * 100 / (p.mGood - p.mFloor) :=
      Nat.div_le_div_right (Nat.mul_le_mul_right _ (Nat.sub_le_sub_right h _))
    rw [levelGrade_of_ge hm, levelGrade_of_ge (hm.trans h)]
    exact min_le_min_left _ hdiv

theorem le_clampTo {lo hi : Nat} (h : lo ≤ hi) (v : Nat) : lo ≤ clampTo lo hi v := by
  unfold clampTo; split <;> [rfl; split] <;> omega

theorem clampTo_le {lo hi : Nat} (h : lo ≤ hi) (v : Nat) : clampTo lo hi v ≤ hi := by
  unfold clampTo; split <;> [exact h; split] <;> omega

/-- R160: M_good is clamped above the clamped M_floor, whose upper end leaves it room. -/
theorem settleParams_mFloor_lt_mGood (q : Params) : (settleParams q).mFloor < (settleParams q).mGood :=
  le_clampTo (Nat.succ_le_succ ((clampTo_le (by decide) q.mFloor).trans (by decide : 4095 ≤ 32766))) q.mGood

/-! ### The integrity grade (R75) -/

@[simp] theorem updateSource_integrityGrade (s : State) (f : Frame) (noise : Nat) (latest : Option Nat) (e : Source) :
    (updateSource s f noise latest e).integrityGrade = (e.integrityGrade + integrityTarget noise) / 2 := rfl

/-- A run of frames of one noise count acts on I_g alone: the halving average, as often as there are frames. -/
theorem iterate_updateSource_integrityGrade (s : State) (f : Frame) (noise : Nat) (latest : Option Nat) (n : Nat)
    (e : Source) : ((updateSource s f noise latest)^[n] e).integrityGrade =
      (fun g => (g + integrityTarget noise) / 2)^[n] e.integrityGrade :=
  have hstep : Function.Semiconj Source.integrityGrade (updateSource s f noise latest)
      (fun g => (g + integrityTarget noise) / 2) := updateSource_integrityGrade s f noise latest
  hstep.iterate_right n e

/-! ### Eligibility (R83) -/

/-- Test 7 passes when every own claim stands beyond the guard distance. -/
theorem nearOwnClaim_eq_false_iff (s : State) (k : Slot) :
    nearOwnClaim s k = false ↔ ∀ j : Slot, (s.slot j).own ≠ .none → s.params.guardDistance < slotDistance j k := by
  have hguard (j : Slot) :
      withinGuard s.params.guardDistance j k = false ↔ s.params.guardDistance < slotDistance j k := by
    rw [← Bool.not_eq_true, withinGuard_iff, Nat.not_le]
  simp [nearOwnClaim, mem_indices, hguard]

/-- Test 6 passes when there is no penalty, or its end is reached. -/
theorem barred_eq_false_iff (now : Time) (e : Source) :
    barred now e = false ↔ ∀ u, e.barredUntil = some u → reached now u = true := by
  unfold barred
  cases e.barredUntil <;> simp

/-- Test 3 passes when the entry has no upstream station, or another one. -/
theorem upstream_ne_iff (e : Source) (st : StationId) :
    (e.upstream != some st) = true ↔ ∀ u, e.upstream = some u → u ≠ st := by
  cases e.upstream <;> simp

/-- The seven tests of R83. -/
theorem sourceEligible_iff (s : State) (i : PathIx) (e : Source) : sourceEligible s i e = true ↔
    e.programme = (s.carryOf i).programme ∧ (s.carryOf i).enabled = true ∧ e.station ≠ s.params.stationId ∧
    (∀ u, e.upstream = some u → u ≠ s.params.stationId) ∧ e.depth ≤ 14 ∧ s.params.qMin ≤ e.quality ∧
    (∀ u, e.barredUntil = some u → reached s.now u = true) ∧
    ∀ k : Slot, (s.slot k).own ≠ .none → s.params.guardDistance < slotDistance k e.slot := by
  rw [← upstream_ne_iff, ← barred_eq_false_iff, ← nearOwnClaim_eq_false_iff]
  simp only [sourceEligible, Bool.and_eq_true, beq_iff_eq, bne_iff_ne, decide_eq_true_eq, Bool.not_eq_true']
  tauto

theorem fresh_iff (now : Time) (e : Source) : fresh now e = true ↔ age now e.lastHeard ≤ 30000 := decide_eq_true_iff

theorem fresh_eq_false_iff (now : Time) (e : Source) : fresh now e = false ↔ 30000 < age now e.lastHeard := by
  rw [← Bool.not_eq_true, fresh_iff, Nat.not_le]

/-! ### The ranking (R84) -/

/-- The rank of an entry, lower ranks first: the negated score, the hop depth, the slot and the station ID, compared in
turn. -/
def rankKey (p : Params) (e : Source) : Int ×ₗ Nat ×ₗ Nat ×ₗ Nat :=
  toLex (-score p e, toLex (e.depth, toLex (e.slot.val, e.station.toNat)))

theorem ranksBefore_iff_rankKey_lt (p : Params) (a b : Source) :
    ranksBefore p a b = true ↔ rankKey p a < rankKey p b := by
  simp only [rankKey, Prod.Lex.toLex_lt_toLex, neg_lt_neg_iff, neg_inj]
  unfold ranksBefore
  by_cases hscore : score p a = score p b
  case neg => simp [hscore]
  by_cases hdepth : a.depth = b.depth
  case neg => simp [hscore, hdepth]
  by_cases hslot : a.slot = b.slot
  case neg => simp [hscore, hdepth, hslot, Fin.val_inj]
  simp [hscore, hdepth, hslot, BitVec.lt_def]

theorem rankKey_le_iff (p : Params) (e x : Source) : rankKey p e ≤ rankKey p x ↔
    score p x < score p e ∨ (score p x = score p e ∧
      (e.depth < x.depth ∨ (e.depth = x.depth ∧ (e.slot < x.slot ∨ (e.slot = x.slot ∧ e.station ≤ x.station))))) := by
  simp only [rankKey, Prod.Lex.toLex_le_toLex, neg_lt_neg_iff, neg_inj, Fin.val_fin_lt, Fin.val_inj, BitVec.le_def,
    eq_comm (a := score p x)]

/-- Entries of one rank have one key. -/
theorem key_eq_of_rankKey_eq {p : Params} {a b : Source} (h : rankKey p a = rankKey p b) :
    a.slot = b.slot ∧ a.station = b.station := by
  simp only [rankKey, EmbeddingLike.apply_eq_iff_eq, Prod.mk.injEq] at h
  obtain ⟨-, -, hslot, hstation⟩ := h
  exact ⟨Fin.ext hslot, BitVec.eq_of_toNat_eq hstation⟩

/-- The first-ranked entry of a list is the library's least entry by rank. -/
theorem bestOf_eq_argmin (p : Params) (es : List Source) : bestOf p es = es.argmin (rankKey p) := by
  unfold bestOf List.argmin
  congr 1
  funext best e
  cases best with
  | none => rfl
  | some a => simp only [List.argAux, ranksBefore_iff_rankKey_lt]

theorem bestOf_eq_none_iff (p : Params) (es : List Source) : bestOf p es = none ↔ es = [] := by
  rw [bestOf_eq_argmin, List.argmin_eq_none]

theorem mem_of_bestOf {p : Params} {es : List Source} {e : Source} (h : bestOf p es = some e) : e ∈ es :=
  List.argmin_mem (bestOf_eq_argmin p es ▸ h)

theorem rankKey_le_of_bestOf {p : Params} {es : List Source} {e x : Source} (h : bestOf p es = some e) (hx : x ∈ es) :
    rankKey p e ≤ rankKey p x := List.le_of_mem_argmin hx (bestOf_eq_argmin p es ▸ h)

/-- In a table in the order of its keys, one key is held by one entry (R67). -/
theorem SourcesOrdered.eq_of_key_eq {es : List Source} (ho : SourcesOrdered es) {a b : Source} (ha : a ∈ es)
    (hb : b ∈ es) (hslot : a.slot = b.slot) (hstation : a.station = b.station) : a = b := by
  have hkeys : (es.map (fun e => (e.slot, e.station))).Nodup :=
    List.pairwise_map.mpr (ho.imp (fun {x y} hxy heq => by
      obtain ⟨hs, hst⟩ := Prod.mk.inj heq
      simp [keyBefore, hs, hst] at hxy))
  exact List.inj_on_of_nodup_map hkeys ha hb (Prod.ext hslot hstation)

/-- Among entries of an ordered table the first-ranked is the one before which none ranks: no two tie. -/
theorem bestOf_eq_some_iff {p : Params} {es : List Source} (ho : SourcesOrdered es) (e : Source) :
    bestOf p es = some e ↔ e ∈ es ∧ ∀ x ∈ es, rankKey p e ≤ rankKey p x := by
  refine ⟨fun h => ⟨mem_of_bestOf h, fun _ => rankKey_le_of_bestOf h⟩, fun ⟨he, hleast⟩ => ?_⟩
  cases hb : bestOf p es with
  | none => simp [(bestOf_eq_none_iff p es).mp hb] at he
  | some b =>
    have hmem := mem_of_bestOf hb
    obtain ⟨hslot, hstation⟩ := key_eq_of_rankKey_eq (le_antisymm (rankKey_le_of_bestOf hb he) (hleast b hmem))
    rw [ho.eq_of_key_eq hmem he hslot hstation]

/-! ### The best-source answer (R84) -/

theorem mem_freshEligible_iff (s : State) (i : PathIx) (x : Source) :
    x ∈ s.sources.filter (fun e => sourceEligible s i e && fresh s.now e) ↔
      x ∈ s.sources ∧ sourceEligible s i x = true ∧ age s.now x.lastHeard ≤ 30000 := by
  simp [fresh_iff]

theorem bestFresh_spec {s : State} {i : PathIx} {e : Source} (h : bestFresh s i = some e) :
    (e ∈ s.sources ∧ sourceEligible s i e = true ∧ age s.now e.lastHeard ≤ 30000) ∧
    ∀ x ∈ s.sources, sourceEligible s i x = true → age s.now x.lastHeard ≤ 30000 →
      rankKey s.params e ≤ rankKey s.params x :=
  ⟨(mem_freshEligible_iff s i e).mp (mem_of_bestOf h), fun x hx hel hfresh =>
    rankKey_le_of_bestOf h ((mem_freshEligible_iff s i x).mpr ⟨hx, hel, hfresh⟩)⟩

theorem bestFresh_eq_none_iff (s : State) (i : PathIx) : bestFresh s i = none ↔
    ∀ x ∈ s.sources, sourceEligible s i x = false ∨ 30000 < age s.now x.lastHeard := by
  rw [bestFresh, bestOf_eq_none_iff, List.filter_eq_nil_iff]
  refine forall₂_congr fun x _ => ?_
  rw [Bool.not_eq_true, Bool.and_eq_false_iff, fresh_eq_false_iff]

/-- The stale slot is that of the best eligible entry, when that entry is stale. -/
theorem staleSlot_eq_some_iff (s : State) (i : PathIx) (k : Slot) : staleSlot s i = some k ↔
    ∃ e, bestOf s.params (s.sources.filter (sourceEligible s i)) = some e ∧
      30000 < age s.now e.lastHeard ∧ e.slot = k := by
  unfold staleSlot
  cases bestOf s.params (s.sources.filter (sourceEligible s i)) with
  | none => simp
  | some e =>
    simp only [← fresh_eq_false_iff]
    cases hfresh : fresh s.now e <;> simp [hfresh]

theorem staleSlot_eq_some_iff_of_ordered {s : State} (ho : SourcesOrdered s.sources) (i : PathIx) (k : Slot) :
    staleSlot s i = some k ↔
      ∃ e ∈ s.sources, sourceEligible s i e = true ∧ 30000 < age s.now e.lastHeard ∧ e.slot = k ∧
        ∀ x ∈ s.sources, sourceEligible s i x = true → rankKey s.params e ≤ rankKey s.params x := by
  have hbest (e : Source) := bestOf_eq_some_iff (p := s.params) (ho.filter (sourceEligible s i)) e
  simp only [staleSlot_eq_some_iff, hbest, List.mem_filter, and_imp]
  exact exists_congr fun e => by tauto

end Sys2Proof.Machine

namespace Sys2Proof

open Machine

/-- Settles O40: the first-ranked entry is the least by rank, and a table in key order holds no two of one rank. -/
theorem bestFreshRanksFirst : Obligations.BestFreshRanksFirst := by
  intro s i
  simp only [← rankKey_le_iff]
  exact ⟨fun _ => rfl, sourceEligible_iff s i, fun _ => bestFresh_spec, bestFresh_eq_none_iff s i,
    fun ⟨_, _, _, ⟨_, hordered⟩, _⟩ => staleSlot_eq_some_iff_of_ordered hordered i⟩

/-- Settles O31, from the two branches of the grade and the range that loading gives M_good. -/
theorem levelGradeOfMagnitude : Obligations.LevelGradeOfMagnitude := by
  refine ⟨fun p m hp => ?_, fun _ _ _ _ _ => ⟨rfl, rfl, fun _ => ⟨rfl, rfl⟩⟩, settleParams_mFloor_lt_mGood,
    fun p hfloor hgood => ?_⟩
  · exact ⟨levelGrade_of_lt, levelGrade_of_ge, levelGrade_mFloor p, levelGrade_of_good hp, fun _ => levelGrade_mono p⟩
  · simp [levelGrade, hfloor, hgood]

/-- Settles O32: a run of frames is the run of its halving average, which is then evaluated from 40. -/
theorem integrityTargetOfFrame : Obligations.IntegrityTargetOfFrame := by
  refine ⟨fun noise => ?_, rfl, fun noise h => ?_, fun _ _ _ _ _ => ⟨rfl, fun _ => rfl⟩, fun s f latest e h => ?_,
    fun s f latest e => ⟨fun h => ?_, fun h => ?_⟩⟩
  · unfold integrityTarget; omega
  · unfold integrityTarget; omega
  · simp only [iterate_updateSource_integrityGrade, h]
    decide
  · rw [updateSource_integrityGrade, h]; rfl
  · rw [updateSource_integrityGrade, h]; rfl

end Sys2Proof
end

section
/-! PROOFS. The composite budget (8.2): the amplitudes that P is summed from and the backoff factor it calls for, each
said once, and the statement about them (O18). -/

namespace Sys2Proof.Machine

open Sys2Proof

/-! ### Nominal amplitudes (R133) -/

theorem fullAmplitude_le (p : PathRec) : fullAmplitude p ≤ 4095 := Nat.min_le_left ..

@[simp] theorem nominalAmplitude_of_off {p : PathRec} (h : p.cond = .off) : nominalAmplitude p = 0 := by
  simp [nominalAmplitude, h]

theorem nominalAmplitude_le (p : PathRec) : nominalAmplitude p ≤ 4095 := by
  unfold nominalAmplitude
  split
  · exact fullAmplitude_le p
  · decide
  · decide

/-! ### The composite sum (R134) -/

/-- A path that is OFF adds nothing to P, so P is the sum over the others. -/
theorem compositeSum_eq_sum_not_off (s : State) :
    compositeSum s = (((indices 12).filter (fun i => (s.path i).cond != .off)).map
      (fun i => nominalAmplitude (s.path i) * nominalAmplitude (s.path i))).sum := by
  have hoff : (((indices 12).filter (fun i => (s.path i).cond = .off)).map
      (fun i => nominalAmplitude (s.path i) * nominalAmplitude (s.path i))).sum = 0 := by
    refine List.sum_eq_zero fun x hx => ?_
    obtain ⟨i, hi, rfl⟩ := List.mem_map.mp hx
    simp [of_decide_eq_true (List.mem_filter.mp hi).2]
  have hsplit := List.sum_map_filter_add_sum_map_filter_not (fun i => (s.path i).cond = .off)
    (fun i => nominalAmplitude (s.path i) * nominalAmplitude (s.path i)) (indices 12)
  rw [hoff, Nat.zero_add] at hsplit
  simp only [compositeSum, ← hsplit, bne, beq_eq_decide, decide_not]

/-- Twelve paths at the largest amplitude make the largest P. -/
theorem compositeSum_le (s : State) : compositeSum s ≤ 12 * (4095 * 4095) := by
  have h := List.sum_le_card_nsmul
    ((indices 12).map (fun i => nominalAmplitude (s.path i) * nominalAmplitude (s.path i))) (4095 * 4095) fun x hx => by
      obtain ⟨i, -, rfl⟩ := List.mem_map.mp hx
      exact Nat.mul_le_mul (nominalAmplitude_le _) (nominalAmplitude_le _)
  rwa [List.length_map, indices_length] at h

theorem compositeSum_of_all_off {s : State} (h : ∀ i : PathIx, (s.path i).cond = .off) : compositeSum s = 0 := by
  simp [compositeSum, h]

/-! ### The backoff factor (R134, R137) -/

/-- The model's search from above is the library's search for the greatest number that passes a test. -/
theorem largestWithin_eq_findGreatest (power bound n : Nat) :
    largestWithin power bound n = Nat.findGreatest (fun k => k * k * power ≤ bound) n := by
  induction n with
  | zero => rfl
  | succ n ih => rw [largestWithin, Nat.findGreatest_succ, ih]

theorem largestWithin_le (power bound n : Nat) : largestWithin power bound n ≤ n := by
  rw [largestWithin_eq_findGreatest]
  exact Nat.findGreatest_le n

/-- What the search answers is within the bound: at the worst it is 0, which always is. -/
theorem largestWithin_within (power bound n : Nat) :
    largestWithin power bound n * largestWithin power bound n * power ≤ bound := by
  rw [largestWithin_eq_findGreatest]
  exact Nat.findGreatest_spec (P := fun k => k * k * power ≤ bound) (Nat.zero_le n) (by simp)

theorem le_largestWithin {power bound k n : Nat} (hk : k ≤ n) (hwithin : k * k * power ≤ bound) :
    k ≤ largestWithin power bound n := by
  rw [largestWithin_eq_findGreatest]
  exact Nat.le_findGreatest hk hwithin

theorem computedBackoff_of_le {s : State} (h : compositeSum s ≤ s.params.pMax) : computedBackoff s = 256 := if_pos h

theorem computedBackoff_of_lt {s : State} (h : s.params.pMax < compositeSum s) :
    computedBackoff s = largestWithin (compositeSum s) (s.params.pMax * 65536) 255 := if_neg (Nat.not_le.mpr h)

@[simp] theorem applyBackoff_backoff (cap : Nat) (s : State) :
    (applyBackoff cap s).gov.backoff = min (computedBackoff s) cap := rfl

end Sys2Proof.Machine

namespace Sys2Proof

open Machine

/-- Settles O18: above the budget the factor is the search's answer, and a station with every path OFF has P = 0, which
is within every budget. -/
theorem backoffIsLargestWithinBudget : Obligations.BackoffIsLargestWithinBudget := by
  refine fun s => ⟨compositeSum_eq_sum_not_off s, compositeSum_le s, computedBackoff_of_le, fun hover => ?_,
    fun hoff => ?_, fun cap => applyBackoff_backoff cap s⟩
  · rw [computedBackoff_of_lt hover]
    exact ⟨largestWithin_le .., largestWithin_within .., fun _ => le_largestWithin⟩
  · have hzero : compositeSum s = 0 := compositeSum_of_all_off hoff
    exact ⟨hzero, computedBackoff_of_le (hzero ▸ Nat.zero_le _)⟩

end Sys2Proof
end
section
/-! PROOFS. What a step is: every command answers one next state, its effect, and what every effect keeps every step
keeps. The statements about the queue, device reset and the reading of the image (O1 to O4, O55). -/

namespace Sys2Proof.Machine

open Sys2Proof

/-! ### The effect of a command -/

/-- The state that a command answers. -/
def effect : Instr → State → State
  | .deviceReset => deviceReset
  | .loadEnd => loadEnd
  | .configRetry => configRetry
  | .endOfListening => endOfListening
  | .blockBoundary order => blockBoundary order
  | .restore => restore
  | .tuningEntryApplied => tuningEntryApplied
  | .breakRecognised f => breakRecognised f
  | .leadTimeout f => leadTimeout f
  | .byteGapTimeout f => byteGapTimeout f
  | .framerOutcome f order => framerOutcome f order
  | .frameStart => frameStart
  | .neighbourSweep order => neighbourSweep order
  | .sourceSweep => sourceSweep
  | .peerClaimExpiry => peerClaimExpiry
  | .holdOffEnd k => holdOffEnd k
  | .collisionExpiry k => collisionExpiry k
  | .claimRetryDeadline i => claimRetryDeadline i
  | .pathEvaluation i => pathEvaluation i
  | .acquireTimeout i => acquireTimeout i
  | .carrierCheckFail i => carrierCheckFail i
  | .lowCarrierLoss i => lowCarrierLoss i
  | .tagLoss i => tagLoss i
  | .holdoverExpired i => holdoverExpired i
  | .txpermitChange level => txpermitChange level
  | .muteEnd => muteEnd
  | .lockoutEnd => lockoutEnd
  | .faultHistoryExpiry => faultHistoryExpiry
  | .graceDeadline => graceDeadline
  | .txRestored i => txRestored i
  | .keyHoldExpiry => keyHoldExpiry
  | .inhibitAlarm => inhibitAlarm
  | .failureLogExpiry => failureLogExpiry
  | .visitStart => visitStart
  | .visitTimeout => visitTimeout
  | .dwellStart => dwellStart
  | .dwellCheckClose => dwellCheckClose
  | .dwellDeadline => dwellDeadline
  | .statusRecord => statusRecord
  | .bandInputSample sample paths survey => bandInputSample sample paths survey
  | .couplerInputSample sample monitor => couplerInputSample sample monitor
  | .compositeSample sides => compositeSample sides
  | .tagLineSample f tone => tagLineSample f tone
  | .configByteRead b => configByteRead b
  | .statusBitSent => statusBitSent

/-- Every command answers its effect: none faults and none is refused. -/
theorem exec_eq (c : Instr) (s : State) : exec c s = .next (effect c s) := by cases c <;> rfl

theorem answers_iff {c : Instr} {s : State} {P : State → Prop} : Answers c s P ↔ P (effect c s) := by
  simp [Answers, exec_eq]

/-- A step inside a boundary is the command of its name, but for a frame start's bits (R36). -/
theorem takeStep_eq_effect {ahead : PathIx → Bool} {b : BoundaryStep}
    (h : b ≠ .frameStart ∨ ∀ i, ahead i = false) (s : State) : takeStep ahead b s = effect (stepCommand b) s := by
  cases b
  case frameStart => exact frameStartAmong_eq (h.resolve_left (fun hb => hb rfl)) s
  all_goals rfl

/-! ### What every step keeps -/

/-- What the opening and the acts of a boundary, the steps that may stand in one, and the commands beside them keep. -/
structure EffectsKeep (P : State → Prop) : Prop where
  reset : ∀ s, P s → P (deviceReset s)
  opening : ∀ s, P s → P (openBoundary s)
  level : ∀ reports i s, P s → P (levelPath reports i s)
  clips : ∀ n s, P s → P (takeClipCount n s)
  evaluation : ∀ s, P s → P (compositeEvaluation s)
  restore : ∀ s, P s → P (restore s)
  bit : ∀ i s, P s → P (handBit i s)
  takeStep : ∀ ahead b s, P s → P (takeStep ahead b s)
  framer : ∀ ix st s, (s.framer ix).breakDue = true ∨ (s.framer ix).leadDue = true ∨ (s.framer ix).gapDue = true → P s →
    P (s.modFramer ix (Framer.rest st))
  feed : ∀ ix tone s, P s → P (feedFramer ix tone s)
  band : ∀ x chans y s, P s → P (bandInputSample x chans y s)
  coupler : ∀ x y s, P s → P (couplerInputSample x y s)
  composite : ∀ sides s, P s → P (compositeSample sides s)
  byteRead : ∀ b s, P s → P (configByteRead b s)
  bitSent : ∀ s, P s → P (statusBitSent s)

namespace EffectsKeep

variable {P : State → Prop}

theorem breakRecognised (h : EffectsKeep P) (ix : FramerIx) {s : State} (hs : P s) : P (breakRecognised ix s) := by
  unfold Machine.breakRecognised
  split
  · rename_i hc; exact h.framer ix _ s (.inl hc) hs
  · exact hs

theorem leadTimeout (h : EffectsKeep P) (ix : FramerIx) {s : State} (hs : P s) : P (leadTimeout ix s) := by
  unfold Machine.leadTimeout
  split
  · rename_i hc; exact h.framer ix _ s (.inr (.inl hc)) hs
  · exact hs

theorem byteGapTimeout (h : EffectsKeep P) (ix : FramerIx) {s : State} (hs : P s) : P (byteGapTimeout ix s) := by
  unfold Machine.byteGapTimeout
  split
  · rename_i hc; exact h.framer ix _ s (.inr (.inr hc)) hs
  · exact hs

/-- A sample first settles what the one before it decided: the framer's own commands and an outcome's. -/
theorem tagLineSample (h : EffectsKeep P) (ix : FramerIx) (tone : Tone) {s : State} (hs : P s) :
    P (tagLineSample ix tone s) :=
  h.feed ix tone _ (h.takeStep (fun _ => false) (.framerOutcome ix ⟨.claimsFirst, 0⟩) _
    (h.byteGapTimeout ix (h.leadTimeout ix (h.breakRecognised ix hs))))

theorem blockBoundary (h : EffectsKeep P) (order : List BoundaryAct) {s : State} (hs : P s) :
    P (blockBoundary order s) :=
  blockBoundary_keeps order (h.opening s hs) h.level h.clips h.evaluation h.restore h.bit h.takeStep

theorem effect (h : EffectsKeep P) (c : Instr) {s : State} (hs : P s) : P (effect c s) := by
  have hstep := fun b => h.takeStep (fun _ => false) b s hs
  simp only [takeStep_eq_effect (ahead := fun _ => false) (.inr fun _ => rfl)] at hstep
  cases c
  case deviceReset => exact h.reset s hs
  case loadEnd => exact hstep .loadEnd
  case configRetry => exact hstep .configRetry
  case endOfListening => exact hstep .endOfListening
  case blockBoundary order => exact h.blockBoundary order hs
  case restore => exact h.restore s hs
  case tuningEntryApplied => exact hstep .tuningEntryApplied
  case breakRecognised f => exact h.breakRecognised f hs
  case leadTimeout f => exact h.leadTimeout f hs
  case byteGapTimeout f => exact h.byteGapTimeout f hs
  case framerOutcome f order => exact hstep (.framerOutcome f order)
  case frameStart => exact hstep .frameStart
  case neighbourSweep o => exact hstep (.neighbourSweep o)
  case sourceSweep => exact hstep .sourceSweep
  case peerClaimExpiry => exact hstep .peerClaimExpiry
  case holdOffEnd k => exact hstep (.holdOffEnd k)
  case collisionExpiry k => exact hstep (.collisionExpiry k)
  case claimRetryDeadline i => exact hstep (.claimRetryDeadline i)
  case pathEvaluation i => exact hstep (.pathEvaluation i)
  case acquireTimeout i => exact hstep (.acquireTimeout i)
  case carrierCheckFail i => exact hstep (.carrierCheckFail i)
  case lowCarrierLoss i => exact hstep (.lowCarrierLoss i)
  case tagLoss i => exact hstep (.tagLoss i)
  case holdoverExpired i => exact hstep (.holdoverExpired i)
  case txpermitChange l => exact hstep (.txpermitChange l)
  case muteEnd => exact hstep .muteEnd
  case lockoutEnd => exact hstep .lockoutEnd
  case faultHistoryExpiry => exact hstep .faultHistoryExpiry
  case graceDeadline => exact hstep .graceDeadline
  case txRestored i => exact hstep (.txRestored i)
  case keyHoldExpiry => exact hstep .keyHoldExpiry
  case inhibitAlarm => exact hstep .inhibitAlarm
  case failureLogExpiry => exact hstep .failureLogExpiry
  case visitStart => exact hstep .visitStart
  case visitTimeout => exact hstep .visitTimeout
  case dwellStart => exact hstep .dwellStart
  case dwellCheckClose => exact hstep .dwellCheckClose
  case dwellDeadline => exact hstep .dwellDeadline
  case statusRecord => exact hstep .statusRecord
  case bandInputSample x v y => exact h.band x v y s hs
  case couplerInputSample x y => exact h.coupler x y s hs
  case compositeSample v => exact h.composite v s hs
  case tagLineSample f x => exact h.tagLineSample f x hs
  case configByteRead b => exact h.byteRead b s hs
  case statusBitSent => exact h.bitSent s hs

end EffectsKeep

/-- The same, for a property that the queue's own advance keeps too: every step keeps it. -/
structure CommandsKeep (P : State → Prop) : Prop extends EffectsKeep P where
  pending : ∀ q s, P s → P (s.withPending q)

namespace CommandsKeep

variable {P : State → Prop}

/-- What every command keeps, every step keeps. -/
theorem step (h : CommandsKeep P) {s t : State} (hs : P s) (hst : step s = .next t) : P t := by
  unfold Machine.step at hst
  split at hst
  · cases hst; exact hs
  · rw [exec_eq] at hst
    cases hst
    exact h.effect _ (h.pending _ s hs)

end CommandsKeep

end Sys2Proof.Machine

namespace Sys2Proof

open Machine

/-- Settles O1: the two branches of a step. -/
theorem stepRunsFrontCommand : Obligations.StepRunsFrontCommand := by
  refine ⟨fun c rest s h => ?_, fun s h => ?_⟩ <;> simp [step, h]

/-- Settles O3: the reset state read field by field. -/
theorem deviceResetState : Obligations.DeviceResetState := by
  intro s
  rw [answers_iff]
  have hframers (ix : FramerIx) : ((deviceReset s).framer ix) = Framer.cleared := by
    cases ix <;> simp [State.framer, deviceReset, State.reset]
  refine ⟨rfl, rfl, rfl, rfl, rfl, rfl, rfl, rfl, rfl, rfl, rfl, rfl, rfl, fun i => ?_, fun k => ?_, fun ix => ?_, ?_⟩
  · simp [effect, deviceReset, State.reset, State.carryOf, State.path, State.rxSide, State.txSide, State.builderPath,
      State.amplitude, State.wait, State.verdict, CarryEntry.disabled, PathRec.atReset, RxSide.atReset, TxSide.atReset,
      TxSet.silent]
  · simp [effect, deviceReset, State.reset, State.slot, SlotEntry.atReset]
  · simp [effect, hframers, Framer.cleared]
  · simp [effect, deviceReset, State.reset, RxSide.atReset]

/-- Settles O4: the loader's two conditions, each way. -/
theorem imageReadAndReadAgain : Obligations.ImageReadAndReadAgain := by
  refine ⟨fun b s hread hlen => ?_, fun b s hread => ?_, fun d s hquiet hd hdue => ?_, fun d s hd hdue => ?_⟩
  · simp [exec_eq, effect, configByteRead, imageLength, hread, hlen]
  · simp [exec_eq, effect, configByteRead, hread]
  · simp [exec_eq, effect, configRetry, hquiet, hd, hdue]
  · simp [exec_eq, effect, configRetry, hd, hdue]

/-- Settles O34: the branches of the check's close and of the deadline. -/
theorem dwellCheckAndDeadline : Obligations.DwellCheckAndDeadline := by
  refine ⟨fun d s hd hp hc hg => ?_, fun d s hd hp hc hg => ?_, fun d s hd hno => ?_, fun d s hd hp hdue => ?_,
    fun d s hd hno => ?_⟩
  · simp [exec_eq, effect, dwellCheckClose, hd, hp, hc, Nat.one_le_iff_ne_zero.mp hg]
  · simp [exec_eq, effect, dwellCheckClose, hd, hp, hc, hg, endDwell, emptySlot, Source.regrade, qualityOf]
  · have hcond : ((d.phase == .check) && decide (20 ≤ d.checks)) = false := by
      simpa [Bool.and_eq_false_iff, ← imp_iff_not_or] using hno
    simp [exec_eq, effect, dwellCheckClose, hd, hcond]
  · simp [exec_eq, effect, dwellDeadline, hd, hp, hdue, endDwell]
  · have hcond : ((d.phase == .listening) && reached s.now d.deadline) = false := by
      simpa [Bool.and_eq_false_iff, ← imp_iff_not_or] using hno
    simp [exec_eq, effect, dwellDeadline, hd, hcond]

/-- Settles O49: two filters of times, and two deadlines each way. -/
theorem historiesAndHoldsExpire : Obligations.HistoriesAndHoldsExpire := by
  refine ⟨fun s => rfl, fun s => rfl, fun d s hd => ?_, fun d s hd => ?_⟩
  · simp only [exec_eq, effect, keyHoldExpiry, hd, dueAt_some]
    split <;> rfl
  · simp only [exec_eq, effect, inhibitAlarm, hd, dueAt_some]
    split
    · simp [alarmUpdate, alarmOf]
    · rfl

/-- Settles O55: an empty part meets every invariant. -/
theorem resetMeetsInvariants : Obligations.ResetMeetsInvariants := by
  have hslot (k : Slot) : State.reset.slot k = SlotEntry.atReset := by simp [State.slot, State.reset]
  have hpath (i : PathIx) : State.reset.path i = PathRec.atReset := by simp [State.path, State.reset]
  have hair : State.reset.anyOnAir = false := by
    simp [State.anyOnAir, State.onAir, hpath, PathRec.atReset]
  refine ⟨?_, ?_, ?_, ?_, ?_, ?_, ?_, ?_, ?_, ?_, ?_⟩
  · refine ⟨by decide, by decide, by decide, by decide, by decide, by decide, fun k => ?_⟩
    rw [hslot]; decide
  · simp [QualityOk, State.reset]
  · refine ⟨by decide, fun i => ?_, by decide, ?_, ?_⟩
    · rw [hpath]; decide
    · simp [hair]
    · rw [hair]; rfl
  · simp [PinnedFlagOk, hslot, SlotEntry.atReset]
    rfl
  · refine ⟨fun k => ?_, fun k i => ?_, fun i => ?_⟩
    · rw [hslot]; decide
    · simp [hslot, hpath, SlotEntry.atReset, PathRec.atReset]
    · simp [outputFits, hpath, PathRec.atReset]
  · simp [MarksServed, State.wait, State.reset]
  · simp [LoadingOk, hpath, PathRec.atReset]
    decide
  · simp [GuardClear, hslot, SlotEntry.atReset]
  · simp [SelectionsOk, hpath, PathRec.atReset]
    decide
  · simp [SurveyHeldOk, State.reset, RxSide.atReset, Framer.cleared]
  · simp [ChannelsOk, State.txSide, State.reset, TxSide.atReset]

end Sys2Proof
end
section
/-! PROOFS. The acts of the path controller and of the slot claim table as runs of the few updates that they are made of
(Acts), and what every such update keeps: the peer lists, the order of the tuning queue and of the source table, and
TXKEY with its hold. -/

namespace Sys2Proof.Machine

open Sys2Proof

/-- t comes from s by updates that an act is made of: a path record changed but for its condition, a condition derived
again, an own claim, marks and flags of the slot claim table, a tuning request or cancellation, and a penalty. No peer
list is rewritten, and no source entry admitted or removed. -/
inductive Acts : State → State → Prop
  | refl (s) : Acts s s
  | trans {s t u} : Acts s t → Acts t u → Acts s u
  | modPath (s i f) (h : ∀ p : PathRec, (f p).cond = p.cond := by exact fun _ => rfl) : Acts s (s.modPath i f)
  | refreshPath (s i) : Acts s (refreshPath i s)
  | cutVisitOf (s i) : Acts s (cutVisitOf i s)
  | modSlot (s k f) (h : ∀ e : SlotEntry, (f e).peers = e.peers ∧ (f e).attr = e.attr := by exact fun _ => ⟨rfl, rfl⟩) : Acts s (s.modSlot k f)
  | slots (s f) (h : ∀ (k : Slot) (e : SlotEntry), (f k e).peers = e.peers ∧ (f k e).attr = e.attr) :
      Acts s { s with slots := updAll s.slots f }
  | modWait (s i f) : Acts s (s.modWait i f)
  | flags (s a b) : Acts s { s with silentRelease := a, pinnedCollision := b }
  | tuneRequest (s i d k) : Acts s (tuneRequest i d k s)
  | tuneCancel (s i d) : Acts s (tuneCancel i d s)
  | penalise (s k st) : Acts s (penalise k st s)

namespace Acts

/-- What every update keeps, a run of them keeps. -/
theorem keeps {P : State → Prop} (hpath : ∀ s i f, (∀ p : PathRec, (f p).cond = p.cond) → P s → P (s.modPath i f))
    (hrefresh : ∀ s i, P s → P (Machine.refreshPath i s)) (hcut : ∀ s i, P s → P (Machine.cutVisitOf i s))
    (hslot : ∀ s k f, (∀ e : SlotEntry, (f e).peers = e.peers ∧ (f e).attr = e.attr) → P s → P (s.modSlot k f))
    (hslots : ∀ s f, (∀ (k : Slot) (e : SlotEntry), (f k e).peers = e.peers ∧ (f k e).attr = e.attr) → P s →
      P { s with slots := updAll s.slots f })
    (hwait : ∀ s i f, P s → P (s.modWait i f))
    (hflags : ∀ s a b, P s → P { s with silentRelease := a, pinnedCollision := b })
    (hrequest : ∀ s i d k, P s → P (Machine.tuneRequest i d k s))
    (hcancel : ∀ s i d, P s → P (Machine.tuneCancel i d s))
    (hpenalise : ∀ s k st, P s → P (Machine.penalise k st s)) {s t : State} (h : Acts s t) (hs : P s) : P t := by
  induction h with
  | refl => exact hs
  | trans _ _ ih₁ ih₂ => exact ih₂ (ih₁ hs)
  | modPath s i f h => exact hpath s i f h hs
  | refreshPath s i => exact hrefresh s i hs
  | cutVisitOf s i => exact hcut s i hs
  | modSlot s k f h => exact hslot s k f h hs
  | slots s f h => exact hslots s f h hs
  | modWait s i f => exact hwait s i f hs
  | flags s a b => exact hflags s a b hs
  | tuneRequest s i d k => exact hrequest s i d k hs
  | tuneCancel s i d => exact hcancel s i d hs
  | penalise s k st => exact hpenalise s k st hs

theorem frame {s t : State} (h : Acts s t) : ActFrame s t := by
  refine h.keeps (P := ActFrame s) ?_ ?_ ?_ ?_ ?_ ?_ ?_ ?_ ?_ ?_ (ActFrame.rfl' s) <;> intro u
  · exact fun i f _ hu => hu.trans (modPath_act u i f)
  · exact fun i hu => hu.trans (refreshPath_act u i)
  · exact fun i hu => hu.trans (cutVisitOf_act u i)
  · exact fun k f _ hu => hu.trans (modSlot_act u k f)
  · exact fun f _ hu => hu.trans (slots_act u _)
  · exact fun i f hu => hu.trans (modWait_act u i f)
  · exact fun a b hu => hu.trans (silentFlags_act u a b)
  · exact fun i d k hu => hu.trans (tuneRequest_act u i d k)
  · exact fun i d hu => hu.trans (tuneCancel_act u i d)
  · exact fun k st hu => hu.trans (penalise_act u k st)

/-! ### The acts are such runs -/

theorem recordEvent (s : State) (i : PathIx) (e : PathEvent) : Acts s (recordEvent i e s) :=
  modPath s i _

theorem movePath (s : State) (i : PathIx) (st : PathState) : Acts s (movePath i st s) :=
  (modPath s i _ (by intro p; split <;> rfl)).trans (refreshPath _ i)

theorem setOutput (s : State) (i : PathIx) (o : Option Slot) : Acts s (setOutput i o s) := by
  unfold Machine.setOutput
  dsimp only
  split
  · exact modPath s i _
  · exact (modPath s i _).trans (cutVisitOf _ i)

theorem clearOutput (s : State) (i : PathIx) : Acts s (clearOutput i s) :=
  (setOutput s i none).trans (modPath _ i _)

theorem dropOutput (s : State) (i : PathIx) : Acts s (dropOutput i s) := (clearOutput s i).trans (tuneCancel _ i _)

theorem loseOutput (s : State) (c : Nat) (i : PathIx) : Acts s (loseOutput c i s) := by
  unfold Machine.loseOutput
  split
  · exact dropOutput s i
  · exact (clearOutput s i).trans (modPath _ i _)

theorem slotLost (s : State) (c : Nat) (i : PathIx) (e : PathEvent) : Acts s (slotLost c i e s) :=
  (((loseOutput s c i).trans (modPath _ i _)).trans (recordEvent _ i e)).trans (movePath _ i _)

theorem clearSlot (s : State) (k : Slot) : Acts s (s.modSlot k SlotEntry.cleared) := modSlot s k _

theorem loseToPeer (s : State) (c : Nat) (k : Slot) (e : PathEvent) : Acts s (loseToPeer c k e s) := by
  unfold Machine.loseToPeer
  dsimp only
  split
  · exact clearSlot s k
  · exact ((clearSlot s k).trans (slotLost _ c _ e)).trans (modWait _ _ _)

theorem collisionTest (s : State) (k : Slot) : Acts s (collisionTest k s) := by
  refine modSlot s k _ fun e => ?_
  split
  · split <;> exact ⟨rfl, rfl⟩
  · exact ⟨rfl, rfl⟩

theorem restartCollision (s : State) (k : Slot) : Acts s (restartCollision k s) := by
  refine modSlot s k _ fun e => ?_
  split <;> exact ⟨rfl, rfl⟩

theorem retestSlot (s : State) (c : Nat) (k : Slot) : Acts s (retestSlot c k s) := by
  unfold Machine.retestSlot
  split
  · exact refl s
  · split
    · exact loseToPeer s c k _
    · exact refl s
  · exact collisionTest s k

theorem forPaths {f : PathIx → State → State} (h : ∀ i s, Acts s (f i s)) (s : State) : Acts s (forPaths f s) :=
  forPaths_keeps (P := Acts s) (fun i t ht => ht.trans (h i t)) (refl s)

theorem forSlots {f : Slot → State → State} (h : ∀ k s, Acts s (f k s)) (s : State) : Acts s (forSlots f s) :=
  forSlots_keeps (P := Acts s) (fun k t ht => ht.trans (h k t)) (refl s)

theorem retestChanged (s t : State) (c : Nat) : Acts t (retestChanged c s t) := by
  refine forSlots (fun k u => ?_) t
  split
  · exact refl u
  · exact retestSlot u c k

theorem pinnedUpdate (s : State) : Acts s (pinnedUpdate s) := flags s s.silentRelease _

theorem noticeWaiting (s : State) : Acts s (noticeWaiting s) := by
  refine forPaths (fun i t => ?_) s
  split
  · exact modWait t i _
  · exact refl t

theorem noticeFreed (s t : State) : Acts t (noticeFreed s t) := by
  unfold Machine.noticeFreed
  split
  · exact noticeWaiting t
  · exact refl t

theorem claimMarks (s : State) (i : PathIx) : Acts s (claimMarks i s) :=
  (modWait s i _).trans (flags _ false _)

theorem settleCancel (s : State) (i : PathIx) : Acts s (settleCancel i s) := by
  unfold Machine.settleCancel
  split
  · exact refl s
  · exact (tuneCancel s i _).trans (modPath _ i _)

theorem takeOutput (s : State) (i : PathIx) (k : Slot) : Acts s (takeOutput i k s) :=
  (((settleCancel s i).trans (setOutput _ i _)).trans (modPath _ i _)).trans (tuneRequest _ i _ k)

theorem takeIntent (s : State) (i : PathIx) (k : Slot) : Acts s (takeIntent i k s) :=
  ((((modSlot s k _).trans (claimMarks _ i)).trans (takeOutput _ i k)).trans (movePath _ i _)).trans
    (pinnedUpdate _)

theorem takePinned (s : State) (i : PathIx) (k : Slot) : Acts s (takePinned i k s) :=
  (((((modSlot s k _).trans (claimMarks _ i)).trans (takeOutput _ i k)).trans
    (recordEvent _ i _)).trans (movePath _ i _)).trans (pinnedUpdate _)

theorem chooseAndClaim (s : State) (i : PathIx) : Acts s (chooseAndClaim i s) := by
  obtain h | ⟨-, -, -, -, h⟩ | ⟨-, -, k, -, h⟩ := chooseAndClaim_cases s i <;> rw [h]
  · exact modWait s i _
  · exact takePinned s i _
  · exact takeIntent s i k

theorem serveMarks (s : State) : Acts s (serveMarks s) := by
  refine forPaths (fun i t => ?_) s
  split
  · exact chooseAndClaim t i
  · exact refl t

theorem releaseClaim (s : State) (i : PathIx) : Acts s (releaseClaim i s) :=
  (slots s _ (by intro _ e; split <;> exact ⟨rfl, rfl⟩)).trans (pinnedUpdate _)

theorem silentReleaseAll (s : State) : Acts s (silentReleaseAll s) := by
  refine (forSlots (fun k t => ?_) s).trans (flags _ true false)
  unfold silentSlot
  split
  · exact refl t
  · dsimp only
    split
    · exact clearSlot t k
    · exact (clearSlot t k).trans (slotLost _ _ _ _)

theorem clearSource (s : State) (i : PathIx) : Acts s (clearSource i s) :=
  (modPath s i _).trans (tuneCancel _ i _)

theorem penaliseSelected (s : State) (i : PathIx) : Acts s (penaliseSelected i s) := by
  unfold Machine.penaliseSelected
  split
  · exact refl s
  · exact penalise s _ _

theorem selectSource (s : State) (i : PathIx) (e : Source) (st : PathState) : Acts s (selectSource i e st s) := by
  unfold Machine.selectSource
  dsimp only
  refine trans ?_ (serveMarks _)
  refine trans ?_ (noticeFreed s _)
  exact ((modPath s i _).trans ((tuneRequest _ i _ _).trans (recordEvent _ i _))).trans (movePath _ i _)

theorem startHoldover (s : State) (i : PathIx) : Acts s (startHoldover i s) := modPath s i _

theorem acquireFail (s : State) (i : PathIx) : Acts s (acquireFail i s) := by
  unfold Machine.acquireFail
  dsimp only
  refine trans ?_ (serveMarks _)
  refine trans ?_ (noticeFreed s _)
  have h : Acts s (Machine.recordEvent i .acquireFailed (Machine.clearSource i (Machine.penaliseSelected i s))) :=
    ((penaliseSelected s i).trans (clearSource _ i)).trans (recordEvent _ i _)
  split
  · exact (h.trans (startHoldover _ i)).trans (movePath _ i _)
  · exact h.trans (movePath _ i _)

theorem loseSource (s : State) (i : PathIx) : Acts s (loseSource i s) := by
  have h : Acts s (Machine.recordEvent i .sourceLost (Machine.clearSource i s)) :=
    (clearSource s i).trans (recordEvent _ i _)
  unfold Machine.loseSource
  dsimp only
  split
  · exact h.trans (movePath _ i _)
  · exact ((h.trans (releaseClaim _ i)).trans (dropOutput _ i)).trans (movePath _ i _)
  · exact (h.trans (modPath _ i _)).trans (movePath _ i _)
  all_goals exact refl s

theorem sourceLost (s : State) (i : PathIx) : Acts s (sourceLost i s) := by
  unfold Machine.sourceLost
  split
  · exact refl s
  · split
    · exact acquireFail s i
    · split
      · exact ((loseSource s i).trans (noticeFreed s _)).trans (serveMarks _)
      · exact refl s

theorem takeChanged (s : State) (e : Source) (i : PathIx) : Acts s (takeChanged e i s) := by
  unfold Machine.takeChanged
  split
  · split
    · exact sourceLost s i
    · exact modPath s i _
  · exact refl s

theorem noticeChanged (s : State) (e : Source) : Acts s (noticeChanged e s) := forPaths (fun i t => takeChanged t e i) s

theorem takeRemoved (s : State) (e : Source) (i : PathIx) : Acts s (takeRemoved e i s) := by
  unfold Machine.takeRemoved
  split
  · exact sourceLost s i
  · exact refl s

theorem noticeRemoved (s : State) (e : Source) : Acts s (noticeRemoved s e) := forPaths (fun i t => takeRemoved t e i) s

theorem noticesRemoved (es : List Source) (s : State) : Acts s (es.foldl Machine.noticeRemoved s) :=
  foldl_keeps (P := Acts s) (fun t e ht => ht.trans (noticeRemoved t e)) es (refl s)

theorem acquire (s : State) (i : PathIx) : Acts s (acquire i s) := by
  unfold Machine.acquire
  dsimp only
  split
  · exact (((modPath s i _).trans (modPath _ i _)).trans (recordEvent _ i _)).trans
      (movePath _ i _)
  · exact (((modPath s i _).trans (recordEvent _ i _)).trans (movePath _ i _)).trans (chooseAndClaim _ i)

theorem takeGoodFrame (s : State) (i : PathIx) (st : StationId) (pr : ProgrammeId) (k : Slot) :
    Acts s (takeGoodFrame i st pr k s) := by
  unfold Machine.takeGoodFrame
  split
  · split
    · split
      · exact acquire s i
      · exact refl s
    · split
      · exact modPath s i _
      · exact refl s
  · exact refl s

theorem expireHoldover (s : State) (i : PathIx) : Acts s (expireHoldover i s) :=
  ((((modPath s i _).trans (releaseClaim _ i)).trans (dropOutput _ i)).trans (recordEvent _ i _)).trans
    (movePath _ i _)

theorem collisionExpiry (s : State) (k : Slot) : Acts s (collisionExpiry k s) := by
  unfold Machine.collisionExpiry
  split
  · split
    · exact (((loseToPeer s 0 k _).trans (pinnedUpdate _)).trans (noticeFreed s _)).trans (serveMarks _)
    · exact restartCollision s k
  · exact refl s

theorem claimWon (s : State) (k : Slot) : Acts s (claimWon k s) := by
  unfold Machine.claimWon
  split
  · exact refl s
  · split
    · exact (recordEvent s _ _).trans (movePath _ _ _)
    · exact refl s

theorem holdOffEnd (s : State) (k : Slot) : Acts s (holdOffEnd k s) := by
  unfold Machine.holdOffEnd
  split
  · exact (((modSlot s k _).trans (claimWon _ k)).trans (collisionTest _ k)).trans (pinnedUpdate _)
  · exact refl s

theorem claimRetryDeadline (s : State) (i : PathIx) : Acts s (claimRetryDeadline i s) := by
  unfold Machine.claimRetryDeadline
  split
  · dsimp only
    split
    · exact ((modWait s i _).trans (modWait _ i _)).trans (serveMarks _)
    · exact modWait s i _
  · exact refl s

theorem acquireTimeout (s : State) (i : PathIx) : Acts s (acquireTimeout i s) := by
  unfold Machine.acquireTimeout
  split
  · exact acquireFail s i
  · exact refl s

theorem carrierCheckFail (s : State) (i : PathIx) : Acts s (carrierCheckFail i s) := by
  unfold Machine.carrierCheckFail
  split
  · exact acquireFail s i
  · exact refl s

theorem lowCarrierLoss (s : State) (i : PathIx) : Acts s (lowCarrierLoss i s) := by
  unfold Machine.lowCarrierLoss
  split
  · exact sourceLost s i
  · exact refl s

theorem tagLoss (s : State) (i : PathIx) : Acts s (tagLoss i s) := by
  unfold Machine.tagLoss
  split
  · exact sourceLost s i
  · exact refl s

theorem holdoverExpired (s : State) (i : PathIx) : Acts s (holdoverExpired i s) := by
  unfold Machine.holdoverExpired
  split
  · exact ((expireHoldover s i).trans (noticeFreed s _)).trans (serveMarks _)
  · exact refl s

theorem tuningUpkeep (s : State) (i : PathIx) : Acts s (tuningUpkeep i s) := by
  have side (t : State) (d : Side) (w : Bool) (k : Option Slot) : Acts t (upkeepSide i d w k t) := by
    unfold upkeepSide
    split
    · exact refl t
    · split
      · exact tuneRequest t i d _
      · exact refl t
  exact (side s _ _ _).trans (side _ _ _ _)

theorem enterTxFault (s : State) (i : PathIx) : Acts s (enterTxFault i s) :=
  ((modPath s i _).trans (recordEvent _ i _)).trans (refreshPath _ i)

theorem endTxFault (s : State) (i : PathIx) : Acts s (endTxFault i s) :=
  ((modPath s i _).trans (recordEvent _ i _)).trans (refreshPath _ i)

theorem txRestored (s : State) (i : PathIx) : Acts s (txRestored i s) := by
  unfold Machine.txRestored
  split
  · exact endTxFault s i
  · exact refl s

theorem shedOne (s : State) (i : PathIx) : Acts s (shedOne i s) :=
  ((modPath s i _).trans (recordEvent _ i _)).trans (refreshPath _ i)

theorem refreshAll (s : State) : Acts s (refreshAll s) := forPaths (fun i t => refreshPath t i) s

/-! ### What the updates keep -/

theorem slots_keep {s t : State} (h : Acts s t) (k : Slot) :
    (t.slot k).peers = (s.slot k).peers ∧ (t.slot k).attr = (s.slot k).attr := by
  refine h.keeps (P := fun u => (u.slot k).peers = (s.slot k).peers ∧ (u.slot k).attr = (s.slot k).attr)
    ?_ ?_ ?_ ?_ ?_ ?_ ?_ ?_ ?_ ?_ ⟨rfl, rfl⟩ <;> intro u
  case refine_2 => intro i hu; simpa [State.slot] using hu
  case refine_3 => intro i hu; simpa [State.slot] using hu
  case refine_4 =>
    intro j f hf hu
    rcases eq_or_ne k j with rfl | hne
    · rw [State.slot_modSlot_self]; exact ⟨(hf _).1.trans hu.1, (hf _).2.trans hu.2⟩
    · rwa [State.slot_modSlot_ne _ _ _ hne]
  case refine_5 =>
    intro f hf hu
    have hk : State.slot { u with slots := updAll u.slots f } k = f k (u.slot k) := by simp [State.slot]
    rw [hk]; exact ⟨(hf k _).1.trans hu.1, (hf k _).2.trans hu.2⟩
  all_goals intros; assumption

theorem peers_eq {s t : State} (h : Acts s t) (k : Slot) : (t.slot k).peers = (s.slot k).peers := (h.slots_keep k).1

theorem attr_eq {s t : State} (h : Acts s t) (k : Slot) : (t.slot k).attr = (s.slot k).attr := (h.slots_keep k).2

end Acts

/-! ### The tuning queue (R17, R20) -/

/-- The tuning queue is within its capacity and holds one entry for a path and side (1.7). -/
abbrev TuningOk (q : List TuneEntry) : Prop := q.length ≤ tuningCapacity ∧ TuneDistinct q

theorem TuneEntry.isFor_iff {i : PathIx} {d : Side} {e : TuneEntry} : e.isFor i d = true ↔ e.path = i ∧ e.side = d := by
  simp [TuneEntry.isFor]

theorem TuningOk.filter {q : List TuneEntry} (h : TuningOk q) (p : TuneEntry → Bool) : TuningOk (q.filter p) :=
  ⟨(List.length_filter_le p q).trans h.1, h.2.filter p⟩

theorem TuningOk.tuneInto {q : List TuneEntry} (h : TuningOk q) (i : PathIx) (d : Side) (k : Slot) :
    TuningOk (tuneInto i d k q) := by
  unfold Machine.tuneInto
  split
  · refine ⟨by simpa using h.1, List.pairwise_map.mpr (h.2.imp fun {a b} hab => ?_)⟩
    have hkeep (e : TuneEntry) : (if e.isFor i d = true then { e with slot := k } else e).path = e.path ∧
        (if e.isFor i d = true then { e with slot := k } else e).side = e.side := by split <;> exact ⟨rfl, rfl⟩
    rwa [(hkeep a).1, (hkeep a).2, (hkeep b).1, (hkeep b).2]
  · rename_i hany
    split
    · rename_i hlen
      refine ⟨by simpa using hlen, List.pairwise_append.mpr ⟨h.2, by simp, fun a ha b hb hab => hany ?_⟩⟩
      obtain rfl := List.mem_singleton.mp hb
      exact List.any_eq_true.mpr ⟨a, ha, TuneEntry.isFor_iff.mpr hab⟩
    · exact h

theorem Acts.tuningOk {s t : State} (h : Acts s t) (hs : TuningOk s.tuning) : TuningOk t.tuning := by
  refine h.keeps (P := fun u => TuningOk u.tuning) ?_ ?_ ?_ ?_ ?_ ?_ ?_ ?_ ?_ ?_ hs <;> intro u
  case refine_2 => intro i hu; rwa [refreshPath_tuning]
  case refine_3 => intro i hu; rwa [cutVisitOf_tuning]
  case refine_8 => intro i d k hu; exact hu.tuneInto i d k
  case refine_9 => intro i d hu; exact hu.filter _
  all_goals intros; assumption

/-! ### The source table under a penalty (R82) -/

/-- A table changed in every entry, each of which keeps its key, keeps its order. -/
theorem SourcesOrdered.map {es : List Source} (h : SourcesOrdered es) {f : Source → Source}
    (hf : ∀ e, (f e).slot = e.slot ∧ (f e).station = e.station) : SourcesOrdered (es.map f) := by
  refine List.pairwise_map.mpr (h.imp fun {a b} hab => ?_)
  simpa only [keyBefore, (hf a).1, (hf a).2, (hf b).1, (hf b).2] using hab

/-- What every entry of the table meets, and what depends on an entry's penalty alone does not, stands through an act;
the keys stand in their order. -/
theorem Acts.sources_keep {Q : List Source → Prop} (hQ : ∀ k st u es, Q es →
      Q (es.map fun e => if Source.hasKey k st e then { e with barredUntil := u } else e))
    {s t : State} (h : Acts s t) (hs : Q s.sources) : Q t.sources := by
  refine h.keeps (P := fun u => Q u.sources) ?_ ?_ ?_ ?_ ?_ ?_ ?_ ?_ ?_ ?_ hs <;> intro u
  case refine_2 => intro i hu; rwa [refreshPath_sources]
  case refine_3 => intro i hu; rwa [cutVisitOf_sources]
  case refine_10 => intro k st hu; exact hQ k st _ _ hu
  all_goals intros; assumption

/-! ### TXKEY and its hold (R156) -/

/-- TXKEY is asserted while a path is on the air, and held just while none is. -/
abbrev KeyOk (s : State) : Prop :=
  (s.anyOnAir = true → s.lines.txkey = true) ∧
  (s.lines.keyHoldDeadline.isSome = (s.lines.txkey && !s.anyOnAir))

theorem anyOnAir_iff (s : State) : s.anyOnAir = true ↔ ∃ i : PathIx, (s.path i).cond ≠ .off := by
  simp [State.anyOnAir, State.onAir, mem_indices]

/-- Two states whose paths have the same conditions are on the air alike. -/
theorem anyOnAir_congr {s t : State} (h : ∀ i : PathIx, (t.path i).cond = (s.path i).cond) : t.anyOnAir = s.anyOnAir := by
  unfold State.anyOnAir
  congr 1
  funext i
  simp [State.onAir, h]

theorem KeyOk.congr {s t : State} (hs : KeyOk s) (h : ∀ i : PathIx, (t.path i).cond = (s.path i).cond)
    (hkey : t.lines.txkey = s.lines.txkey) (hhold : t.lines.keyHoldDeadline = s.lines.keyHoldDeadline) : KeyOk t := by
  rw [KeyOk, anyOnAir_congr h, hkey, hhold]; exact hs

@[simp] theorem keyUpdate_path (s : State) (i : PathIx) : (keyUpdate s).path i = s.path i := by simp [State.path]

@[simp] theorem cutVisitOf_path (s : State) (i j : PathIx) : (cutVisitOf i s).path j = s.path j := by simp [State.path]

/-- A key update sets the key and its hold right, whatever the conditions have become. -/
theorem keyOk_keyUpdate {s : State} (h : s.lines.keyHoldDeadline.isSome = true → s.lines.txkey = true) :
    KeyOk (keyUpdate s) := by
  have hair : (keyUpdate s).anyOnAir = s.anyOnAir := anyOnAir_congr fun i => by simp
  unfold KeyOk
  rw [hair]
  unfold keyUpdate
  cases ha : s.anyOnAir <;> cases hk : s.lines.txkey <;> cases hd : s.lines.keyHoldDeadline <;> simp_all

theorem keyOk_refreshPath {s : State} (hs : KeyOk s) (i : PathIx) : KeyOk (refreshPath i s) := by
  unfold refreshPath
  dsimp only
  split
  · exact hs
  · have hhold : s.lines.keyHoldDeadline.isSome = true → s.lines.txkey = true := by
      rw [hs.2]; simp +contextual
    unfold turnCond
    dsimp only
    refine keyOk_keyUpdate ?_
    have hlines : (cutVisitOf i (s.modPath i fun p => { p with cond := condOf s.gov.site (s.path i) })).lines =
        s.lines := by
      unfold cutVisitOf
      split
      · rfl
      · split <;> rfl
    split
    · simpa [State.setVerdict, hlines] using hhold
    · simpa [hlines] using hhold

theorem Acts.keyOk {s t : State} (h : Acts s t) (hs : KeyOk s) : KeyOk t := by
  refine h.keeps (P := KeyOk) ?_ ?_ ?_ ?_ ?_ ?_ ?_ ?_ ?_ ?_ hs <;> intro u
  case refine_1 =>
    intro i f hf hu
    refine hu.congr (fun j => ?_) rfl rfl
    rcases eq_or_ne j i with rfl | hne
    · rw [State.path_modPath_self, hf]
    · rw [State.path_modPath_ne _ _ _ hne]
  case refine_2 => exact fun i hu => keyOk_refreshPath hu i
  case refine_3 =>
    intro i hu
    refine hu.congr (fun j => by simp) ?_ ?_ <;>
    · unfold Machine.cutVisitOf
      split
      · rfl
      · split <;> rfl
  case refine_4 => exact fun k f _ hu => hu.congr (fun _ => rfl) rfl rfl
  case refine_5 => exact fun f _ hu => hu.congr (fun _ => by simp only [State.path]) rfl rfl
  case refine_6 => exact fun i f hu => hu.congr (fun _ => rfl) rfl rfl
  case refine_7 => exact fun a b hu => hu.congr (fun _ => rfl) rfl rfl
  case refine_8 => exact fun i d k hu => hu.congr (fun _ => rfl) rfl rfl
  case refine_9 => exact fun i d hu => hu.congr (fun _ => rfl) rfl rfl
  case refine_10 => exact fun k st hu => hu.congr (fun _ => rfl) rfl rfl

end Sys2Proof.Machine
end
section
/-! PROOFS. What the acts on one path do, each said once: the record of the path, the entry of the slot, and that every other
path and slot stands. -/

namespace Sys2Proof.Machine

open Sys2Proof

/-! ### Readers after the smaller acts -/

@[simp] theorem recordEvent_path_self (s : State) (i : PathIx) (e : PathEvent) :
    (recordEvent i e s).path i = { s.path i with event := some e } := State.path_modPath_self s i _
theorem recordEvent_path_ne (s : State) {i j : PathIx} (e : PathEvent) (h : j ≠ i) :
    (recordEvent i e s).path j = s.path j := State.path_modPath_ne s i _ h
@[simp] theorem recordEvent_slot (s : State) (i : PathIx) (e : PathEvent) (k : Slot) :
    (recordEvent i e s).slot k = s.slot k := rfl
@[simp] theorem recordEvent_wait (s : State) (i : PathIx) (e : PathEvent) (j : PathIx) :
    (recordEvent i e s).wait j = s.wait j := rfl
@[simp] theorem recordEvent_gov (s : State) (i : PathIx) (e : PathEvent) : (recordEvent i e s).gov = s.gov := rfl

@[simp] theorem tuneRequest_path (s : State) (i : PathIx) (d : Side) (k : Slot) (j : PathIx) :
    (tuneRequest i d k s).path j = s.path j := rfl
@[simp] theorem tuneRequest_slot (s : State) (i : PathIx) (d : Side) (k j : Slot) :
    (tuneRequest i d k s).slot j = s.slot j := rfl
@[simp] theorem tuneRequest_wait (s : State) (i : PathIx) (d : Side) (k : Slot) (j : PathIx) :
    (tuneRequest i d k s).wait j = s.wait j := rfl
@[simp] theorem tuneRequest_gov (s : State) (i : PathIx) (d : Side) (k : Slot) : (tuneRequest i d k s).gov = s.gov := rfl
@[simp] theorem tuneRequest_tuning (s : State) (i : PathIx) (d : Side) (k : Slot) :
    (tuneRequest i d k s).tuning = tuneInto i d k s.tuning := rfl
@[simp] theorem tuneRequest_sources (s : State) (i : PathIx) (d : Side) (k : Slot) :
    (tuneRequest i d k s).sources = s.sources := rfl

@[simp] theorem tuneCancel_path (s : State) (i : PathIx) (d : Option Side) (j : PathIx) :
    (tuneCancel i d s).path j = s.path j := rfl
@[simp] theorem tuneCancel_slot (s : State) (i : PathIx) (d : Option Side) (j : Slot) :
    (tuneCancel i d s).slot j = s.slot j := rfl
@[simp] theorem tuneCancel_wait (s : State) (i : PathIx) (d : Option Side) (j : PathIx) :
    (tuneCancel i d s).wait j = s.wait j := rfl
@[simp] theorem tuneCancel_gov (s : State) (i : PathIx) (d : Option Side) : (tuneCancel i d s).gov = s.gov := rfl
@[simp] theorem tuneCancel_sources (s : State) (i : PathIx) (d : Option Side) :
    (tuneCancel i d s).sources = s.sources := rfl
@[simp] theorem tuneCancel_tuning (s : State) (i : PathIx) (d : Option Side) :
    (tuneCancel i d s).tuning = s.tuning.filter (fun e => !e.isNamed i d) := rfl

@[simp] theorem pinnedUpdate_path (s : State) (j : PathIx) : (pinnedUpdate s).path j = s.path j := rfl
@[simp] theorem pinnedUpdate_slot (s : State) (k : Slot) : (pinnedUpdate s).slot k = s.slot k := rfl
@[simp] theorem pinnedUpdate_wait (s : State) (j : PathIx) : (pinnedUpdate s).wait j = s.wait j := rfl
@[simp] theorem pinnedUpdate_tuning (s : State) : (pinnedUpdate s).tuning = s.tuning := rfl
@[simp] theorem pinnedUpdate_sources (s : State) : (pinnedUpdate s).sources = s.sources := rfl
@[simp] theorem pinnedUpdate_silentRelease (s : State) : (pinnedUpdate s).silentRelease = s.silentRelease := rfl

@[simp] theorem claimMarks_path (s : State) (i j : PathIx) : (claimMarks i s).path j = s.path j := rfl
@[simp] theorem claimMarks_slot (s : State) (i : PathIx) (k : Slot) : (claimMarks i s).slot k = s.slot k := rfl
@[simp] theorem claimMarks_tuning (s : State) (i : PathIx) : (claimMarks i s).tuning = s.tuning := rfl
@[simp] theorem claimMarks_sources (s : State) (i : PathIx) : (claimMarks i s).sources = s.sources := rfl
@[simp] theorem claimMarks_gov (s : State) (i : PathIx) : (claimMarks i s).gov = s.gov := rfl
@[simp] theorem claimMarks_silentRelease (s : State) (i : PathIx) : (claimMarks i s).silentRelease = false := rfl
@[simp] theorem claimMarks_wait_self (s : State) (i : PathIx) :
    (claimMarks i s).wait i = { freed := false, retryDeadline := none } := State.wait_modWait_self s i _
theorem claimMarks_wait_ne (s : State) {i j : PathIx} (h : j ≠ i) : (claimMarks i s).wait j = s.wait j :=
  State.wait_modWait_ne s i _ h

@[simp] theorem refreshPath_slot (s : State) (i : PathIx) (k : Slot) : (refreshPath i s).slot k = s.slot k := by
  simp [State.slot]
@[simp] theorem refreshPath_wait (s : State) (i j : PathIx) : (refreshPath i s).wait j = s.wait j := by
  simp [State.wait]
@[simp] theorem movePath_slot (s : State) (i : PathIx) (st : PathState) (k : Slot) :
    (movePath i st s).slot k = s.slot k := by simp [State.slot]
@[simp] theorem movePath_wait (s : State) (i : PathIx) (st : PathState) (j : PathIx) :
    (movePath i st s).wait j = s.wait j := by simp [State.wait]
@[simp] theorem setOutput_slot (s : State) (i : PathIx) (o : Option Slot) (k : Slot) :
    (setOutput i o s).slot k = s.slot k := by simp [State.slot]
@[simp] theorem setOutput_wait (s : State) (i : PathIx) (o : Option Slot) (j : PathIx) :
    (setOutput i o s).wait j = s.wait j := by simp [State.wait]
@[simp] theorem setOutput_gov (s : State) (i : PathIx) (o : Option Slot) : (setOutput i o s).gov = s.gov :=
  (setOutput_act s i o).gov_eq
@[simp] theorem movePath_gov (s : State) (i : PathIx) (st : PathState) : (movePath i st s).gov = s.gov :=
  (movePath_act s i st).gov_eq

@[simp] theorem refuseClaim_path (s : State) (i j : PathIx) : (refuseClaim i s).path j = s.path j := rfl
@[simp] theorem refuseClaim_slot (s : State) (i : PathIx) (k : Slot) : (refuseClaim i s).slot k = s.slot k := rfl

/-- A condition depends on the transmit fault, the state and the shed flag alone (R126). -/
theorem condOf_congr {site : Site} {p q : PathRec} (hfault : p.txFaultDeadline = q.txFaultDeadline)
    (hstate : p.state = q.state) (hshed : p.shed = q.shed) : condOf site p = condOf site q := by
  simp only [condOf, hfault, hstate, hshed]

/-- A path that moves between states of which the old is not ON keeps its hysteresis (R87). -/
theorem movePath_path_of_ne_on {s : State} {i : PathIx} (h : (s.path i).state ≠ .on) (st : PathState) :
    (movePath i st s).path i = { s.path i with state := st, cond := condOf s.gov.site { s.path i with state := st } } := by
  simp [movePath_path_self, h]

/-! ### An output slot taken or cleared (R121, R122) -/

theorem settleCancel_path_self (s : State) (i : PathIx) :
    (settleCancel i s).path i = { s.path i with cancelOwed := 0 } := by
  by_cases h : (s.path i).cancelOwed = 0
  · rw [settleCancel_of_clear h, ← h]
  · rw [settleCancel_of_owed h]; simp

theorem settleCancel_path_ne (s : State) {i j : PathIx} (h : j ≠ i) : (settleCancel i s).path j = s.path j := by
  by_cases hc : (s.path i).cancelOwed = 0
  · rw [settleCancel_of_clear hc]
  · rw [settleCancel_of_owed hc, State.path_modPath_ne _ _ _ h, tuneCancel_path]

@[simp] theorem settleCancel_slot (s : State) (i : PathIx) (k : Slot) : (settleCancel i s).slot k = s.slot k := by
  unfold settleCancel; split <;> rfl
@[simp] theorem settleCancel_wait (s : State) (i j : PathIx) : (settleCancel i s).wait j = s.wait j := by
  unfold settleCancel; split <;> rfl
@[simp] theorem settleCancel_sources (s : State) (i : PathIx) : (settleCancel i s).sources = s.sources := by
  unfold settleCancel; split <;> rfl
@[simp] theorem settleCancel_silentRelease (s : State) (i : PathIx) :
    (settleCancel i s).silentRelease = s.silentRelease := by
  unfold settleCancel; split <;> rfl
@[simp] theorem settleCancel_gov (s : State) (i : PathIx) : (settleCancel i s).gov = s.gov := (settleCancel_act s i).gov_eq

theorem settleCancel_tuning (s : State) (i : PathIx) : (settleCancel i s).tuning =
    if (s.path i).cancelOwed = 0 then s.tuning else s.tuning.filter (fun e => !e.isNamed i (some .transmit)) := by
  unfold settleCancel; split <;> rfl

theorem takeOutput_path_self (s : State) (i : PathIx) (k : Slot) :
    (takeOutput i k s).path i = { s.path i with output := some k, txPending := true, cancelOwed := 0 } := by
  simp [takeOutput, setOutput_path_self, settleCancel_path_self]

theorem takeOutput_path_ne (s : State) {i j : PathIx} (k : Slot) (h : j ≠ i) :
    (takeOutput i k s).path j = s.path j := by
  simp [takeOutput, State.path_modPath_ne _ _ _ h, setOutput_path_ne _ _ h, settleCancel_path_ne _ h]

@[simp] theorem takeOutput_slot (s : State) (i : PathIx) (k j : Slot) : (takeOutput i k s).slot j = s.slot j := by
  simp [takeOutput]
@[simp] theorem takeOutput_wait (s : State) (i : PathIx) (k : Slot) (j : PathIx) :
    (takeOutput i k s).wait j = s.wait j := by simp [takeOutput]
@[simp] theorem takeOutput_sources (s : State) (i : PathIx) (k : Slot) : (takeOutput i k s).sources = s.sources := by
  simp [takeOutput]
@[simp] theorem takeOutput_silentRelease (s : State) (i : PathIx) (k : Slot) :
    (takeOutput i k s).silentRelease = s.silentRelease :=
  (setOutput_silentRelease _ i _).trans (settleCancel_silentRelease s i)
@[simp] theorem takeOutput_gov (s : State) (i : PathIx) (k : Slot) : (takeOutput i k s).gov = s.gov := by
  simp [takeOutput]

theorem takeOutput_tuning (s : State) (i : PathIx) (k : Slot) : (takeOutput i k s).tuning =
    tuneInto i .transmit k (if (s.path i).cancelOwed = 0 then s.tuning
      else s.tuning.filter (fun e => !e.isNamed i (some .transmit))) := by
  simp [takeOutput, settleCancel_tuning]

theorem clearOutput_path_self (s : State) (i : PathIx) :
    (clearOutput i s).path i = { s.path i with output := none, txPending := false } := by
  simp [clearOutput, setOutput_path_self]

theorem clearOutput_path_ne (s : State) {i j : PathIx} (h : j ≠ i) : (clearOutput i s).path j = s.path j := by
  simp [clearOutput, State.path_modPath_ne _ _ _ h, setOutput_path_ne _ _ h]

@[simp] theorem clearOutput_slot (s : State) (i : PathIx) (k : Slot) : (clearOutput i s).slot k = s.slot k := by
  simp [clearOutput]
@[simp] theorem clearOutput_wait (s : State) (i j : PathIx) : (clearOutput i s).wait j = s.wait j := by
  simp [clearOutput]
@[simp] theorem clearOutput_gov (s : State) (i : PathIx) : (clearOutput i s).gov = s.gov := by simp [clearOutput]
@[simp] theorem clearOutput_sources (s : State) (i : PathIx) : (clearOutput i s).sources = s.sources := by
  simp [clearOutput]
@[simp] theorem clearOutput_tuning (s : State) (i : PathIx) : (clearOutput i s).tuning = s.tuning := by
  simp [clearOutput]

theorem dropOutput_path_self (s : State) (i : PathIx) :
    (dropOutput i s).path i = { s.path i with output := none, txPending := false } := clearOutput_path_self s i
theorem dropOutput_path_ne (s : State) {i j : PathIx} (h : j ≠ i) : (dropOutput i s).path j = s.path j :=
  clearOutput_path_ne s h
@[simp] theorem dropOutput_slot (s : State) (i : PathIx) (k : Slot) : (dropOutput i s).slot k = s.slot k :=
  clearOutput_slot s i k
@[simp] theorem dropOutput_wait (s : State) (i j : PathIx) : (dropOutput i s).wait j = s.wait j := clearOutput_wait s i j
@[simp] theorem dropOutput_gov (s : State) (i : PathIx) : (dropOutput i s).gov = s.gov := clearOutput_gov s i
@[simp] theorem dropOutput_sources (s : State) (i : PathIx) : (dropOutput i s).sources = s.sources :=
  clearOutput_sources s i
theorem dropOutput_tuning (s : State) (i : PathIx) :
    (dropOutput i s).tuning = s.tuning.filter (fun e => !e.isNamed i (some .transmit)) := by simp [dropOutput]

theorem loseOutput_path_self (s : State) (c : Nat) (i : PathIx) : (loseOutput c i s).path i =
    { s.path i with
      output := none, txPending := false, cancelOwed := if c = 0 then (s.path i).cancelOwed else c } := by
  unfold loseOutput
  split
  · exact dropOutput_path_self s i
  · simp [clearOutput_path_self]

theorem loseOutput_path_ne (s : State) (c : Nat) {i j : PathIx} (h : j ≠ i) :
    (loseOutput c i s).path j = s.path j := by
  unfold loseOutput
  split
  · exact dropOutput_path_ne s h
  · rw [State.path_modPath_ne _ _ _ h, clearOutput_path_ne s h]

@[simp] theorem loseOutput_slot (s : State) (c : Nat) (i : PathIx) (k : Slot) :
    (loseOutput c i s).slot k = s.slot k := by
  unfold loseOutput; split <;> simp
@[simp] theorem loseOutput_wait (s : State) (c : Nat) (i j : PathIx) : (loseOutput c i s).wait j = s.wait j := by
  unfold loseOutput; split <;> simp
@[simp] theorem loseOutput_gov (s : State) (c : Nat) (i : PathIx) : (loseOutput c i s).gov = s.gov := by
  unfold loseOutput; split <;> simp
@[simp] theorem loseOutput_sources (s : State) (c : Nat) (i : PathIx) : (loseOutput c i s).sources = s.sources := by
  unfold loseOutput; split <;> simp
theorem loseOutput_tuning (s : State) (c : Nat) (i : PathIx) : (loseOutput c i s).tuning =
    if c = 0 then s.tuning.filter (fun e => !e.isNamed i (some .transmit)) else s.tuning := by
  unfold loseOutput; split <;> simp [dropOutput_tuning]

/-! ### A slot lost (R122 to R124) -/

/-- The record of a path that loses its slot: the state that R122 gives, the event, the output slot and the holdover
deadline absent, and the cancellation that it may owe. -/
theorem slotLost_path_self (s : State) (c : Nat) (i : PathIx) (e : PathEvent) : (slotLost c i e s).path i =
    { s.path i with
      state := slotLostState (s.path i).state, event := some e, output := none, txPending := false
      cancelOwed := if c = 0 then (s.path i).cancelOwed else c, holdoverDeadline := none
      cond := condOf s.gov.site { s.path i with state := slotLostState (s.path i).state }
      candidate := if (s.path i).state = .on then none else (s.path i).candidate
      candidateCount := if (s.path i).state = .on then 0 else (s.path i).candidateCount } := by
  have hon : ((s.path i).state = .on ∧ slotLostState (s.path i).state ≠ .on) ↔ (s.path i).state = .on :=
    ⟨fun h => h.1, fun h => ⟨h, by rw [h]; decide⟩⟩
  simp only [slotLost, movePath_path_self, recordEvent_path_self, State.path_modPath_self, loseOutput_path_self,
    recordEvent_gov, State.modPath_gov, loseOutput_gov, hon]
  rfl

theorem slotLost_path_ne (s : State) (c : Nat) {i j : PathIx} (e : PathEvent) (h : j ≠ i) :
    (slotLost c i e s).path j = s.path j := by
  simp [slotLost, movePath_path_ne _ _ h, recordEvent_path_ne _ _ h, State.path_modPath_ne _ _ _ h,
    loseOutput_path_ne _ _ h]

@[simp] theorem slotLost_slot (s : State) (c : Nat) (i : PathIx) (e : PathEvent) (k : Slot) :
    (slotLost c i e s).slot k = s.slot k := by simp [slotLost]
@[simp] theorem slotLost_wait (s : State) (c : Nat) (i : PathIx) (e : PathEvent) (j : PathIx) :
    (slotLost c i e s).wait j = s.wait j := by simp [slotLost]
@[simp] theorem slotLost_sources (s : State) (c : Nat) (i : PathIx) (e : PathEvent) :
    (slotLost c i e s).sources = s.sources := by simp [slotLost]
theorem slotLost_tuning (s : State) (c : Nat) (i : PathIx) (e : PathEvent) : (slotLost c i e s).tuning =
    if c = 0 then s.tuning.filter (fun e => !e.isNamed i (some .transmit)) else s.tuning := by
  simp [slotLost, loseOutput_tuning]

section
variable {s : State} {k : Slot} {i : PathIx} (hown : (s.slot k).ownPath = some i) (c : Nat) (e : PathEvent)
include hown

theorem loseToPeer_eq : loseToPeer c k e s = startRetry i (slotLost c i e (s.modSlot k SlotEntry.cleared)) := by
  simp [loseToPeer, hown]

theorem loseToPeer_slot_self : (loseToPeer c k e s).slot k = (s.slot k).cleared := by
  simp [loseToPeer_eq hown, startRetry]

theorem loseToPeer_path_self : (loseToPeer c k e s).path i = (slotLost c i e s).path i := by
  simp [loseToPeer_eq hown, startRetry, slotLost_path_self]
  exact ⟨rfl, rfl⟩

theorem loseToPeer_path_ne {j : PathIx} (h : j ≠ i) : (loseToPeer c k e s).path j = s.path j := by
  simp [loseToPeer_eq hown, startRetry, slotLost_path_ne _ _ _ h]

theorem loseToPeer_wait_self : (loseToPeer c k e s).wait i =
    { freed := false, retryDeadline := some (laterS s.now s.params.claimHoldOff) } := by
  have h := slotLost_act (s.modSlot k SlotEntry.cleared) c i e
  simp [loseToPeer_eq hown, startRetry, h.now_eq, h.params_eq]

theorem loseToPeer_wait_ne {j : PathIx} (h : j ≠ i) : (loseToPeer c k e s).wait j = s.wait j := by
  simp [loseToPeer_eq hown, startRetry, State.wait_modWait_ne _ _ _ h]

theorem loseToPeer_tuning : (loseToPeer c k e s).tuning =
    if c = 0 then s.tuning.filter (fun e => !e.isNamed i (some .transmit)) else s.tuning := by
  simp [loseToPeer_eq hown, startRetry, slotLost_tuning]

end

theorem loseToPeer_slot_ne (s : State) (c : Nat) {j k : Slot} (e : PathEvent) (h : j ≠ k) :
    (loseToPeer c k e s).slot j = s.slot j := by
  unfold loseToPeer
  dsimp only
  split
  · exact State.slot_modSlot_ne s k _ h
  · simp [startRetry, State.slot_modSlot_ne _ _ _ h]

@[simp] theorem loseToPeer_sources (s : State) (c : Nat) (k : Slot) (e : PathEvent) :
    (loseToPeer c k e s).sources = s.sources := by
  unfold loseToPeer
  dsimp only
  split
  · rfl
  · simp [startRetry]

/-! ### A claim taken (R96, R99, R121) -/

/-- The entry of a slot that carries an INTENT of a path (R96). -/
def SlotEntry.intended (i : PathIx) (deadline : Time) (e : SlotEntry) : SlotEntry :=
  { e with own := .intent, ownPath := some i, ownPinned := false, collision := none, ownDeadline := some deadline }

/-- The entry of a slot that carries a pinned claim of a path (R99). -/
def SlotEntry.pinnedFor (i : PathIx) (e : SlotEntry) : SlotEntry :=
  { e with own := .held, ownPath := some i, ownPinned := true, ownDeadline := none, collision := none }

/-- The record of a path that has taken an INTENT on slot k (R121). -/
def PathRec.claiming (site : Site) (k : Slot) (p : PathRec) : PathRec :=
  { p with
    state := .claiming, output := some k, txPending := true, cancelOwed := 0
    cond := condOf site { p with state := .claiming } }

/-- The record of a path that has taken a pinned claim on slot k (R121). -/
def PathRec.pinnedOn (site : Site) (k : Slot) (p : PathRec) : PathRec :=
  { p with
    state := .on, event := some .claimWon, output := some k, txPending := true, cancelOwed := 0
    cond := condOf site { p with state := .on } }

theorem takeIntent_path_self {s : State} {i : PathIx} (hst : (s.path i).state ≠ .on) (k : Slot) :
    (takeIntent i k s).path i = (s.path i).claiming s.gov.site k := by
  rw [takeIntent, pinnedUpdate_path, movePath_path_of_ne_on (by simpa [takeOutput_path_self] using hst)]
  simp [takeOutput_path_self, PathRec.claiming, condOf]

theorem takeIntent_path_ne (s : State) {i j : PathIx} (k : Slot) (h : j ≠ i) :
    (takeIntent i k s).path j = s.path j := by
  simp [takeIntent, movePath_path_ne _ _ h, takeOutput_path_ne _ _ h]

theorem takeIntent_slot_self (s : State) (i : PathIx) (k : Slot) :
    (takeIntent i k s).slot k = (s.slot k).intended i (laterS s.now s.params.claimHoldOff) := by
  simp [takeIntent, SlotEntry.intended]

theorem takeIntent_slot_ne (s : State) (i : PathIx) {j k : Slot} (h : j ≠ k) :
    (takeIntent i k s).slot j = s.slot j := by
  simp [takeIntent, State.slot_modSlot_ne _ _ _ h]

theorem takeIntent_wait_self (s : State) (i : PathIx) (k : Slot) :
    (takeIntent i k s).wait i = { freed := false, retryDeadline := none } := by
  simp [takeIntent]

theorem takeIntent_wait_ne (s : State) {i j : PathIx} (k : Slot) (h : j ≠ i) :
    (takeIntent i k s).wait j = s.wait j := by
  simp [takeIntent, claimMarks_wait_ne _ h]

theorem takeIntent_tuning (s : State) (i : PathIx) (k : Slot) : (takeIntent i k s).tuning =
    tuneInto i .transmit k (if (s.path i).cancelOwed = 0 then s.tuning
      else s.tuning.filter (fun e => !e.isNamed i (some .transmit))) := by
  simp [takeIntent, takeOutput_tuning]
  rfl

@[simp] theorem takeIntent_sources (s : State) (i : PathIx) (k : Slot) : (takeIntent i k s).sources = s.sources := by
  simp [takeIntent]

@[simp] theorem takeIntent_silentRelease (s : State) (i : PathIx) (k : Slot) :
    (takeIntent i k s).silentRelease = false := by
  simp [takeIntent]

theorem takePinned_path_self {s : State} {i : PathIx} (k : Slot) :
    (takePinned i k s).path i = (s.path i).pinnedOn s.gov.site k := by
  simp [takePinned, movePath_path_self, takeOutput_path_self, PathRec.pinnedOn, condOf]

theorem takePinned_path_ne (s : State) {i j : PathIx} (k : Slot) (h : j ≠ i) :
    (takePinned i k s).path j = s.path j := by
  simp [takePinned, movePath_path_ne _ _ h, recordEvent_path_ne _ _ h, takeOutput_path_ne _ _ h]

theorem takePinned_slot_self (s : State) (i : PathIx) (k : Slot) :
    (takePinned i k s).slot k = (s.slot k).pinnedFor i := by
  simp [takePinned, SlotEntry.pinnedFor]

theorem takePinned_slot_ne (s : State) (i : PathIx) {j k : Slot} (h : j ≠ k) :
    (takePinned i k s).slot j = s.slot j := by
  simp [takePinned, State.slot_modSlot_ne _ _ _ h]

theorem takePinned_wait_self (s : State) (i : PathIx) (k : Slot) :
    (takePinned i k s).wait i = { freed := false, retryDeadline := none } := by
  simp [takePinned]

theorem takePinned_wait_ne (s : State) {i j : PathIx} (k : Slot) (h : j ≠ i) :
    (takePinned i k s).wait j = s.wait j := by
  simp [takePinned, claimMarks_wait_ne _ h]

@[simp] theorem takePinned_sources (s : State) (i : PathIx) (k : Slot) : (takePinned i k s).sources = s.sources := by
  simp [takePinned]

/-! ### A source selected (R114) -/

/-- A selection before the notices that follow it. -/
def selectAct (i : PathIx) (e : Source) (st : PathState) (s : State) : State :=
  movePath i st (recordEvent i .sourceSelected (tuneRequest i .receive e.slot
    (s.modPath i (selectedRecord s.now s.params.acquireTimeout e))))

/-- The freed notices of an event that took s to u, and the requests of the marked paths (R103, R121). -/
def settleNotices (s u : State) : State := serveMarks (noticeFreed s u)

theorem selectSource_eq (i : PathIx) (e : Source) (st : PathState) (s : State) :
    selectSource i e st s = settleNotices s (selectAct i e st s) := rfl

theorem selectAct_path_self (s : State) (i : PathIx) (e : Source) (st : PathState) : (selectAct i e st s).path i =
    { selectedRecord s.now s.params.acquireTimeout e (s.path i) with
      state := st, event := some .sourceSelected
      cond := condOf s.gov.site { s.path i with state := st } } := by
  simp [selectAct, movePath_path_self, selectedRecord, condOf]

theorem selectAct_path_ne (s : State) {i j : PathIx} (e : Source) (st : PathState) (h : j ≠ i) :
    (selectAct i e st s).path j = s.path j := by
  simp [selectAct, movePath_path_ne _ _ h, recordEvent_path_ne _ _ h, State.path_modPath_ne _ _ _ h]

@[simp] theorem selectAct_slot (s : State) (i : PathIx) (e : Source) (st : PathState) (k : Slot) :
    (selectAct i e st s).slot k = s.slot k := by simp [selectAct]
@[simp] theorem selectAct_wait (s : State) (i : PathIx) (e : Source) (st : PathState) (j : PathIx) :
    (selectAct i e st s).wait j = s.wait j := by simp [selectAct]
@[simp] theorem selectAct_sources (s : State) (i : PathIx) (e : Source) (st : PathState) :
    (selectAct i e st s).sources = s.sources := by simp [selectAct]
@[simp] theorem selectAct_tuning (s : State) (i : PathIx) (e : Source) (st : PathState) :
    (selectAct i e st s).tuning = tuneInto i .receive e.slot s.tuning := by simp [selectAct]

theorem Acts.selectAct (s : State) (i : PathIx) (e : Source) (st : PathState) : Acts s (selectAct i e st s) :=
  ((modPath s i _).trans ((tuneRequest _ i _ _).trans (recordEvent _ i _))).trans (movePath _ i _)

/-! ### A source lost (R118 to R120) -/

@[simp] theorem clearSource_path_self (s : State) (i : PathIx) :
    (clearSource i s).path i = (s.path i).sourceCleared := State.path_modPath_self s i _
theorem clearSource_path_ne (s : State) {i j : PathIx} (h : j ≠ i) : (clearSource i s).path j = s.path j :=
  State.path_modPath_ne s i _ h
@[simp] theorem clearSource_slot (s : State) (i : PathIx) (k : Slot) : (clearSource i s).slot k = s.slot k := rfl
@[simp] theorem clearSource_wait (s : State) (i j : PathIx) : (clearSource i s).wait j = s.wait j := rfl
@[simp] theorem clearSource_gov (s : State) (i : PathIx) : (clearSource i s).gov = s.gov := rfl
@[simp] theorem clearSource_sources (s : State) (i : PathIx) : (clearSource i s).sources = s.sources := rfl
@[simp] theorem clearSource_tuning (s : State) (i : PathIx) :
    (clearSource i s).tuning = s.tuning.filter (fun e => !e.isNamed i (some .receive)) := rfl

@[simp] theorem penaliseSelected_path (s : State) (i j : PathIx) : (penaliseSelected i s).path j = s.path j := by
  unfold penaliseSelected; split <;> rfl
@[simp] theorem penaliseSelected_slot (s : State) (i : PathIx) (k : Slot) :
    (penaliseSelected i s).slot k = s.slot k := by
  unfold penaliseSelected; split <;> rfl
@[simp] theorem penaliseSelected_wait (s : State) (i j : PathIx) : (penaliseSelected i s).wait j = s.wait j := by
  unfold penaliseSelected; split <;> rfl
@[simp] theorem penaliseSelected_tuning (s : State) (i : PathIx) : (penaliseSelected i s).tuning = s.tuning := by
  unfold penaliseSelected; split <;> rfl
@[simp] theorem penaliseSelected_gov (s : State) (i : PathIx) : (penaliseSelected i s).gov = s.gov :=
  (penaliseSelected_act s i).gov_eq

/-- A failed acquisition before the notices that follow it (R118). -/
def failAct (i : PathIx) (s : State) : State :=
  let s1 := recordEvent i .acquireFailed (clearSource i (penaliseSelected i s))
  if (s.path i).state == .switching then movePath i .holdover (startHoldover i s1) else movePath i .seeking s1

theorem acquireFail_eq (i : PathIx) (s : State) : acquireFail i s = settleNotices s (failAct i s) := rfl

/-- The holdover deadline that a failed acquisition leaves (R118). -/
def failedHoldover (now : Time) (holdover : Nat) (p : PathRec) : Option Time :=
  if p.state = .switching then some (p.holdoverDeadline.getD (laterS now holdover)) else p.holdoverDeadline

/-- The state that a failed acquisition leaves (R118). -/
def failedState (st : PathState) : PathState := if st = .switching then .holdover else .seeking

theorem failAct_path_self {s : State} {i : PathIx} (hst : acquiring (s.path i).state = true) :
    (failAct i s).path i =
      { (s.path i).sourceCleared with
        state := failedState (s.path i).state, event := some .acquireFailed
        holdoverDeadline := failedHoldover s.now s.params.holdover (s.path i)
        cond := condOf s.gov.site { s.path i with state := failedState (s.path i).state } } := by
  have hon : (s.path i).state ≠ .on := by rintro h; simp [h, acquiring] at hst
  have hact := (penaliseSelected_act s i).trans (clearSource_act _ i)
  unfold failAct
  dsimp only
  by_cases h : (s.path i).state = .switching
  · rw [if_pos (by simp [h]), movePath_path_of_ne_on (by simp [startHoldover, PathRec.sourceCleared, h])]
    cases hd : (s.path i).holdoverDeadline <;>
      simp [startHoldover, PathRec.sourceCleared, failedHoldover, failedState, h, hd, condOf, hact.params_eq,
        (hact.trans (recordEvent_act _ i .acquireFailed)).now_eq, (recordEvent_act _ i .acquireFailed).params_eq]
  · rw [if_neg (by simp [h]), movePath_path_of_ne_on (by simp [PathRec.sourceCleared, hon])]
    simp [PathRec.sourceCleared, failedHoldover, failedState, h, condOf]

theorem failAct_path_ne (s : State) {i j : PathIx} (h : j ≠ i) : (failAct i s).path j = s.path j := by
  unfold failAct
  dsimp only
  split
  · simp [movePath_path_ne _ _ h, startHoldover, State.path_modPath_ne _ _ _ h, recordEvent_path_ne _ _ h,
      clearSource_path_ne _ h]
  · simp [movePath_path_ne _ _ h, recordEvent_path_ne _ _ h, clearSource_path_ne _ h]

@[simp] theorem failAct_slot (s : State) (i : PathIx) (k : Slot) : (failAct i s).slot k = s.slot k := by
  unfold failAct; dsimp only; split <;> simp [startHoldover]
@[simp] theorem failAct_wait (s : State) (i j : PathIx) : (failAct i s).wait j = s.wait j := by
  unfold failAct; dsimp only; split <;> simp [startHoldover]
@[simp] theorem failAct_sources (s : State) (i : PathIx) : (failAct i s).sources = (penaliseSelected i s).sources := by
  unfold failAct; dsimp only; split <;> simp [startHoldover]
@[simp] theorem failAct_tuning (s : State) (i : PathIx) :
    (failAct i s).tuning = s.tuning.filter (fun e => !e.isNamed i (some .receive)) := by
  unfold failAct; dsimp only; split <;> simp [startHoldover]

theorem Acts.failAct (s : State) (i : PathIx) : Acts s (failAct i s) := by
  have h : Acts s (Machine.recordEvent i .acquireFailed (Machine.clearSource i (Machine.penaliseSelected i s))) :=
    ((penaliseSelected s i).trans (clearSource _ i)).trans (recordEvent _ i _)
  unfold Machine.failAct
  dsimp only
  split
  · exact (h.trans (startHoldover _ i)).trans (movePath _ i _)
  · exact h.trans (movePath _ i _)

/-! ### An own claim released (R107) -/

@[simp] theorem releaseClaim_path (s : State) (i j : PathIx) : (releaseClaim i s).path j = s.path j := by
  simp only [releaseClaim, pinnedUpdate, State.path]
@[simp] theorem releaseClaim_wait (s : State) (i j : PathIx) : (releaseClaim i s).wait j = s.wait j := by
  simp only [releaseClaim, pinnedUpdate, State.wait]
@[simp] theorem releaseClaim_gov (s : State) (i : PathIx) : (releaseClaim i s).gov = s.gov := by
  simp only [releaseClaim, pinnedUpdate]
@[simp] theorem releaseClaim_tuning (s : State) (i : PathIx) : (releaseClaim i s).tuning = s.tuning := by
  simp only [releaseClaim, pinnedUpdate]
@[simp] theorem releaseClaim_sources (s : State) (i : PathIx) : (releaseClaim i s).sources = s.sources := by
  simp only [releaseClaim, pinnedUpdate]
theorem releaseClaim_slot (s : State) (i : PathIx) (k : Slot) :
    (releaseClaim i s).slot k = if (s.slot k).ownPath = some i then (s.slot k).cleared else s.slot k := by
  simp [releaseClaim, pinnedUpdate, State.slot]
  rfl

/-! ### A source lost in a watched state (R120) -/

/-- The record of a path whose source is lost, before its state changes (R119). -/
def PathRec.lost (p : PathRec) : PathRec := { p.sourceCleared with event := some .sourceLost }

/-- The state in which a lost source leaves a path that watched it (R120). -/
def lostState (st : PathState) : PathState := if st = .on then .holdover else .seeking

theorem loseSource_path_self {s : State} {i : PathIx} (hst : watching (s.path i).state = true) :
    (loseSource i s).path i =
      { (s.path i).lost with
        state := lostState (s.path i).state
        holdoverDeadline := if (s.path i).state = .on then some (laterS s.now s.params.holdover)
          else (s.path i).holdoverDeadline
        output := if (s.path i).state = .claiming then none else (s.path i).output
        txPending := if (s.path i).state = .claiming then false else (s.path i).txPending
        cond := condOf s.gov.site { s.path i with state := lostState (s.path i).state } } := by
  unfold loseSource
  dsimp only
  cases hs : (s.path i).state <;> simp [hs, watching] at hst <;> dsimp only
  case waitSlot =>
    rw [movePath_path_of_ne_on (by simp [PathRec.sourceCleared, hs])]
    simp [PathRec.lost, PathRec.sourceCleared, lostState, condOf]
  case claiming =>
    rw [movePath_path_of_ne_on (by simp [dropOutput_path_self, PathRec.sourceCleared, hs])]
    simp [PathRec.lost, PathRec.sourceCleared, lostState, condOf, dropOutput_path_self]
  case on => simp [movePath_path_self, PathRec.lost, PathRec.sourceCleared, lostState, condOf]

theorem loseSource_path_ne (s : State) {i j : PathIx} (h : j ≠ i) : (loseSource i s).path j = s.path j := by
  unfold loseSource
  dsimp only
  cases (s.path i).state <;> dsimp only <;>
    simp [movePath_path_ne _ _ h, dropOutput_path_ne _ h, State.path_modPath_ne _ _ _ h, recordEvent_path_ne _ _ h,
      clearSource_path_ne _ h]

theorem loseSource_slot (s : State) (i : PathIx) (k : Slot) : (loseSource i s).slot k =
    if (s.path i).state = .claiming ∧ (s.slot k).ownPath = some i then (s.slot k).cleared else s.slot k := by
  unfold loseSource
  dsimp only
  cases hs : (s.path i).state <;> dsimp only <;> simp [releaseClaim_slot]
  rfl

@[simp] theorem loseSource_wait (s : State) (i j : PathIx) : (loseSource i s).wait j = s.wait j := by
  unfold loseSource
  dsimp only
  cases (s.path i).state <;> dsimp only <;> simp

@[simp] theorem loseSource_sources (s : State) (i : PathIx) : (loseSource i s).sources = s.sources := by
  unfold loseSource
  dsimp only
  cases (s.path i).state <;> dsimp only <;> simp

/-- A source lost takes a path one of two ways, by its state (R119). -/
theorem sourceLost_cases (s : State) (i : PathIx) :
    sourceLost i s = s ∨
    ((s.path i).selected ≠ none ∧ acquiring (s.path i).state = true ∧
      sourceLost i s = settleNotices s (failAct i s)) ∨
    ((s.path i).selected ≠ none ∧ watching (s.path i).state = true ∧
      sourceLost i s = settleNotices s (loseSource i s)) := by
  unfold sourceLost
  by_cases hsel : (s.path i).selected = none
  · simp [hsel]
  · cases ha : acquiring (s.path i).state
    · cases hw : watching (s.path i).state <;> simp [hsel, settleNotices]
    · simp [hsel, acquireFail_eq]

/-! ### A holdover expired (R124) -/

/-- The state in which an expired holdover leaves a path (R124). -/
def expiredState (st : PathState) : PathState := if st = .switching then .acquiring else .seeking

theorem expireHoldover_path_self {s : State} {i : PathIx} (hst : (s.path i).state ≠ .on) :
    (expireHoldover i s).path i =
      { s.path i with
        state := expiredState (s.path i).state, event := some .holdoverExpired, holdoverDeadline := none
        output := none, txPending := false
        cond := condOf s.gov.site { s.path i with state := expiredState (s.path i).state } } := by
  unfold expireHoldover
  dsimp only
  rw [movePath_path_of_ne_on (by simp [dropOutput_path_self, hst])]
  simp [dropOutput_path_self, condOf, expiredState]

theorem expireHoldover_path_ne (s : State) {i j : PathIx} (h : j ≠ i) : (expireHoldover i s).path j = s.path j := by
  simp [expireHoldover, movePath_path_ne _ _ h, recordEvent_path_ne _ _ h, dropOutput_path_ne _ h,
    State.path_modPath_ne _ _ _ h]

theorem expireHoldover_slot (s : State) (i : PathIx) (k : Slot) : (expireHoldover i s).slot k =
    if (s.slot k).ownPath = some i then (s.slot k).cleared else s.slot k := by
  simp [expireHoldover, releaseClaim_slot]
  rfl

@[simp] theorem expireHoldover_wait (s : State) (i j : PathIx) : (expireHoldover i s).wait j = s.wait j := by
  simp [expireHoldover]
@[simp] theorem expireHoldover_sources (s : State) (i : PathIx) : (expireHoldover i s).sources = s.sources := by
  simp [expireHoldover]
theorem expireHoldover_tuning (s : State) (i : PathIx) :
    (expireHoldover i s).tuning = s.tuning.filter (fun e => !e.isNamed i (some .transmit)) := by
  simp [expireHoldover, dropOutput_tuning]

/-! ### An acquisition that ends as acquired (R117) -/

/-- An acquisition's end before a choose-and-claim request. -/
def acquireAct (i : PathIx) (s : State) : State :=
  if (s.path i).state == .switching then
    movePath i .on (recordEvent i .switched
      ((s.modPath i (acquiredRecord s.now)).modPath i (fun p => { p with holdoverDeadline := none })))
  else movePath i .waitSlot (recordEvent i .acquired (s.modPath i (acquiredRecord s.now)))

theorem acquire_eq (i : PathIx) (s : State) :
    acquire i s = if (s.path i).state = .switching then acquireAct i s else chooseAndClaim i (acquireAct i s) := by
  unfold acquire acquireAct
  by_cases h : (s.path i).state = .switching <;> simp [h]

theorem acquireAct_path_self {s : State} {i : PathIx} (hst : (s.path i).state ≠ .on) : (acquireAct i s).path i =
    { acquiredRecord s.now (s.path i) with
      state := if (s.path i).state = .switching then .on else .waitSlot
      event := some (if (s.path i).state = .switching then .switched else .acquired)
      holdoverDeadline := if (s.path i).state = .switching then none else (s.path i).holdoverDeadline
      cond := condOf s.gov.site
        { s.path i with state := if (s.path i).state = .switching then .on else .waitSlot } } := by
  unfold acquireAct
  by_cases h : (s.path i).state = .switching
  · rw [if_pos (by simp [h]), movePath_path_of_ne_on (by simp [acquiredRecord, hst])]
    simp [h, acquiredRecord, condOf]
  · rw [if_neg (by simp [h]), movePath_path_of_ne_on (by simp [acquiredRecord, hst])]
    simp [h, acquiredRecord, condOf]

theorem acquireAct_path_ne (s : State) {i j : PathIx} (h : j ≠ i) : (acquireAct i s).path j = s.path j := by
  unfold acquireAct
  split <;> simp [movePath_path_ne _ _ h, recordEvent_path_ne _ _ h, State.path_modPath_ne _ _ _ h]

@[simp] theorem acquireAct_slot (s : State) (i : PathIx) (k : Slot) : (acquireAct i s).slot k = s.slot k := by
  unfold acquireAct; split <;> simp
@[simp] theorem acquireAct_wait (s : State) (i j : PathIx) : (acquireAct i s).wait j = s.wait j := by
  unfold acquireAct; split <;> simp
@[simp] theorem acquireAct_sources (s : State) (i : PathIx) : (acquireAct i s).sources = s.sources := by
  unfold acquireAct; split <;> simp

theorem Acts.acquireAct (s : State) (i : PathIx) : Acts s (acquireAct i s) := by
  unfold Machine.acquireAct
  split
  · exact (((modPath s i _).trans (modPath _ i _)).trans (recordEvent _ i _)).trans (movePath _ i _)
  · exact ((modPath s i _).trans (recordEvent _ i _)).trans (movePath _ i _)

end Sys2Proof.Machine
end
section
/-! PROOFS. What the requests of the marked paths do (Served): a slot free of claims may be taken by a path that waits, and all
else stands. A path that asked and waits on found no slot eligible (R95, R103, R121). -/

namespace Sys2Proof.Machine

open Sys2Proof

/-! ### Eligibility (R94) -/

theorem guarded_eq_false_iff (s : State) (k : Slot) : guarded s k = false ↔
    ∀ (i : PathIx) (r : Slot), (s.path i).rxSlot = some r → withinGuard s.params.guardDistance r k = false := by
  simp only [guarded, List.any_eq_false, mem_indices, forall_const]
  refine forall_congr' fun i => ?_
  cases (s.path i).rxSlot <;> simp

theorem guarded_congr {s t : State} (hrx : ∀ i : PathIx, (t.path i).rxSlot = (s.path i).rxSlot)
    (hp : t.params = s.params) (k : Slot) : guarded t k = guarded s k := by
  simp only [guarded, hrx, hp]

theorem mayTransmit_iff (a : SlotAttr) : mayTransmit a = true ↔ a = .transmit ∨ a = .both := by
  simp [mayTransmit]

theorem eligible_iff (s : State) (k : Slot) : eligible s k = true ↔
    mayTransmit (s.slot k).attr = true ∧ (s.slot k).own = .none ∧ (s.slot k).peers = [] ∧ guarded s k = false := by
  simp [eligible, and_assoc]

theorem pinnedEligible_iff (s : State) (k : Slot) : pinnedEligible s k = true ↔
    mayTransmit (s.slot k).attr = true ∧ (s.slot k).own = .none ∧ (∀ p ∈ (s.slot k).peers, p.pinned = false) ∧
      guarded s k = false := by
  simp [pinnedEligible, and_assoc]

theorem anyEligible_eq_false_iff (s : State) : anyEligible s = false ↔ ∀ k : Slot, eligible s k = false := by
  simp [anyEligible, mem_indices]

theorem holdsSlot_eq_false_iff (s : State) (i : PathIx) :
    holdsSlot s i = false ↔ ∀ k : Slot, (s.slot k).ownPath ≠ some i := by
  simp [holdsSlot, mem_indices]

/-- The slot of a request is an eligible one, with none nearer and none as near below it (R95). -/
theorem foldl_nearerSlot (preferred : Slot) (ks : List Slot) (hs : ks.Pairwise (· < ·)) (best : Option Slot)
    (hbest : ∀ b, best = some b → ∀ k ∈ ks, b < k) :
    (ks.foldl (nearerSlot preferred) best = none ↔ best = none ∧ ks = []) ∧
    ∀ k, ks.foldl (nearerSlot preferred) best = some k → (best = some k ∨ k ∈ ks) ∧
      ∀ j, (best = some j ∨ j ∈ ks) → slotDistance k preferred < slotDistance j preferred ∨
        (slotDistance k preferred = slotDistance j preferred ∧ k ≤ j) := by
  induction ks generalizing best with
  | nil => simp +contextual
  | cons a ks ih =>
    obtain ⟨ha, hks⟩ := List.pairwise_cons.mp hs
    have hnext (b) (hb : nearerSlot preferred best a = some b) : ∀ k ∈ ks, b < k := by
      intro k hk
      unfold nearerSlot at hb
      cases best with
      | none => cases hb; exact ha k hk
      | some b₀ =>
        dsimp only at hb
        split at hb <;> cases hb
        · exact ha k hk
        · exact hbest _ rfl k (List.mem_cons_of_mem _ hk)
    obtain ⟨hnone, hsome⟩ := ih hks (nearerSlot preferred best a) hnext
    rw [List.foldl_cons]
    refine ⟨?_, fun k hk => ?_⟩
    · rw [hnone]
      unfold nearerSlot
      cases best with
      | none => simp
      | some b => dsimp only; split <;> simp
    · obtain ⟨hmem, hleast⟩ := hsome k hk
      cases best with
      | none =>
        simp only [nearerSlot, Option.some.injEq] at hmem hleast
        refine ⟨.inr (List.mem_cons.mpr (hmem.imp Eq.symm id)), fun j hj => ?_⟩
        rcases hj with hj | hj
        · cases hj
        · exact hleast j ((List.mem_cons.mp hj).imp Eq.symm id)
      | some b =>
        have hba := hbest b rfl a List.mem_cons_self
        by_cases hd : slotDistance a preferred < slotDistance b preferred
        · simp only [nearerSlot, hd, if_true, Option.some.injEq] at hmem hleast
          refine ⟨.inr (List.mem_cons.mpr (hmem.imp Eq.symm id)), fun j hj => ?_⟩
          rcases hj with hj | hj
          · cases hj
            exact .inl (by have := hleast a (.inl rfl); omega)
          · exact hleast j ((List.mem_cons.mp hj).imp Eq.symm id)
        · simp only [nearerSlot, hd, if_false, Option.some.injEq] at hmem hleast
          refine ⟨hmem.imp (congrArg some) (List.mem_cons_of_mem _), fun j hj => ?_⟩
          rcases hj with hj | hj
          · exact hleast j (.inl (Option.some.inj hj))
          · rcases List.mem_cons.mp hj with rfl | hj
            · rcases hleast b (.inl rfl) with h | ⟨h, h'⟩
              · exact .inl (by omega)
              · rcases Nat.lt_or_ge (slotDistance b preferred) (slotDistance j preferred) with hlt | hge
                · exact .inl (by omega)
                · exact .inr ⟨by omega, h'.trans hba.le⟩
            · exact hleast j (.inr hj)

theorem indices_pairwise (n : Nat) : (indices n).Pairwise (· < ·) := by
  induction n with
  | zero => exact List.Pairwise.nil
  | succ n ih =>
    refine List.pairwise_cons.mpr ⟨fun k hk => ?_, List.pairwise_map.mpr (ih.imp fun h => Fin.succ_lt_succ_iff.mpr h)⟩
    obtain ⟨j, -, rfl⟩ := List.mem_map.mp hk
    exact Fin.succ_pos j

theorem mem_eligibleSlots (s : State) (k : Slot) : k ∈ (indices 64).filter (eligible s) ↔ eligible s k = true := by
  simp [mem_indices]

theorem nearestEligible_spec {s : State} {preferred k : Slot} (h : nearestEligible s preferred = some k) :
    eligible s k = true ∧ ∀ j : Slot, eligible s j = true → slotDistance k preferred < slotDistance j preferred ∨
      (slotDistance k preferred = slotDistance j preferred ∧ k ≤ j) := by
  have hfold := (foldl_nearerSlot preferred _ ((indices_pairwise 64).filter (eligible s)) none (by simp)).2 k h
  simp only [reduceCtorEq, false_or, mem_eligibleSlots] at hfold
  exact hfold

theorem nearestEligible_eq_none_iff (s : State) (preferred : Slot) :
    nearestEligible s preferred = none ↔ ∀ j : Slot, eligible s j = false := by
  have hfold := (foldl_nearerSlot preferred _ ((indices_pairwise 64).filter (eligible s)) none (by simp)).1
  rw [nearestEligible, hfold]
  simp [List.filter_eq_nil_iff, mem_indices]

/-! ### Claims taken by waiting paths -/

/-- From s to t path i, which waited, has taken slot k, which no own claim, no mark of the band plan and no guard forbade:
as an INTENT on a slot without peers (R96), or as its pinned claim (R99). -/
structure Claimed (s t : State) (i : PathIx) (k : Slot) : Prop where
  waited : (s.path i).state = .waitSlot
  permitted : s.claimingPermitted = true
  free : (s.slot k).own = .none
  allowed : mayTransmit (s.slot k).attr = true
  unguarded : guarded s k = false
  taken : ((s.slot k).peers = [] ∧ t.slot k = (s.slot k).intended i (laterS s.now s.params.claimHoldOff) ∧
      t.path i = (s.path i).claiming s.gov.site k) ∨
    ((∀ p ∈ (s.slot k).peers, p.pinned = false) ∧ (s.carryOf i).pinned = true ∧ k = (s.carryOf i).preferred ∧
      t.slot k = (s.slot k).pinnedFor i ∧ t.path i = (s.path i).pinnedOn s.gov.site k)

namespace Claimed

variable {s t : State} {i : PathIx} {k : Slot}

theorem own_ne_none (h : Claimed s t i k) : (t.slot k).own ≠ .none := by
  obtain ⟨-, hk, -⟩ | ⟨-, -, -, hk, -⟩ := h.taken <;> rw [hk] <;> simp [SlotEntry.intended, SlotEntry.pinnedFor]

theorem ownPath_eq (h : Claimed s t i k) : (t.slot k).ownPath = some i := by
  obtain ⟨-, hk, -⟩ | ⟨-, -, -, hk, -⟩ := h.taken <;> rw [hk] <;> rfl

theorem output_eq (h : Claimed s t i k) : (t.path i).output = some k := by
  obtain ⟨-, -, hi⟩ | ⟨-, -, -, -, hi⟩ := h.taken <;> rw [hi] <;> rfl

theorem state_cases (h : Claimed s t i k) : (t.path i).state = .claiming ∨ (t.path i).state = .on := by
  obtain ⟨-, -, hi⟩ | ⟨-, -, -, -, hi⟩ := h.taken <;> rw [hi] <;> simp [PathRec.claiming, PathRec.pinnedOn]

theorem state_ne_waitSlot (h : Claimed s t i k) : (t.path i).state ≠ .waitSlot := by
  rcases h.state_cases with h | h <;> rw [h] <;> decide

/-- A claim leaves what the receive side of the path's record holds. -/
theorem record_keeps (h : Claimed s t i k) :
    (t.path i).rxSlot = (s.path i).rxSlot ∧ (t.path i).selected = (s.path i).selected ∧
      (t.path i).lastSourceFrame = (s.path i).lastSourceFrame := by
  obtain ⟨-, -, hi⟩ | ⟨-, -, -, -, hi⟩ := h.taken <;> rw [hi] <;> exact ⟨rfl, rfl, rfl⟩

theorem cond_eq (h : Claimed s t i k) : (t.path i).cond = condOf s.gov.site (t.path i) := by
  obtain ⟨-, -, hi⟩ | ⟨-, -, -, -, hi⟩ := h.taken <;> rw [hi] <;> exact condOf_congr rfl rfl rfl

end Claimed

/-- From s to t nothing but claims of waiting paths has been taken. -/
structure Served (s t : State) : Prop where
  acts : Acts s t
  sources : t.sources = s.sources
  slot : ∀ k, t.slot k = s.slot k ∨ ∃ i, Claimed s t i k
  path : ∀ i, t.path i = s.path i ∨ ∃ k, Claimed s t i k

namespace Served

variable {s t u : State}

theorem refl (s : State) : Served s s := ⟨.refl s, rfl, fun _ => .inl rfl, fun _ => .inl rfl⟩

theorem rxSlot_eq (h : Served s t) (i : PathIx) : (t.path i).rxSlot = (s.path i).rxSlot := by
  obtain hi | ⟨k, hk⟩ := h.path i
  · rw [hi]
  · exact hk.record_keeps.1

theorem selected_eq (h : Served s t) (i : PathIx) : (t.path i).selected = (s.path i).selected := by
  obtain hi | ⟨k, hk⟩ := h.path i
  · rw [hi]
  · exact hk.record_keeps.2.1

theorem guarded_eq (h : Served s t) (k : Slot) : guarded t k = guarded s k :=
  guarded_congr h.rxSlot_eq h.acts.frame.params_eq k

/-- A path that does not wait stands. -/
theorem path_eq (h : Served s t) {i : PathIx} (hi : (s.path i).state ≠ .waitSlot) : t.path i = s.path i :=
  (h.path i).resolve_right fun ⟨_, hk⟩ => hi hk.waited

/-- A path that waits on stands. -/
theorem path_eq_of_waits (h : Served s t) {i : PathIx} (hi : (t.path i).state = .waitSlot) : t.path i = s.path i :=
  (h.path i).resolve_right fun ⟨_, hk⟩ => hk.state_ne_waitSlot hi

/-- A slot with an own claim stands. -/
theorem slot_eq (h : Served s t) {k : Slot} (hk : (s.slot k).own ≠ .none) : t.slot k = s.slot k :=
  (h.slot k).resolve_right fun ⟨_, hc⟩ => hk hc.free

theorem slot_eq_of_free (h : Served s t) {k : Slot} (hk : (t.slot k).own = .none) : t.slot k = s.slot k :=
  (h.slot k).resolve_right fun ⟨_, hc⟩ => hc.own_ne_none hk

/-- Claims make no slot eligible. -/
theorem eligible_of (h : Served s t) {k : Slot} (hk : eligible t k = true) : eligible s k = true := by
  obtain ⟨hattr, hown, hpeers, hguard⟩ := (eligible_iff t k).mp hk
  have hslot := h.slot_eq_of_free hown
  rw [hslot] at hattr hown hpeers
  rw [h.guarded_eq] at hguard
  exact (eligible_iff s k).mpr ⟨hattr, hown, hpeers, hguard⟩

theorem anyEligible_of (h : Served s t) (hs : anyEligible s = false) : anyEligible t = false := by
  rw [anyEligible_eq_false_iff] at *
  exact fun k => Bool.eq_false_iff.mpr fun hk => Bool.eq_false_iff.mp (hs k) (h.eligible_of hk)

/-- A path without a slot gets none by the claims of others: one that waits on still has none. -/
theorem holdsSlot_eq_false (h : Served s t) {i : PathIx} (hs : holdsSlot s i = false)
    (hi : (t.path i).state = .waitSlot) : holdsSlot t i = false := by
  rw [holdsSlot_eq_false_iff] at *
  intro k hk
  obtain hslot | ⟨j, hj⟩ := h.slot k
  · exact hs k (hslot ▸ hk)
  · rw [hj.ownPath_eq] at hk
    cases hk
    exact hj.state_ne_waitSlot hi

theorem trans (h : Served s t) (g : Served t u) : Served s u := by
  have frame := h.acts.frame
  have lift {i k} (hc : Claimed t u i k) : Claimed s u i k := by
    have hpath := h.path_eq_of_waits hc.waited
    have hslot := h.slot_eq_of_free hc.free
    have ⟨hw, hp, hf, ha, hg, ht⟩ := hc
    have hcarry : t.carryOf i = s.carryOf i := by simp only [State.carryOf, frame.carry_eq]
    rw [hpath, hslot, frame.gov_eq, frame.now_eq, frame.params_eq, hcarry] at ht
    rw [h.guarded_eq] at hg
    rw [hpath] at hw
    rw [hslot] at hf ha
    exact ⟨hw, frame.permitted_eq ▸ hp, hf, ha, hg, ht⟩
  have keep {i k} (hc : Claimed s t i k) : Claimed s u i k := by
    have hpath := g.path_eq hc.state_ne_waitSlot
    have hslot := g.slot_eq hc.own_ne_none
    have ⟨hw, hp, hf, ha, hg, ht⟩ := hc
    rw [← hpath, ← hslot] at ht
    exact ⟨hw, hp, hf, ha, hg, ht⟩
  refine ⟨h.acts.trans g.acts, g.sources.trans h.sources, fun k => ?_, fun i => ?_⟩
  · obtain hk | ⟨i, hi⟩ := g.slot k
    · rw [hk]
      exact (h.slot k).imp_right fun ⟨i, hi⟩ => ⟨i, keep hi⟩
    · exact .inr ⟨i, lift hi⟩
  · obtain hi | ⟨k, hk⟩ := g.path i
    · rw [hi]
      exact (h.path i).imp_right fun ⟨k, hk⟩ => ⟨k, keep hk⟩
    · exact .inr ⟨k, lift hk⟩

end Served

theorem refuseClaim_served (s : State) (i : PathIx) : Served s (refuseClaim i s) :=
  ⟨.modWait s i _, rfl, fun _ => .inl rfl, fun _ => .inl rfl⟩

/-- A choose-and-claim request of a waiting path takes a claim or none. -/
theorem chooseAndClaim_served {s : State} {i : PathIx} (hw : (s.path i).state = .waitSlot) :
    Served s (chooseAndClaim i s) := by
  obtain h | ⟨hp, -, hpin, hel, h⟩ | ⟨hp, -, k, hk, h⟩ := chooseAndClaim_cases s i
  · rw [h]; exact refuseClaim_served s i
  · have hacts := Acts.chooseAndClaim s i
    rw [h] at hacts ⊢
    obtain ⟨hattr, hown, hpeers, hguard⟩ := (pinnedEligible_iff s _).mp hel
    have hc : Claimed s (takePinned i (s.carryOf i).preferred s) i (s.carryOf i).preferred :=
      ⟨hw, hp, hown, hattr, hguard, .inr ⟨hpeers, hpin, rfl, takePinned_slot_self s i _, takePinned_path_self _⟩⟩
    refine ⟨hacts, takePinned_sources s i _, fun j => ?_, fun j => ?_⟩
    · rcases eq_or_ne j (s.carryOf i).preferred with rfl | hne
      · exact .inr ⟨i, hc⟩
      · exact .inl (takePinned_slot_ne s i hne)
    · rcases eq_or_ne j i with rfl | hne
      · exact .inr ⟨_, hc⟩
      · exact .inl (takePinned_path_ne s _ hne)
  · have hacts := Acts.chooseAndClaim s i
    rw [h] at hacts ⊢
    obtain ⟨hattr, hown, hpeers, hguard⟩ := (eligible_iff s _).mp (nearestEligible_spec hk).1
    have hc : Claimed s (takeIntent i k s) i k :=
      ⟨hw, hp, hown, hattr, hguard,
        .inl ⟨hpeers, takeIntent_slot_self s i k, takeIntent_path_self (by rw [hw]; decide) k⟩⟩
    refine ⟨hacts, takeIntent_sources s i _, fun j => ?_, fun j => ?_⟩
    · rcases eq_or_ne j k with rfl | hne
      · exact .inr ⟨i, hc⟩
      · exact .inl (takeIntent_slot_ne s i hne)
    · rcases eq_or_ne j i with rfl | hne
      · exact .inr ⟨_, hc⟩
      · exact .inl (takeIntent_path_ne s _ hne)

/-- A request clears its path's mark and leaves those of the others. -/
theorem chooseAndClaim_freed_self (s : State) (i : PathIx) : ((chooseAndClaim i s).wait i).freed = false := by
  obtain h | ⟨-, -, -, -, h⟩ | ⟨-, -, k, -, h⟩ := chooseAndClaim_cases s i <;> rw [h]
  · simp [refuseClaim]
  · rw [takePinned_wait_self]
  · rw [takeIntent_wait_self]

theorem chooseAndClaim_wait_ne (s : State) {i j : PathIx} (h : j ≠ i) : (chooseAndClaim i s).wait j = s.wait j := by
  obtain hc | ⟨-, -, -, -, hc⟩ | ⟨-, -, k, -, hc⟩ := chooseAndClaim_cases s i <;> rw [hc]
  · exact State.wait_modWait_ne _ _ _ h
  · exact takePinned_wait_ne _ _ h
  · exact takeIntent_wait_ne _ _ h

/-- A path that asked, may claim, has no slot and waits on found none eligible (R95). -/
theorem anyEligible_of_chooseAndClaim {s : State} {i : PathIx} (hp : s.claimingPermitted = true)
    (hh : holdsSlot s i = false) (hw : ((chooseAndClaim i s).path i).state = .waitSlot) : anyEligible s = false := by
  unfold chooseAndClaim at hw
  simp only [hp, hh, Bool.not_true, Bool.false_eq_true, if_false] at hw
  split at hw
  · rw [takePinned_path_self] at hw; cases hw
  · split at hw
    · rename_i k hk
      have hstate : ((takeIntent i k s).path i).state = .claiming := by simp [takeIntent, movePath_path_self]
      rw [hstate] at hw; cases hw
    · rename_i hnone
      exact (anyEligible_eq_false_iff s).mpr ((nearestEligible_eq_none_iff s _).mp hnone)

/-! ### The requests of the marked paths (R121) -/

/-- One turn of the requests. -/
def serveOne (i : PathIx) (t : State) : State :=
  if (t.wait i).freed && ((t.path i).state == .waitSlot) then chooseAndClaim i t else t

theorem serveOne_served (s : State) (i : PathIx) : Served s (serveOne i s) := by
  unfold serveOne
  split
  · rename_i h
    exact chooseAndClaim_served (by simpa using (Bool.and_eq_true_iff.mp h).2)
  · exact .refl s

theorem serveOne_wait_ne (s : State) {i j : PathIx} (h : j ≠ i) : (serveOne i s).wait j = s.wait j := by
  unfold serveOne
  split
  · exact chooseAndClaim_wait_ne s h
  · rfl

theorem serveMarks_served (s : State) : Served s (serveMarks s) :=
  forPaths_keeps (P := Served s) (fun i t ht => ht.trans (serveOne_served t i)) (Served.refl s)

/-- Marks stand on paths that wait, as a freed notice sets them (R103). -/
abbrev MarksWait (s : State) : Prop := ∀ i : PathIx, (s.wait i).freed = true → (s.path i).state = .waitSlot

theorem serveOne_path_ne {s : State} {i j : PathIx} (h : j ≠ i) : (serveOne i s).path j = s.path j := by
  unfold serveOne
  split
  · obtain hc | ⟨-, -, -, -, hc⟩ | ⟨-, -, k, -, hc⟩ := chooseAndClaim_cases s i <;> rw [hc]
    · rfl
    · exact takePinned_path_ne s _ h
    · exact takeIntent_path_ne s _ h
  · rfl

theorem serveOne_marksWait {s : State} (hs : MarksWait s) (i : PathIx) : MarksWait (serveOne i s) := by
  intro j hj
  rcases eq_or_ne j i with rfl | hne
  · by_cases h : ((s.wait j).freed && ((s.path j).state == .waitSlot)) = true
    · rw [serveOne, if_pos h, chooseAndClaim_freed_self] at hj
      cases hj
    · rw [serveOne, if_neg h] at hj ⊢
      exact hs j hj
  · rw [serveOne_wait_ne s hne] at hj
    rw [serveOne_path_ne hne]
    exact hs j hj

/-- Once every mark that stands on a waiting path is served, none is left (R121). -/
theorem marksServed_serveMarks {s : State} (hs : MarksWait s) : MarksServed (serveMarks s) := by
  intro i
  have hwait : MarksWait (serveMarks s) := forPaths_keeps (P := MarksWait) (fun i t ht => serveOne_marksWait ht i) hs
  have hserved : (((serveMarks s).wait i).freed && (((serveMarks s).path i).state == .waitSlot)) = false := by
    refine forPaths_pointwise (fun t j => (t.wait j).freed && ((t.path j).state == .waitSlot)) serveOne
      (fun _ _ => false) (fun j t => ?_) (fun j k t hk => ?_) s i
    · by_cases h : ((t.wait j).freed && ((t.path j).state == .waitSlot)) = true
      · rw [serveOne, if_pos h, chooseAndClaim_freed_self, Bool.false_and]
      · rw [serveOne, if_neg h]
        exact Bool.eq_false_iff.mpr h
    · rw [serveOne_wait_ne t hk, serveOne_path_ne hk]
  by_contra h
  have hfreed : ((serveMarks s).wait i).freed = true := by simpa using h
  simp [hfreed, hwait i hfreed] at hserved

/-- Without a mark no request is made. -/
theorem serveMarks_of_served {s : State} (h : MarksServed s) : serveMarks s = s :=
  forPaths_keeps (P := fun t => t = s) (fun i t ht => by rw [ht, if_neg (by simp [h i])]) rfl

/-- With one mark, on a path that waits, its request is all that is made. -/
theorem serveMarks_of_one {s : State} {i : PathIx} (hi : (s.wait i).freed = true)
    (hw : (s.path i).state = .waitSlot) (hother : ∀ j, j ≠ i → (s.wait j).freed = false) :
    serveMarks s = chooseAndClaim i s := by
  have hdone : ∀ l : List PathIx, i ∉ l → ∀ t : State, (∀ j, j ≠ i → (t.wait j).freed = false) →
      l.foldl (fun t j => serveOne j t) t = t := by
    intro l
    induction l with
    | nil => exact fun _ t _ => rfl
    | cons a l ih =>
      intro hl t ht
      obtain ⟨ha, hl⟩ : i ≠ a ∧ i ∉ l := by simpa using hl
      have hone : serveOne a t = t := by rw [serveOne, if_neg (by simp [ht a (Ne.symm ha)])]
      rw [List.foldl_cons, hone, ih hl t ht]
  have hall : ∀ l : List PathIx, l.Nodup → i ∈ l →
      l.foldl (fun t j => serveOne j t) s = chooseAndClaim i s := by
    intro l
    induction l with
    | nil => exact fun _ h => absurd h (by simp)
    | cons a l ih =>
      intro hnd hmem
      obtain ⟨ha, hl⟩ := List.nodup_cons.mp hnd
      rw [List.foldl_cons]
      rcases eq_or_ne a i with rfl | hne
      · have hone : serveOne a s = chooseAndClaim a s := by rw [serveOne, if_pos (by simp [hi, hw])]
        rw [hone]
        exact hdone l ha _ fun j hj => by rw [chooseAndClaim_wait_ne s hj, hother j hj]
      · have hone : serveOne a s = s := by rw [serveOne, if_neg (by simp [hother a hne])]
        rw [hone]
        exact ih hl ((List.mem_cons.mp hmem).resolve_left (Ne.symm hne))
  exact hall _ (indices_nodup 12) (mem_indices i)

/-- A marked path that may claim, has no slot and waits on behind the requests found no slot eligible (R95, R121). -/
theorem anyEligible_of_serveMarks {s : State} {i : PathIx} (hp : s.claimingPermitted = true)
    (hfreed : (s.wait i).freed = true) (hh : holdsSlot s i = false)
    (hw : ((serveMarks s).path i).state = .waitSlot) : anyEligible (serveMarks s) = false := by
  have hserved : ∀ (l : List PathIx) (t : State), Served t (l.foldl (fun t j => serveOne j t) t) := by
    intro l
    induction l with
    | nil => exact Served.refl
    | cons a l ih => exact fun t => (serveOne_served t a).trans (ih _)
  have hrun : ∀ l : List PathIx, i ∈ l → ∀ t : State, t.claimingPermitted = true → (t.wait i).freed = true →
      holdsSlot t i = false → ((l.foldl (fun t j => serveOne j t) t).path i).state = .waitSlot →
      anyEligible (l.foldl (fun t j => serveOne j t) t) = false := by
    intro l
    induction l with
    | nil => exact fun h => absurd h (by simp)
    | cons a l ih =>
      intro hmem t hp hf hh hw
      rw [List.foldl_cons] at hw ⊢
      have hone := serveOne_served t a
      have hmid : ((serveOne a t).path i).state = .waitSlot := by
        rw [← (hserved l _).path_eq_of_waits hw]; exact hw
      rcases eq_or_ne i a with rfl | hne
      · have hnow : (t.path i).state = .waitSlot := by rw [← hone.path_eq_of_waits hmid]; exact hmid
        have hchoose : serveOne i t = chooseAndClaim i t := by rw [serveOne, if_pos (by simp [hf, hnow])]
        rw [hchoose] at hmid hone ⊢
        exact (hone.trans (hserved l _)).anyEligible_of (anyEligible_of_chooseAndClaim hp hh hmid)
      · exact ih ((List.mem_cons.mp hmem).resolve_left hne) _ (hone.acts.frame.permitted_eq.trans hp)
          ((congrArg PathWait.freed (serveOne_wait_ne t hne)).trans hf) (hone.holdsSlot_eq_false hh hmid) hw
  exact hrun _ (mem_indices i) s hp hfreed hh hw

/-! ### The notices of an event and the requests behind them (R103, R121) -/

theorem noticeWaiting_wait (s : State) (i : PathIx) : (noticeWaiting s).wait i =
    if (s.path i).state = .waitSlot then { s.wait i with freed := true } else s.wait i := by
  have h := forPaths_pointwise (fun t j => (t.wait j, (t.path j).state))
    (fun j t => if (t.path j).state == .waitSlot then t.modWait j (fun w => { w with freed := true }) else t)
    (fun _ x => (if x.2 = .waitSlot then { x.1 with freed := true } else x.1, x.2))
    (fun j t => by by_cases hj : (t.path j).state = .waitSlot <;> simp [hj])
    (fun j k t hk => by by_cases hj : (t.path j).state = .waitSlot <;> simp [hj, State.wait_modWait_ne _ _ _ hk]) s i
  exact (Prod.mk.inj h).1

/-- A freed notice writes marks alone. -/
theorem noticeWaiting_eq (s : State) : noticeWaiting s = { s with waits := (noticeWaiting s).waits } := by
  refine forPaths_keeps (P := fun t => t = { s with waits := t.waits }) (fun i t ht => ?_) rfl
  split
  · rw [ht]; rfl
  · exact ht

@[simp] theorem noticeWaiting_path (s : State) (i : PathIx) : (noticeWaiting s).path i = s.path i := by
  rw [noticeWaiting_eq]; simp only [State.path]
@[simp] theorem noticeWaiting_slot (s : State) (k : Slot) : (noticeWaiting s).slot k = s.slot k := by
  rw [noticeWaiting_eq]; simp only [State.slot]

theorem noticeFreed_eq (s u : State) : noticeFreed s u = { u with waits := (noticeFreed s u).waits } := by
  unfold noticeFreed
  split
  · exact noticeWaiting_eq u
  · rfl

@[simp] theorem noticeFreed_path (s u : State) (i : PathIx) : (noticeFreed s u).path i = u.path i := by
  rw [noticeFreed_eq]; simp only [State.path]
@[simp] theorem noticeFreed_slot (s u : State) (k : Slot) : (noticeFreed s u).slot k = u.slot k := by
  rw [noticeFreed_eq]; simp only [State.slot]
@[simp] theorem noticeFreed_sources (s u : State) : (noticeFreed s u).sources = u.sources := by
  rw [noticeFreed_eq]
@[simp] theorem noticeFreed_tuning (s u : State) : (noticeFreed s u).tuning = u.tuning := by
  rw [noticeFreed_eq]

theorem noticeFreed_served (s u : State) : Served u (noticeFreed s u) :=
  ⟨.noticeFreed s u, noticeFreed_sources s u, fun k => .inl (noticeFreed_slot s u k),
    fun i => .inl (noticeFreed_path s u i)⟩

theorem settleNotices_served (s u : State) : Served u (settleNotices s u) :=
  (noticeFreed_served s u).trans (serveMarks_served _)

/-- A notice marks waiting paths, so it leaves marks on waiting paths alone. -/
theorem marksWait_noticeFreed {s u : State} (hu : MarksWait u) : MarksWait (noticeFreed s u) := by
  intro i hi
  rw [noticeFreed_path]
  unfold noticeFreed at hi
  split at hi
  · rw [noticeWaiting_wait] at hi
    split at hi
    · assumption
    · exact hu i hi
  · exact hu i hi

theorem marksServed_settleNotices {s u : State} (hu : MarksWait u) : MarksServed (settleNotices s u) :=
  marksServed_serveMarks (marksWait_noticeFreed hu)

theorem newlyEligible_eq_false_iff (s u : State) :
    newlyEligible s u = false ↔ ∀ k : Slot, eligible u k = true → eligible s k = true := by
  simp [newlyEligible, mem_indices]

/-- Either no slot has become eligible, or every path that waits in u, may claim and holds no slot has asked: while one waits
on, no slot is eligible. -/
theorem settleNotices_asks {s u : State} (hp : u.claimingPermitted = true) :
    (∀ k : Slot, eligible (settleNotices s u) k = true → eligible s k = true) ∨
    ∀ i : PathIx, WaitsOn u (settleNotices s u) i → anyEligible (settleNotices s u) = false := by
  cases hn : newlyEligible s u
  · exact .inl fun k hk => (newlyEligible_eq_false_iff s u).mp hn k ((settleNotices_served s u).eligible_of hk)
  · refine .inr fun i ⟨hw, hh, hon⟩ => ?_
    have hnotice : noticeFreed s u = noticeWaiting u := by simp [noticeFreed, hp, hn]
    unfold settleNotices at hon ⊢
    rw [hnotice] at hon ⊢
    refine anyEligible_of_serveMarks (i := i) ?_ ?_ ?_ hon
    · rw [(noticeWaiting_act u).permitted_eq, hp]
    · rw [noticeWaiting_wait, if_pos hw]
    · rw [holdsSlot_eq_false_iff] at hh ⊢
      intro k
      rw [noticeWaiting_slot]
      exact hh k

/-- The requests behind an event of one path: they have been made for what it left eligible (R103, R121). -/
theorem waitersAsk_settleNotices {s u : State} (hp : u.claimingPermitted = s.claimingPermitted)
    (hu : ∀ i, WaitsOn s (settleNotices s u) i → (u.path i).state = .waitSlot ∧ holdsSlot u i = false) :
    WaitersAsk s (settleNotices s u) := by
  intro hperm i hi k hk
  obtain hsame | hask := settleNotices_asks (s := s) (u := u) (hp.trans hperm)
  · exact hsame k hk
  · have hnone := hask i ⟨(hu i hi).1, (hu i hi).2, hi.2.2⟩
    rw [(anyEligible_eq_false_iff _).mp hnone k] at hk
    cases hk

end Sys2Proof.Machine
end
section
/-! PROOFS. Records kept in the order of a key: the peer list of a slot (R90, R91) and the neighbour list (R56). -/

namespace Sys2Proof.Machine

open Sys2Proof

/-! ### A record at the place its key gives it -/

section

variable {α : Type} {r : α → α → Prop} [DecidableRel r]

/-- An insertion keeps a strictly ordered list in order when no record of it has the key of the new one. -/
theorem pairwise_orderedInsert (htrans : ∀ a b c, r a b → r b c → r a c) {e : α} {l : List α} (hl : l.Pairwise r)
    (hnew : ∀ x ∈ l, r e x ∨ r x e) : (l.orderedInsert r e).Pairwise r := by
  induction l with
  | nil => simp
  | cons x l ih =>
    obtain ⟨hx, hl'⟩ := List.pairwise_cons.mp hl
    rw [List.orderedInsert_cons]
    split
    · rename_i hex
      refine List.pairwise_cons.mpr ⟨fun y hy => ?_, hl⟩
      obtain rfl | hy := List.mem_cons.mp hy
      · exact hex
      · exact htrans _ _ _ hex (hx y hy)
    · rename_i hex
      refine List.pairwise_cons.mpr ⟨fun y hy => ?_, ih hl' fun y hy => hnew y (List.mem_cons_of_mem _ hy)⟩
      obtain rfl | hy := (List.mem_orderedInsert r).mp hy
      · exact (hnew x (by simp)).resolve_left hex
      · exact hx y hy

/-- An insertion does not show to a search that does not take the new record. -/
theorem find?_orderedInsert_of_not {e : α} {p : α → Bool} (h : p e = false) (l : List α) :
    (l.orderedInsert r e).find? p = l.find? p := by
  induction l with
  | nil => simp [h]
  | cons x l ih =>
    rw [List.orderedInsert_cons]
    split
    · simp [h]
    · rw [List.find?_cons, List.find?_cons, ih]

end

/-! ### The peer list of a slot (R90, R91) -/

/-- Two stations that differ stand in an order. -/
theorem station_total {a b : StationId} (h : a ≠ b) : a < b ∨ b < a := by
  rcases Nat.lt_or_gt_of_ne (fun he => h (BitVec.eq_of_toNat_eq he)) with h | h
  · exact .inl h
  · exact .inr h

theorem placePeer_eq (p : Peer) (ps : List Peer) :
    placePeer p ps = ps.orderedInsert (fun a b => a.station < b.station) p := by
  induction ps with
  | nil => rfl
  | cons q ps ih =>
    rw [placePeer, List.orderedInsert_cons, ih]

theorem placePeer_ordered {p : Peer} {ps : List Peer} (hps : ps.Pairwise fun a b => a.station < b.station)
    (hnew : ∀ q ∈ ps, q.station ≠ p.station) : (placePeer p ps).Pairwise fun a b => a.station < b.station := by
  rw [placePeer_eq]
  exact pairwise_orderedInsert (r := fun a b : Peer => a.station < b.station) (fun _ _ _ => BitVec.lt_trans) hps
    fun q hq => station_total (hnew q hq).symm

theorem length_placePeer (p : Peer) (ps : List Peer) : (placePeer p ps).length = ps.length + 1 := by
  rw [placePeer_eq, List.orderedInsert_length]

theorem PeersOk.insertPeer {p : Peer} {ps : List Peer} (h : PeersOk ps) (hnew : ∀ q ∈ ps, q.station ≠ p.station) :
    PeersOk (insertPeer p ps) := by
  have hplace := placePeer_ordered h.2 hnew
  unfold Machine.insertPeer
  split
  · exact ⟨by rw [length_placePeer]; assumption, hplace⟩
  · rename_i hfull
    split
    · rename_i hlast
      rw [List.getLast?_eq_none_iff.mp hlast] at hfull
      exact absurd (by decide) hfull
    · rename_i hlast
      split
      · refine ⟨?_, placePeer_ordered (h.2.sublist (List.dropLast_sublist _)) fun q hq => hnew q (List.mem_of_mem_dropLast hq)⟩
        have hne : ps ≠ [] := by rintro rfl; simp at hlast
        have hpos := List.length_pos_iff.mpr hne
        rw [length_placePeer, List.length_dropLast]
        exact (Nat.sub_add_cancel hpos).le.trans h.1
      · exact h

theorem PeersOk.writePeer {p : Peer} {ps : List Peer} (h : PeersOk ps) : PeersOk (writePeer p ps) := by
  unfold Machine.writePeer
  split
  · refine ⟨by rw [List.length_map]; exact h.1, List.pairwise_map.mpr (h.2.imp fun {a b} hab => ?_)⟩
    have hst (q : Peer) : (if (q.station == p.station) = true then p else q).station = q.station := by
      split
      · rename_i hq; exact (beq_iff_eq.mp hq).symm
      · rfl
    rw [hst, hst]
    exact hab
  · rename_i hnone
    exact h.insertPeer fun q hq he => hnone (List.any_eq_true.mpr ⟨q, hq, by simp [he]⟩)

theorem PeersOk.filter {ps : List Peer} (h : PeersOk ps) (p : Peer → Bool) : PeersOk (ps.filter p) :=
  ⟨(List.length_filter_le _ _).trans h.1, h.2.filter _⟩

theorem PeersOk.replacePeer {st : StationId} {claims : List Claim} {heard : Slot} {expiry : Time} {k : Slot} {ps : List Peer}
    (h : PeersOk ps) : PeersOk (replacePeer st claims heard expiry k ps) := by
  unfold Machine.replacePeer
  split
  · exact h.filter _
  · exact h.writePeer

end Sys2Proof.Machine
end
section
/-! PROOFS. The case split that the invariants of claims, paths and sources share: what the acts of the path controller and of
the slot claim table keep (ActsKeep), and what a property of slots, claims and selections alone (CoarseKeep) has to be
shown for, so that every command keeps it. -/

namespace Sys2Proof.Machine

open Sys2Proof

/-! ### States that agree where the invariants look -/

/-- The tables that hold no claim, no source and no neighbour: the tuning queue, the survey requests, the failure log and the
fault history. -/
structure ListsOk (s : State) : Prop where
  tuning : TuningOk s.tuning
  requests : s.survey.requests.length ≤ surveyCapacity ∧ s.survey.requests.Nodup
  failures : s.mon.failureLog.length ≤ failureCapacity
  history : HistoryOk s.gov

/-- The states agree but for tuning, sample streams, tags, survey, neighbours, visits and what no invariant reads of a path
record. -/
structure Benign (s t : State) : Prop where
  slots : t.slots = s.slots := by rfl
  waits : t.waits = s.waits := by rfl
  sources : t.sources = s.sources := by rfl
  params : t.params = s.params := by rfl
  carry : t.carry = s.carry := by rfl
  station : t.station = s.station := by rfl
  loader : t.loader = s.loader := by rfl
  gov : t.gov = s.gov := by rfl
  lines : t.lines = s.lines := by rfl
  chainFault : t.mon.chainFault = s.mon.chainFault := by rfl
  pinned : t.pinnedCollision = s.pinnedCollision := by rfl
  lists : ListsOk s → ListsOk t := by exact fun h => ⟨h.tuning, h.requests, h.failures, h.history⟩
  pending : t.pending = s.pending := by rfl
  tx : ∀ i : PathIx, (t.txSide i).inUse = (s.txSide i).inUse ∧ (t.txSide i).channel = (s.txSide i).channel := by
    exact fun _ => ⟨rfl, rfl⟩
  path : ∀ i : PathIx, (t.path i).state = (s.path i).state ∧ (t.path i).output = (s.path i).output ∧
    (t.path i).rxSlot = (s.path i).rxSlot ∧ (t.path i).selected = (s.path i).selected ∧
    (t.path i).txFaultDeadline = (s.path i).txFaultDeadline ∧ (t.path i).shed = (s.path i).shed ∧
    (t.path i).cond = (s.path i).cond := by exact fun _ => ⟨rfl, rfl, rfl, rfl, rfl, rfl, rfl⟩

/-- The states have the same slots, sources and parameters, and their path records the same state, slots and source. -/
structure SameClaims (s t : State) : Prop where
  slots : t.slots = s.slots := by rfl
  waits : t.waits = s.waits := by rfl
  sources : t.sources = s.sources := by rfl
  params : t.params = s.params := by rfl
  carry : t.carry = s.carry := by rfl
  station : t.station = s.station := by rfl
  reading : t.loader.reading = s.loader.reading := by rfl
  pinned : t.pinnedCollision = s.pinnedCollision := by rfl
  path : ∀ i : PathIx, (t.path i).state = (s.path i).state ∧ (t.path i).output = (s.path i).output ∧
    (t.path i).rxSlot = (s.path i).rxSlot ∧ (t.path i).selected = (s.path i).selected := by
      exact fun _ => ⟨rfl, rfl, rfl, rfl⟩

/-- The same, and the waiting commands, the sets in use and the channels of the transmit sides stand too. -/
structure Same (s t : State) : Prop extends SameClaims s t where
  lists : ListsOk s → ListsOk t := by exact fun h => ⟨h.tuning, h.requests, h.failures, h.history⟩
  pending : t.pending = s.pending := by rfl
  tx : ∀ i : PathIx, (t.txSide i).inUse = (s.txSide i).inUse ∧ (t.txSide i).channel = (s.txSide i).channel := by
    exact fun _ => ⟨rfl, rfl⟩

theorem Benign.same {s t : State} (h : Benign s t) : Same s t where
  lists := h.lists
  pending := h.pending
  tx := h.tx
  slots := h.slots
  waits := h.waits
  sources := h.sources
  params := h.params
  carry := h.carry
  station := h.station
  reading := congrArg Loader.reading h.loader
  pinned := h.pinned
  path i := ⟨(h.path i).1, (h.path i).2.1, (h.path i).2.2.1, (h.path i).2.2.2.1⟩

theorem Same.refl (s : State) : Same s s := {}

theorem Same.trans {s t u : State} (h : Same s t) (g : Same t u) : Same s u where
  lists hs := g.lists (h.lists hs)
  pending := g.pending.trans h.pending
  tx i := ⟨(g.tx i).1.trans (h.tx i).1, (g.tx i).2.trans (h.tx i).2⟩
  slots := g.slots.trans h.slots
  waits := g.waits.trans h.waits
  sources := g.sources.trans h.sources
  params := g.params.trans h.params
  carry := g.carry.trans h.carry
  station := g.station.trans h.station
  reading := g.reading.trans h.reading
  pinned := g.pinned.trans h.pinned
  path i := ⟨(g.path i).1.trans (h.path i).1, (g.path i).2.1.trans (h.path i).2.1,
    (g.path i).2.2.1.trans (h.path i).2.2.1, (g.path i).2.2.2.trans (h.path i).2.2.2⟩

theorem SameClaims.slot {s t : State} (h : SameClaims s t) (k : Slot) : t.slot k = s.slot k := by simp only [State.slot, h.slots]

theorem SameClaims.wait {s t : State} (h : SameClaims s t) (i : PathIx) : t.wait i = s.wait i := by simp only [State.wait, h.waits]

/-- A path record changed in what no invariant of claims reads. -/
theorem Same.modPath (s : State) (i : PathIx) {f : PathRec → PathRec}
    (hf : ∀ p : PathRec, (f p).state = p.state ∧ (f p).output = p.output ∧ (f p).rxSlot = p.rxSlot ∧
      (f p).selected = p.selected := by exact fun _ => ⟨rfl, rfl, rfl, rfl⟩) : Same s (s.modPath i f) where
  path j := by
    rcases eq_or_ne j i with rfl | hne
    · rw [State.path_modPath_self]; exact hf _
    · rw [State.path_modPath_ne _ _ _ hne]; exact ⟨rfl, rfl, rfl, rfl⟩

/-- Every path record changed so. -/
theorem Same.updPaths (s : State) {f : PathIx → PathRec → PathRec}
    (hf : ∀ (i : PathIx) (p : PathRec), (f i p).state = p.state ∧ (f i p).output = p.output ∧
      (f i p).rxSlot = p.rxSlot ∧ (f i p).selected = p.selected := by exact fun _ _ => ⟨rfl, rfl, rfl, rfl⟩) : Same s { s with paths := updAll s.paths f } where
  path i := by
    have h : State.path { s with paths := updAll s.paths f } i = f i (s.path i) := by simp [State.path]
    rw [h]; exact hf i _

theorem Same.cutVisitOf (s : State) (i : PathIx) : Same s (cutVisitOf i s) := by
  unfold Machine.cutVisitOf
  split
  · exact refl s
  · split
    · exact {}
    · exact refl s

theorem Same.keyUpdate (s : State) : Same s (keyUpdate s) := by
  unfold Machine.keyUpdate
  split
  · exact {}
  · split
    · exact {}
    · exact refl s

theorem Same.refreshPath (s : State) (i : PathIx) : Same s (refreshPath i s) := by
  unfold Machine.refreshPath
  dsimp only
  split
  · exact refl s
  · unfold turnCond
    dsimp only
    refine trans (trans (Same.modPath s i (f := fun p => { p with cond := condOf s.gov.site (s.path i) }))
      (Same.cutVisitOf _ i)) (trans ?_ (Same.keyUpdate _))
    split
    · exact {}
    · exact refl _

theorem Same.forPaths {f : PathIx → State → State} (h : ∀ i s, Same s (f i s)) (s : State) : Same s (forPaths f s) :=
  forPaths_keeps (P := Same s) (fun i t ht => ht.trans (h i t)) (refl s)

theorem Same.refreshAll (s : State) : Same s (refreshAll s) := Same.forPaths (fun i t => Same.refreshPath t i) s

/-! ### What the acts keep -/

/-- An entry's quality is what its grades and absent flag give, and its grades are at most 100 (R78). -/
abbrev Source.Graded (e : Source) : Prop :=
  e.quality = qualityOf e.levelGrade e.integrityGrade e.absent ∧ e.levelGrade ≤ 100 ∧ e.integrityGrade ≤ 100

/-- What the whole acts of the path controller, the slot claim table and the source table keep. -/
structure ActsKeep (P : State → Prop) : Prop where
  benign : ∀ {s t}, Benign s t → P s → P t
  choose : ∀ {i s}, (s.path i).state = .waitSlot → P s → P (chooseAndClaim i s)
  unwait : ∀ {i s}, P s → P (s.modWait i (fun w => { w with retryDeadline := none }))
  request : ∀ {i s}, (s.path i).state = .waitSlot → P s →
    P (serveMarks (s.modWait i (fun w => { w with freed := true })))
  peers : ∀ {c} {f : Slot → List Peer → List Peer} {s}, (∀ k ps, PeersOk ps → PeersOk (f k ps)) → P s → P (serveMarks (peerEvent c f s))
  collide : ∀ {k s}, (s.slot k).own = .held → P s →
    P (settleNotices s (pinnedUpdate (loseToPeer 0 k .slotCollision s)))
  restart : ∀ {k s}, P s → P (restartCollision k s)
  select : ∀ {i e st s}, e ∈ s.sources → sourceEligible s i e = true →
    ((s.path i).state = .seeking ∧ st = .acquiring) ∨
      (((s.path i).state = .holdover ∨ (s.path i).state = .on) ∧ st = .switching) →
    P s → P (settleNotices s (selectAct i e st s))
  fail : ∀ {i s}, acquiring (s.path i).state = true → P s → P (settleNotices s (failAct i s))
  lose : ∀ {i s}, watching (s.path i).state = true → P s → P (settleNotices s (loseSource i s))
  expire : ∀ {i s}, (s.path i).state = .holdover ∨ (s.path i).state = .switching → P s →
    P (settleNotices s (expireHoldover i s))
  acquired : ∀ {i s}, acquiring (s.path i).state = true → P s → P (acquireAct i s)
  holdOff : ∀ {k s}, (s.slot k).own = .intent → P s →
    P (pinnedUpdate (collisionTest k (claimWon k (s.modSlot k (fun e => { e with own := .held, ownDeadline := none })))))
  silent : ∀ {s}, P s → P (silentReleaseAll s)
  regrade : ∀ {g : Source → Source} {s}, (∀ e, (g e).slot = e.slot ∧ (g e).station = e.station ∧
    (g e).upstream = e.upstream ∧ (g e).depth = e.depth ∧ (e.Graded → (g e).Graded)) → P s →
    P { s with sources := s.sources.map g }
  remove : ∀ {gone s}, P s → P (removeSources gone s)
  takeFrame : ∀ {f heard noise latest s}, listening s.station = true → f.station ≠ s.params.stationId → f.depth ≤ 15 →
    P s → P (takeSourceFrame f heard noise latest s)

namespace ActsKeep

variable {P : State → Prop}

theorem sourceLost (h : ActsKeep P) (i : PathIx) {s : State} (hs : P s) : P (sourceLost i s) := by
  obtain he | ⟨-, ha, he⟩ | ⟨-, hw, he⟩ := sourceLost_cases s i <;> rw [he]
  · exact hs
  · exact h.fail ha hs
  · exact h.lose hw hs

theorem massRelease (h : ActsKeep P) (order : ReleaseOrder) (st : StationId) {s : State} (hs : P s) :
    P (massRelease order st s) := by
  cases order <;> simp only [Machine.massRelease, releaseStationSources, releaseStationClaims]
  · exact h.remove (h.peers (fun _ _ hp => hp.filter _) hs)
  · exact h.peers (fun _ _ hp => hp.filter _) (h.remove hs)

/-- A frame at the neighbour list: records, and a mass release at the most (R57). -/
theorem takeNeighbour (h : ActsKeep P) (order : ReleaseOrder) (f : Frame) (k : FramerKind) {s : State} (hs : P s) :
    P (takeNeighbour order f k s) := by
  unfold Machine.takeNeighbour
  split
  · split
    · exact h.benign {} hs
    · exact h.benign {} (h.massRelease order _ hs)
  · split
    · exact h.benign {} hs
    · unfold meetFullList
      split
      · exact h.benign {} hs
      · split
        · exact h.benign {} (h.massRelease order _ (h.benign {} hs))
        · exact h.benign {} hs

theorem takeGoodFrame (h : ActsKeep P) (i : PathIx) (st : StationId) (pr : ProgrammeId) (k : Slot) {s : State}
    (hs : P s) : P (takeGoodFrame i st pr k s) := by
  unfold Machine.takeGoodFrame
  split
  · split
    · rename_i ha
      split
      · rw [acquire_eq]
        split
        · exact h.acquired ha hs
        · rename_i hne
          have hon : (s.path i).state ≠ .on := by rintro he; simp [he, acquiring] at ha
          exact h.choose (by rw [acquireAct_path_self hon]; simp [hne]) (h.acquired ha hs)
      · exact hs
    · split
      · refine h.benign { path := fun j => ?_ } hs
        rcases eq_or_ne j i with rfl | hne
        · simp
        · rw [State.path_modPath_ne _ _ _ hne]; simp
      · exact hs
  · exact hs

end ActsKeep

theorem readFrame_depth_le (bs : List Byte) : (readFrame bs).depth ≤ 15 := by
  have h := (byteAt bs 7).isLt
  simp only [readFrame]
  omega

/-! ### What a frame does to station and parameters: nothing -/

/-- t has the station state and the parameters of s. -/
abbrev SameStation (s t : State) : Prop := t.station = s.station ∧ t.params = s.params

theorem ActFrame.sameStation {s t : State} (h : ActFrame s t) : SameStation s t := ⟨h.station_eq, h.params_eq⟩

theorem takeNeighbour_sameStation (order : ReleaseOrder) (f : Frame) (k : FramerKind) (s : State) :
    SameStation s (takeNeighbour order f k s) := by
  unfold takeNeighbour
  split
  · split
    · exact ⟨rfl, rfl⟩
    · exact (massRelease_act s order f.station).sameStation
  · split
    · exact ⟨rfl, rfl⟩
    · unfold meetFullList
      split
      · exact ⟨rfl, rfl⟩
      · split
        · exact (massRelease_act (dropNeighbour _ s) order _).sameStation
        · exact ⟨rfl, rfl⟩

namespace ActsKeep

variable {P : State → Prop}

theorem routeHeld (h : ActsKeep P) (ix : FramerIx) (c : Nat) {f : Frame} (noise : Nat) {s : State}
    (hl : listening s.station = true) (hf : f.station ≠ s.params.stationId) (hd : f.depth ≤ 15) (hs : P s) :
    P (routeHeld ix c f noise s) := by
  have hclaims := takeClaims_act s c f.station f.claims (heardBy s ix)
  have htaken : P (takeClaims c f.station f.claims (heardBy s ix) s) := by
    unfold takeClaims
    exact h.peers (fun _ _ hp => hp.replacePeer) hs
  have hsource := h.takeFrame (heard := heardBy s ix) (noise := noise)
    (latest := latestMeasurement (takeClaims c f.station f.claims (heardBy s ix) s) ix)
    (by rw [hclaims.station_eq]; exact hl) (by rw [hclaims.params_eq]; exact hf) hd htaken
  cases ix
  · exact h.takeGoodFrame _ _ _ _ hsource
  · exact hsource
  · exact hsource

theorem routeGood (h : ActsKeep P) (ix : FramerIx) (order : OutcomeOrder) (bs : List Byte) (noise : Nat) {s : State}
    (hl : listening s.station = true) (hs : P s) : P (routeGood ix order bs noise s) := by
  unfold Machine.routeGood
  dsimp only
  split
  · exact hs
  · rename_i hne
    have hroute : P (routeOther ix order (readFrame bs) noise s) := by
      unfold routeOther
      dsimp only
      obtain ⟨hstation, hparams⟩ := takeNeighbour_sameStation order.release (readFrame bs) (kindOf ix) s
      split
      · exact h.routeHeld ix _ _ (hstation ▸ hl) (hparams ▸ fun he => hne (beq_iff_eq.mpr he)) (readFrame_depth_le bs)
          (h.takeNeighbour _ _ _ hs)
      · exact h.takeNeighbour _ _ _ hs
    cases ix
    · exact hroute
    · dsimp only
      unfold dwellFrame
      split
      · exact hroute
      · split
        · exact h.benign {} hroute
        · exact hroute
    · exact hroute

theorem integrityFailure (h : ActsKeep P) (i : PathIx) {s : State} (hs : P s) : P (integrityFailure i s) := by
  unfold Machine.integrityFailure
  split
  · exact hs
  · split
    · refine h.regrade (fun e => ?_) hs
      split
      · exact ⟨rfl, rfl, rfl, rfl, fun hg => ⟨rfl, hg.2.1, (Nat.div_le_self _ _).trans hg.2.2⟩⟩
      · exact ⟨rfl, rfl, rfl, rfl, id⟩
    · exact hs

theorem neighbourSweep (h : ActsKeep P) (order : List StationId) {s : State} (hs : P s) :
    P (neighbourSweep order s) := by
  unfold Machine.neighbourSweep
  split
  · refine foldl_keeps (fun t r ht => ?_) _ hs
    unfold sweepStep
    split
    · exact h.massRelease _ _ (h.benign {} ht)
    · exact ht
  · exact hs

theorem sourceSweep (h : ActsKeep P) {s : State} (hs : P s) : P (sourceSweep s) := by
  unfold Machine.sourceSweep
  split
  · exact h.remove hs
  · exact hs

theorem peerClaimExpiry (h : ActsKeep P) {s : State} (hs : P s) : P (peerClaimExpiry s) := by
  unfold Machine.peerClaimExpiry
  exact h.peers (fun _ _ hp => hp.filter _) hs

theorem holdOffEnd (h : ActsKeep P) (k : Slot) {s : State} (hs : P s) : P (holdOffEnd k s) := by
  unfold Machine.holdOffEnd
  split
  · rename_i hc
    exact h.holdOff (by simpa using (Bool.and_eq_true_iff.mp (Bool.and_eq_true_iff.mp hc).1).1) hs
  · exact hs

theorem collisionExpiry (h : ActsKeep P) (k : Slot) {s : State} (hs : P s) : P (collisionExpiry k s) := by
  unfold Machine.collisionExpiry
  split
  · split
    · rename_i hc
      have hheld : (s.slot k).own = .held := by
        simp only [SlotEntry.inCollision, Bool.and_eq_true, beq_iff_eq] at hc
        exact hc.1.1.1
      exact h.collide hheld hs
    · exact h.restart hs
  · exact hs

theorem claimRetryDeadline (h : ActsKeep P) (i : PathIx) {s : State} (hs : P s) : P (claimRetryDeadline i s) := by
  unfold Machine.claimRetryDeadline
  split
  · dsimp only
    split
    · rename_i hc
      refine h.request ?_ (h.unwait hs)
      simpa using (Bool.and_eq_true_iff.mp (Bool.and_eq_true_iff.mp hc).1).1
    · exact h.unwait hs
  · exact hs

theorem acquireTimeout (h : ActsKeep P) (i : PathIx) {s : State} (hs : P s) : P (acquireTimeout i s) := by
  unfold Machine.acquireTimeout
  split
  · rename_i hc; exact h.fail (Bool.and_eq_true_iff.mp hc).1 hs
  · exact hs

theorem carrierCheckFail (h : ActsKeep P) (i : PathIx) {s : State} (hs : P s) : P (carrierCheckFail i s) := by
  unfold Machine.carrierCheckFail
  split
  · rename_i hc; exact h.fail (Bool.and_eq_true_iff.mp hc).1 hs
  · exact hs

theorem lowCarrierLoss (h : ActsKeep P) (i : PathIx) {s : State} (hs : P s) : P (lowCarrierLoss i s) := by
  unfold Machine.lowCarrierLoss
  split
  · exact h.sourceLost i hs
  · exact hs

theorem tagLoss (h : ActsKeep P) (i : PathIx) {s : State} (hs : P s) : P (tagLoss i s) := by
  unfold Machine.tagLoss
  split
  · exact h.sourceLost i hs
  · exact hs

theorem holdoverExpired (h : ActsKeep P) (i : PathIx) {s : State} (hs : P s) : P (holdoverExpired i s) := by
  unfold Machine.holdoverExpired
  split
  · rename_i hc
    exact h.expire (by simpa using (Bool.and_eq_true_iff.mp hc).1) hs
  · exact hs

end ActsKeep

/-! ### The evaluation -/

theorem Benign.refl (s : State) : Benign s s := {}

theorem Benign.trans {s t u : State} (h : Benign s t) (g : Benign t u) : Benign s u where
  lists hs := g.lists (h.lists hs)
  pending := g.pending.trans h.pending
  tx i := ⟨(g.tx i).1.trans (h.tx i).1, (g.tx i).2.trans (h.tx i).2⟩
  slots := g.slots.trans h.slots
  waits := g.waits.trans h.waits
  sources := g.sources.trans h.sources
  params := g.params.trans h.params
  carry := g.carry.trans h.carry
  station := g.station.trans h.station
  loader := g.loader.trans h.loader
  gov := g.gov.trans h.gov
  lines := g.lines.trans h.lines
  chainFault := g.chainFault.trans h.chainFault
  pinned := g.pinned.trans h.pinned
  path i := by
    obtain ⟨g1, g2, g3, g4, g5, g6, g7⟩ := g.path i
    obtain ⟨h1, h2, h3, h4, h5, h6, h7⟩ := h.path i
    exact ⟨g1.trans h1, g2.trans h2, g3.trans h3, g4.trans h4, g5.trans h5, g6.trans h6, g7.trans h7⟩

theorem Benign.modPath (s : State) (i : PathIx) {f : PathRec → PathRec}
    (hf : ∀ p : PathRec, (f p).state = p.state ∧ (f p).output = p.output ∧ (f p).rxSlot = p.rxSlot ∧
      (f p).selected = p.selected ∧ (f p).txFaultDeadline = p.txFaultDeadline ∧ (f p).shed = p.shed ∧
      (f p).cond = p.cond := by exact fun _ => ⟨rfl, rfl, rfl, rfl, rfl, rfl, rfl⟩) : Benign s (s.modPath i f) where
  path j := by
    rcases eq_or_ne j i with rfl | hne
    · rw [State.path_modPath_self]; exact hf _
    · rw [State.path_modPath_ne _ _ _ hne]; exact ⟨rfl, rfl, rfl, rfl, rfl, rfl, rfl⟩

theorem Benign.updPaths (s : State) {f : PathIx → PathRec → PathRec}
    (hf : ∀ (i : PathIx) (p : PathRec), (f i p).state = p.state ∧ (f i p).output = p.output ∧
      (f i p).rxSlot = p.rxSlot ∧ (f i p).selected = p.selected ∧ (f i p).txFaultDeadline = p.txFaultDeadline ∧
      (f i p).shed = p.shed ∧ (f i p).cond = p.cond := by
        exact fun _ _ => ⟨rfl, rfl, rfl, rfl, rfl, rfl, rfl⟩) : Benign s { s with paths := updAll s.paths f } where
  path i := by
    have h : State.path { s with paths := updAll s.paths f } i = f i (s.path i) := by simp [State.path]
    rw [h]; exact hf i _

theorem Benign.surveyRequest (s : State) (k : Slot) : Benign s (surveyRequest k s) := by
  unfold Machine.surveyRequest
  split
  · rename_i hc
    simp only [Bool.and_eq_true, Bool.not_eq_true', decide_eq_true_eq] at hc
    obtain ⟨⟨⟨-, hnew⟩, -⟩, hroom⟩ := hc
    exact { lists := fun h => ⟨h.tuning, ⟨by simpa using hroom, List.nodup_append.mpr
      ⟨h.requests.2, by simp, by simpa using fun a ha (he : a = k) => by simp [he ▸ ha] at hnew⟩⟩, h.failures, h.history⟩ }
  · exact refl s

theorem Benign.askSurvey (s : State) (i : PathIx) : Benign s (askSurvey i s) := by
  unfold Machine.askSurvey
  split
  · exact refl s
  · exact Benign.surveyRequest s _

theorem Benign.tuningUpkeep (s : State) (i : PathIx) : Benign s (tuningUpkeep i s) := by
  have hside (t : State) (d : Side) (w : Bool) (k : Option Slot) : Benign t (upkeepSide i d w k t) := by
    unfold upkeepSide
    split
    · exact refl t
    · split
      · exact { lists := fun h => ⟨h.tuning.tuneInto _ _ _, h.requests, h.failures, h.history⟩ }
      · exact refl t
  exact (hside s _ _ _).trans (hside _ _ _ _)

theorem decideHysteresis_benign (s : State) (i : PathIx) (p : PathRec) :
    ∃ c n, decideHysteresis s i p = { p with candidate := c, candidateCount := n } := by
  unfold decideHysteresis
  split
  · exact ⟨_, _, rfl⟩
  · split <;> exact ⟨_, _, rfl⟩

/-- What a survey request leaves of a station's time, and a switch decision of a path's record. -/
theorem surveyRequest_now (s : State) (k : Slot) : (surveyRequest k s).now = s.now := by
  unfold surveyRequest; split <;> rfl

theorem askSurvey_now (s : State) (i : PathIx) : (askSurvey i s).now = s.now := by
  unfold askSurvey
  split
  · rfl
  · exact surveyRequest_now s _

/-- Eligibility of an entry reads carry entries, parameters, own claims and the time alone. -/
theorem sourceEligible_congr {s t : State} (hc : t.carry = s.carry) (hp : t.params = s.params)
    (hslots : t.slots = s.slots) (hn : t.now = s.now) (i : PathIx) (e : Source) :
    sourceEligible t i e = sourceEligible s i e := by
  simp only [sourceEligible, State.carryOf, nearOwnClaim, State.slot, hc, hp, hslots, hn]

theorem switchAnswer_spec {s : State} {i : PathIx} {e : Source} (h : switchAnswer s i = some e) :
    e ∈ s.sources ∧ sourceEligible s i e = true := by
  have hbest : bestFresh s i = some e := by
    unfold switchAnswer switchRival at h
    split at h
    · cases h
    · rename_i b hb
      split at hb
      · rename_i b' sel hbest hsel
        split at hb
        · cases hb
        · split at hb
          · cases hb
            split at h <;> cases h
            exact hbest
          · cases hb
      · cases hb
  exact ⟨(bestFresh_spec hbest).1.1, (bestFresh_spec hbest).1.2.1⟩

namespace ActsKeep

variable {P : State → Prop}

theorem selectBest (h : ActsKeep P) (i : PathIx) {st : PathState} {s : State}
    (hst : ((s.path i).state = .seeking ∧ st = .acquiring) ∨
      (((s.path i).state = .holdover ∨ (s.path i).state = .on) ∧ st = .switching)) (hs : P s) :
    P (selectBest i st s) := by
  unfold Machine.selectBest
  split
  · exact hs
  · rename_i e he
    obtain ⟨⟨hmem, hel, -⟩, -⟩ := bestFresh_spec he
    rw [selectSource_eq]
    exact h.select hmem hel hst hs

theorem pathEvaluation (h : ActsKeep P) (i : PathIx) {s : State} (hs : P s) : P (pathEvaluation i s) := by
  unfold Machine.pathEvaluation
  split
  · have hone : P (s.modPath i fun p => { p with evalDeadline := p.evalDeadline.map fun d => later d 1000 }) :=
      h.benign (.modPath s i) hs
    refine h.benign (.tuningUpkeep _ i) ?_
    generalize s.modPath i _ = u at hone
    unfold evaluateByState
    have hask (st) (hst : ((u.path i).state = .seeking ∧ st = .acquiring) ∨
        (((u.path i).state = .holdover ∨ (u.path i).state = .on) ∧ st = .switching)) :
        P (Machine.selectBest i st (askSurvey i u)) := by
      have hb := Benign.askSurvey u i
      exact h.selectBest i (by rw [(hb.path i).1]; exact hst) (h.benign hb hone)
    split
    · rename_i hst; exact hask _ (.inl ⟨hst, rfl⟩)
    · rename_i hst; exact hask _ (.inr ⟨.inl hst, rfl⟩)
    · rename_i hst
      unfold decideSwitch
      dsimp only
      have hhyst : Benign u (u.modPath i (decideHysteresis u i)) := .modPath u i fun p => by
        obtain ⟨c, n, he⟩ := decideHysteresis_benign u i p
        rw [he]; simp
      have hb := hhyst.trans (.askSurvey _ i)
      split
      · exact h.benign hb hone
      · rename_i e he
        obtain ⟨hmem, hel⟩ := switchAnswer_spec he
        rw [selectSource_eq]
        refine h.select (hb.sources ▸ hmem) ?_ (.inr ⟨.inr ((hb.path i).1.trans hst), rfl⟩) (h.benign hb hone)
        rwa [sourceEligible_congr hb.carry hb.params hb.slots (askSurvey_now _ i)]
    all_goals exact hone
  · exact hs

end ActsKeep

end Sys2Proof.Machine
end
section
/-! PROOFS. From small acts to whole commands: a property that the single acts keep (FineKeep) is kept by the events of the
tables with their notices (ActsKeep), and one that reads slots, claims and selections alone (CoarseKeep) by every
command. -/

namespace Sys2Proof.Machine

open Sys2Proof

/-! ### A slot given up -/

/-- The own claim of a slot is removed and its path takes the outcome (R98, R101, R108). -/
def giveUp (c : Nat) (k : Slot) (e : PathEvent) (s : State) : State :=
  match (s.slot k).ownPath with
  | none => s.modSlot k SlotEntry.cleared
  | some i => slotLost c i e (s.modSlot k SlotEntry.cleared)

theorem giveUp_of_owner {s : State} {k : Slot} {i : PathIx} (h : (s.slot k).ownPath = some i) (c : Nat)
    (e : PathEvent) : giveUp c k e s = slotLost c i e (s.modSlot k SlotEntry.cleared) := by
  simp [giveUp, h]

theorem giveUp_slot_self (s : State) (c : Nat) (k : Slot) (e : PathEvent) :
    (giveUp c k e s).slot k = (s.slot k).cleared := by
  unfold giveUp
  split <;> simp

theorem giveUp_slot_ne (s : State) (c : Nat) {j k : Slot} (e : PathEvent) (h : j ≠ k) :
    (giveUp c k e s).slot j = s.slot j := by
  unfold giveUp
  split <;> simp [State.slot_modSlot_ne _ _ _ h]

@[simp] theorem giveUp_wait (s : State) (c : Nat) (k : Slot) (e : PathEvent) (j : PathIx) :
    (giveUp c k e s).wait j = s.wait j := by
  unfold giveUp
  split <;> simp

@[simp] theorem giveUp_sources (s : State) (c : Nat) (k : Slot) (e : PathEvent) :
    (giveUp c k e s).sources = s.sources := by
  unfold giveUp
  split <;> simp

theorem giveUp_path_self {s : State} {k : Slot} {i : PathIx} (h : (s.slot k).ownPath = some i) (c : Nat)
    (e : PathEvent) : (giveUp c k e s).path i = (slotLost c i e s).path i := by
  rw [giveUp_of_owner h, slotLost_path_self, slotLost_path_self]
  rfl

theorem giveUp_path_ne {s : State} {k : Slot} {j : PathIx} (h : (s.slot k).ownPath ≠ some j) (c : Nat)
    (e : PathEvent) : (giveUp c k e s).path j = s.path j := by
  unfold giveUp
  split
  · rfl
  · rename_i i hi
    exact slotLost_path_ne _ c e fun he => h (he ▸ hi)

/-- A slot given up leaves of every path record what its receive side holds. -/
theorem giveUp_path_keeps (s : State) (c : Nat) (k : Slot) (e : PathEvent) (i : PathIx) :
    ((giveUp c k e s).path i).rxSlot = (s.path i).rxSlot ∧ ((giveUp c k e s).path i).selected = (s.path i).selected := by
  by_cases h : (s.slot k).ownPath = some i
  · rw [giveUp_path_self h, slotLost_path_self]
    exact ⟨rfl, rfl⟩
  · rw [giveUp_path_ne h]
    exact ⟨rfl, rfl⟩

theorem Acts.giveUp (s : State) (c : Nat) (k : Slot) (e : PathEvent) : Acts s (giveUp c k e s) := by
  unfold Machine.giveUp
  split
  · exact clearSlot s k
  · exact (clearSlot s k).trans (slotLost _ c _ e)

theorem loseToPeer_giveUp (s : State) (c : Nat) (k : Slot) (e : PathEvent) :
    loseToPeer c k e s = match (s.slot k).ownPath with
      | none => giveUp c k e s
      | some i => startRetry i (giveUp c k e s) := by
  cases h : (s.slot k).ownPath <;> simp [loseToPeer, giveUp, h]

theorem silentSlot_eq (s : State) (k : Slot) :
    silentSlot k s = if (s.slot k).own = .none then s else giveUp 0 k .slotReleased s := by
  cases h : (s.slot k).ownPath <;> simp [silentSlot, giveUp, h]

/-! ### From the loss of a source to the events of the source table -/

section

variable {P : State → Prop}
  (hsources : ∀ {s : State} (es : List Source), (s.sources = [] → es = [] ∨ listening s.station = true) → P s →
    P { s with sources := es })
  (hdepth : ∀ {s i} (f : PathRec → PathRec), (∀ p : PathRec, f p = { p with selected := (f p).selected } ∧
    (f p).selected.isSome = p.selected.isSome) → P s → P (s.modPath i f))
  (hlost : ∀ i s, P s → P (sourceLost i s))

include hsources hlost

theorem removeSources_keeps {gone : Source → Bool} {s : State} (hs : P s) : P (removeSources gone s) := by
  refine foldl_keeps (fun t e ht => forPaths_keeps (fun i u hu => ?_) ht) _
    (hsources _ (fun he => .inl (by simp [he])) hs)
  unfold takeRemoved
  split
  · exact hlost i u hu
  · exact hu

include hdepth

theorem takeSourceFrame_keeps {f : Frame} {heard : Slot} {noise : Nat} {latest : Option Nat} {s : State}
    (hl : listening s.station = true) (hs : P s) : P (takeSourceFrame f heard noise latest s) := by
  unfold takeSourceFrame
  split
  · split
    · exact hsources _ (fun _ => .inr hl) hs
    · exact hs
  · split
    · refine forPaths_keeps (fun i u hu => ?_) (hsources _ (fun _ => .inr hl) hs)
      unfold takeChanged
      split
      · split
        · exact hlost i u hu
        · exact hdepth _ (fun p => ⟨rfl, by simp⟩) hu
      · exact hu
    · exact removeSources_keeps hsources hlost hs

end

/-! ### From single acts to the events of the tables -/

/-- What the single acts keep, but for those on the source table. -/
structure FineKeep (P : State → Prop) : Prop where
  benign : ∀ {s t}, Benign s t → P s → P t
  served : ∀ {s t}, Served s t → P s → P t
  waits : ∀ {s : State} (v), P s → P { s with waits := v }
  flags : ∀ {s : State} (a b), P s → P { s with silentRelease := a, pinnedCollision := b }
  peers : ∀ {s : State} {f : Slot → List Peer → List Peer}, (∀ k ps, PeersOk ps → PeersOk (f k ps)) → P s →
    P { s with slots := updAll s.slots (fun k e => { e with peers := f k e.peers }) }
  giveUp : ∀ {c k e s}, (s.slot k).own ≠ .none → P s → P (giveUp c k e s)
  collision : ∀ {k s} (c : Option Time), (c.isSome = true → (s.slot k).own = .held ∧ (s.slot k).ownPinned = false) → P s →
    P (s.modSlot k fun e => { e with collision := c })
  select : ∀ {i e st s}, e ∈ s.sources → sourceEligible s i e = true →
    ((s.path i).state = .seeking ∧ st = .acquiring) ∨
      (((s.path i).state = .holdover ∨ (s.path i).state = .on) ∧ st = .switching) →
    P s → P (selectAct i e st s)
  fail : ∀ {i s}, acquiring (s.path i).state = true → P s → P (failAct i s)
  lose : ∀ {i s}, watching (s.path i).state = true → P s → P (loseSource i s)
  expire : ∀ {i s}, (s.path i).state = .holdover ∨ (s.path i).state = .switching → P s → P (expireHoldover i s)
  acquired : ∀ {i s}, acquiring (s.path i).state = true → P s → P (acquireAct i s)
  won : ∀ {k s}, (s.slot k).own = .intent → P s →
    P (claimWon k (s.modSlot k (fun e => { e with own := .held, ownDeadline := none })))

/-- A collision test writes the collision deadline alone. -/
theorem collisionTest_eq (s : State) (k : Slot) : collisionTest k s = s.modSlot k fun e => { e with collision :=
    (if (s.slot k).inCollision then some ((s.slot k).collision.getD (laterS s.now s.params.collisionPersistence))
      else none) } := by
  have h : ∀ (f g : SlotEntry → SlotEntry), f (s.slot k) = g (s.slot k) → s.modSlot k f = s.modSlot k g := by
    intro f g hfg
    simp only [State.modSlot, upd]
    rw [show f s.slots[k.val] = g s.slots[k.val] from hfg]
  refine h _ _ ?_
  by_cases hc : (s.slot k).inCollision = true
  · cases hd : (s.slot k).collision <;> simp only [hc, if_true, Option.getD_none, Option.getD_some]
    rw [← hd]
  · simp [hc]

theorem restartCollision_eq (s : State) (k : Slot) : restartCollision k s = s.modSlot k fun e => { e with collision :=
    (if (s.slot k).inCollision then some (laterS s.now s.params.collisionPersistence) else none) } := by
  have h : ∀ (f g : SlotEntry → SlotEntry), f (s.slot k) = g (s.slot k) → s.modSlot k f = s.modSlot k g := by
    intro f g hfg
    simp only [State.modSlot, upd]
    rw [show f s.slots[k.val] = g s.slots[k.val] from hfg]
  refine h _ _ ?_
  by_cases hc : (s.slot k).inCollision = true <;> simp [hc]

theorem SlotEntry.inCollision_iff (e : SlotEntry) : e.inCollision = true ↔
    e.own = .held ∧ e.ownPinned = false ∧ ∃ p ∈ e.peers, p.phase = .held ∨ p.pinned = true := by
  simp [SlotEntry.inCollision, Peer.contends, and_assoc]

namespace FineKeep

variable {P : State → Prop}

theorem settle (h : FineKeep P) {s u : State} (hu : P u) : P (settleNotices s u) := h.served (settleNotices_served s u) hu

theorem pinnedUpdate (h : FineKeep P) {s : State} (hs : P s) : P (pinnedUpdate s) := h.flags s.silentRelease _ hs

theorem notify (h : FineKeep P) {s : State} (hs : P s) : P (serveMarks (noticeWaiting s)) := by
  refine h.served (serveMarks_served _) ?_
  rw [noticeWaiting_eq]
  exact h.waits _ hs

theorem loseToPeer (h : FineKeep P) {c k e} {s : State} (hown : (s.slot k).own ≠ .none) (hs : P s) :
    P (loseToPeer c k e s) := by
  have hgive := h.giveUp (c := c) (e := e) hown hs
  rw [loseToPeer_giveUp]
  split
  · exact hgive
  · exact h.waits _ hgive

theorem collisionTest (h : FineKeep P) (k : Slot) {s : State} (hs : P s) : P (collisionTest k s) := by
  rw [collisionTest_eq]
  refine h.collision _ (fun hc => ?_) hs
  split at hc
  · rename_i hin
    obtain ⟨hheld, hpin, -⟩ := (SlotEntry.inCollision_iff _).mp hin
    exact ⟨hheld, hpin⟩
  · cases hc

theorem restart (h : FineKeep P) (k : Slot) {s : State} (hs : P s) : P (restartCollision k s) := by
  rw [restartCollision_eq]
  refine h.collision _ (fun hc => ?_) hs
  split at hc
  · rename_i hin
    obtain ⟨hheld, hpin, -⟩ := (SlotEntry.inCollision_iff _).mp hin
    exact ⟨hheld, hpin⟩
  · cases hc

theorem retestSlot (h : FineKeep P) (c : Nat) (k : Slot) {s : State} (hs : P s) : P (retestSlot c k s) := by
  unfold Machine.retestSlot
  split
  · exact hs
  · rename_i hown
    split
    · exact h.loseToPeer (by rw [hown]; decide) hs
    · exact hs
  · exact h.collisionTest k hs

theorem peerEvent (h : FineKeep P) (c : Nat) {f : Slot → List Peer → List Peer}
    (hf : ∀ k ps, PeersOk ps → PeersOk (f k ps)) {s : State} (hs : P s) : P (peerEvent c f s) := by
  unfold Machine.peerEvent
  dsimp only
  refine h.served (noticeFreed_served s _) (h.pinnedUpdate (forSlots_keeps (fun k t ht => ?_) (h.peers hf hs)))
  split
  · exact ht
  · exact h.retestSlot c k ht

theorem sourceLost (h : FineKeep P) (i : PathIx) {s : State} (hs : P s) : P (sourceLost i s) := by
  obtain he | ⟨-, ha, he⟩ | ⟨-, hw, he⟩ := sourceLost_cases s i <;> rw [he]
  · exact hs
  · exact h.settle (h.fail ha hs)
  · exact h.settle (h.lose hw hs)

theorem silentReleaseAll (h : FineKeep P) {s : State} (hs : P s) : P (silentReleaseAll s) := by
  unfold Machine.silentReleaseAll
  refine h.flags true false (forSlots_keeps (fun k t ht => ?_) hs)
  rw [silentSlot_eq]
  split
  · exact ht
  · rename_i hown
    exact h.giveUp hown ht

theorem acts (h : FineKeep P)
    (regrade : ∀ {g : Source → Source} {s}, (∀ e, (g e).slot = e.slot ∧ (g e).station = e.station ∧
      (g e).upstream = e.upstream ∧ (g e).depth = e.depth ∧ (e.Graded → (g e).Graded)) → P s →
      P { s with sources := s.sources.map g })
    (remove : ∀ {gone s}, P s → P (removeSources gone s))
    (takeFrame : ∀ {f heard noise latest s}, listening s.station = true → f.station ≠ s.params.stationId →
      f.depth ≤ 15 → P s → P (takeSourceFrame f heard noise latest s)) : ActsKeep P where
  benign := h.benign
  choose hw hs := h.served (chooseAndClaim_served hw) hs
  unwait hs := h.waits _ hs
  request _ hs := h.served (serveMarks_served _) (h.waits _ hs)
  peers hf hs := h.served (serveMarks_served _) (h.peerEvent _ hf hs)
  collide hown hs := h.settle (h.pinnedUpdate (h.loseToPeer (by rw [hown]; decide) hs))
  restart hs := h.restart _ hs
  select hmem hel hst hs := h.settle (h.select hmem hel hst hs)
  fail ha hs := h.settle (h.fail ha hs)
  lose hw hs := h.settle (h.lose hw hs)
  expire hst hs := h.settle (h.expire hst hs)
  acquired ha hs := h.acquired ha hs
  holdOff hown hs := h.pinnedUpdate (h.collisionTest _ (h.won hown hs))
  silent hs := h.silentReleaseAll hs
  regrade := regrade
  remove := remove
  takeFrame := takeFrame

/-- A property that reads of the source table at most that it is empty before LISTEN, and no depth of a selection. -/
theorem acts_of_sources (h : FineKeep P)
    (hsources : ∀ {s : State} (es : List Source), (s.sources = [] → es = [] ∨ listening s.station = true) → P s →
      P { s with sources := es })
    (hdepth : ∀ {s i} (f : PathRec → PathRec), (∀ p : PathRec, f p = { p with selected := (f p).selected } ∧
      (f p).selected.isSome = p.selected.isSome) → P s → P (s.modPath i f)) : ActsKeep P :=
  h.acts (fun _ hs => hsources _ (fun he => .inl (by simp [he])) hs)
    (removeSources_keeps hsources (fun i _ hs => h.sourceLost i hs))
    (fun hl _ _ => takeSourceFrame_keeps hsources hdepth (fun i _ hs => h.sourceLost i hs) hl)

end FineKeep

/-! ### Properties that no act touches -/

theorem takeSourceFrame_act (s : State) (f : Frame) (heard : Slot) (noise : Nat) (latest : Option Nat) :
    ActFrame s (takeSourceFrame f heard noise latest s) := by
  unfold takeSourceFrame
  split
  · split
    · exact sources_act s _
    · rfl
  · split
    · exact (sources_act s _).trans (noticeChanged_act _ _)
    · exact removeSources_act s _

/-- What no act of the path controller, of the slot claim table and of the source table touches. -/
theorem ActsKeep.of_frame {P : State → Prop} (hbenign : ∀ {s t}, Benign s t → P s → P t)
    (hframe : ∀ {s t}, ActFrame s t → P s → P t) : ActsKeep P where
  benign := hbenign
  choose {i s} _ := hframe (chooseAndClaim_act s i)
  unwait {i s} := hframe (modWait_act s i _)
  request {i s} _ := hframe ((modWait_act s i _).trans (serveMarks_act _))
  peers {c f s} _ := hframe ((peerEvent_act s c f).trans (serveMarks_act _))
  collide {k s} _ := hframe ((((Acts.loseToPeer s 0 k _).trans (.pinnedUpdate _)).trans (.noticeFreed s _)).trans
    (.serveMarks _)).frame
  restart {k s} := hframe (Acts.restartCollision s k).frame
  select {i e st s} _ _ _ := hframe (((Acts.selectAct s i e st).trans (.noticeFreed s _)).trans (.serveMarks _)).frame
  fail {i s} _ := hframe (((Acts.failAct s i).trans (.noticeFreed s _)).trans (.serveMarks _)).frame
  lose {i s} _ := hframe (((Acts.loseSource s i).trans (.noticeFreed s _)).trans (.serveMarks _)).frame
  expire {i s} _ := hframe (((Acts.expireHoldover s i).trans (.noticeFreed s _)).trans (.serveMarks _)).frame
  acquired {i s} _ := hframe (Acts.acquireAct s i).frame
  holdOff {k s} _ := hframe ((((modSlot_act s k _).trans (Acts.claimWon _ k).frame).trans
    (Acts.collisionTest _ k).frame).trans (Acts.pinnedUpdate _).frame)
  silent {s} := hframe (silentReleaseAll_act s)
  regrade {_ s} _ := hframe (sources_act s _)
  remove {gone s} := hframe (removeSources_act s gone)
  takeFrame {f k n l s} _ _ _ := hframe (takeSourceFrame_act s f k n l)

theorem ActsKeep.and {P Q : State → Prop} (hp : ActsKeep P) (hq : ActsKeep Q) : ActsKeep fun s => P s ∧ Q s where
  benign h := And.imp (hp.benign h) (hq.benign h)
  choose h := And.imp (hp.choose h) (hq.choose h)
  unwait := And.imp hp.unwait hq.unwait
  request h := And.imp (hp.request h) (hq.request h)
  peers hf := And.imp (hp.peers hf) (hq.peers hf)
  collide h := And.imp (hp.collide h) (hq.collide h)
  restart := And.imp hp.restart hq.restart
  select he hel h := And.imp (hp.select he hel h) (hq.select he hel h)
  fail h := And.imp (hp.fail h) (hq.fail h)
  lose h := And.imp (hp.lose h) (hq.lose h)
  expire h := And.imp (hp.expire h) (hq.expire h)
  acquired h := And.imp (hp.acquired h) (hq.acquired h)
  holdOff h := And.imp (hp.holdOff h) (hq.holdOff h)
  silent := And.imp hp.silent hq.silent
  regrade h := And.imp (hp.regrade h) (hq.regrade h)
  remove := And.imp hp.remove hq.remove
  takeFrame hl hf hd := And.imp (hp.takeFrame hl hf hd) (hq.takeFrame hl hf hd)

/-! ### What a property of claims and selections does not see -/

theorem Same.cutVisit (s : State) : Same s (cutVisit s) := {}

theorem Same.alarmUpdate (s : State) : Same s (alarmUpdate s) := {}

theorem Benign.modTx (s : State) (i : PathIx) {f : TxSide → TxSide}
    (hf : ∀ x : TxSide, (f x).inUse = x.inUse ∧ (f x).channel = x.channel := by exact fun _ => ⟨rfl, rfl⟩) :
    Benign s (s.modTx i f) where
  tx j := by
    rcases eq_or_ne j i with rfl | hne
    · rw [State.txSide_modTx_self]; exact hf _
    · rw [State.txSide_modTx_ne _ _ _ hne]; exact ⟨rfl, rfl⟩

/-- Every transmit side changed but for its set in use and its channel. -/
theorem Benign.updTx (s : State) {f : PathIx → TxSide → TxSide}
    (hf : ∀ (i : PathIx) (x : TxSide), (f i x).inUse = x.inUse ∧ (f i x).channel = x.channel := by
      exact fun _ _ => ⟨rfl, rfl⟩) : Benign s { s with tx := updAll s.tx f } where
  tx i := by
    have h : State.txSide { s with tx := updAll s.tx f } i = f i (s.txSide i) := by simp [State.txSide]
    rw [h]; exact hf i _

theorem Benign.forPaths {f : PathIx → State → State} (h : ∀ i s, Benign s (f i s)) (s : State) :
    Benign s (forPaths f s) :=
  forPaths_keeps (P := Benign s) (fun i t ht => ht.trans (h i t)) (refl s)

theorem Same.writeSite (s : State) (new : Site) : Same s (writeSite new s) := {}

theorem Benign.silencePending (s : State) : Benign s (silencePending s) := Benign.updTx s

theorem Benign.takeTuningHead (s : State) : Benign s (takeTuningHead s) := by
  unfold Machine.takeTuningHead
  split
  · exact refl s
  · rename_i e rest hq
    have htail (h : TuningOk s.tuning) : TuningOk rest := by
      rw [hq] at h
      exact ⟨(Nat.le_succ _).trans h.1, h.2.of_cons⟩
    split
    · have hq : Benign s { s with tuning := rest } :=
        { lists := fun h => ⟨htail h.tuning, h.requests, h.failures, h.history⟩ }
      refine hq.trans ?_
      unfold applyEntry
      split
      · unfold applyReceive
        have hrx (t : State) : Benign t ((t.modRx e.path (RxSide.retune (slotWord e.slot))).modFramer (.path e.path)
            (fun _ => Framer.cleared)) := {}
        exact (hrx _).trans (Benign.modPath _ _)
      · unfold applyTransmit
        exact (Benign.modTx _ e.path (f := fun x => { x with word := slotWord e.slot, slotInUse := some e.slot })).trans (Benign.modPath _ _)
    · exact { lists := fun h => ⟨(htail h.tuning).filter _, h.requests, h.failures, h.history⟩ }

theorem Benign.takeCancels (s : State) : Benign s (takeCancels s) := by
  have ht : Benign s { s with tuning := s.tuning.filter (fun e => !cancelDue s e) } :=
    { lists := fun h => ⟨h.tuning.filter _, h.requests, h.failures, h.history⟩ }
  exact ht.trans (Benign.updPaths _)

theorem Benign.tuningEntryApplied (s : State) : Benign s (tuningEntryApplied s) := by
  unfold Machine.tuningEntryApplied
  split
  · have ht : Benign s { s with timing := { s.timing with tuningDue := false } } := {}
    exact (ht.trans (Benign.takeTuningHead _)).trans (Benign.takeCancels _)
  · exact refl s

theorem Benign.modFramer (s : State) (ix : FramerIx) (f : Framer → Framer) : Benign s (s.modFramer ix f) := by
  cases ix <;> exact {}

theorem Benign.handBit (s : State) (i : PathIx) : Benign s (handBit i s) := by
  have hb (f : BuilderPath → BuilderPath) : Benign s (s.modBuilder i f) := {}
  exact (hb _).trans (Benign.modTx _ i)

theorem Benign.frameStartAmong (s : State) (ahead : PathIx → Bool) : Benign s (frameStartAmong ahead s) := by
  unfold Machine.frameStartAmong
  split
  · have ht (b : Builder) : Benign s { s with builder := b } := {}
    refine Benign.trans (t := takeSnapshots s) (ht _) (Benign.forPaths (fun i t => ?_) _)
    split
    · exact refl t
    · exact Benign.handBit t i
  · exact refl s

theorem Benign.visitStart (s : State) : Benign s (visitStart s) := by
  unfold Machine.visitStart
  split
  · unfold chooseVisit
    split
    · exact refl s
    · split
      · exact refl s
      · exact {}
  · exact refl s

theorem Same.enterTxFault (s : State) (i : PathIx) : Same s (enterTxFault i s) :=
  ((Same.modPath s i (f := fun p => { p with txFaultDeadline := some (later s.now 30000) })).trans
    (Same.modPath _ i (f := fun p => { p with event := some .txFault }))).trans (Same.refreshPath _ i)

theorem Same.endTxFault (s : State) (i : PathIx) : Same s (endTxFault i s) :=
  ((Same.modPath s i (f := fun p => { p with txFaultDeadline := none, monitorFails := 0 })).trans
    (Same.modPath _ i (f := fun p => { p with event := some .txRestored }))).trans (Same.refreshPath _ i)

theorem Same.clearFailCounts (s : State) : Same s (clearFailCounts s) := .updPaths s fun _ p => by
  split <;> simp

/-- The failure log keeps its capacity (R153). -/
theorem length_logFailure_le (now : Time) (log : List Time) : (logFailure now log).length ≤ failureCapacity := by
  unfold logFailure failureCapacity
  split
  · simp; omega
  · simp; omega

theorem Same.recordFail (s : State) (i : PathIx) : Same s (recordFail i s) := by
  have h (t : State) : Same t ((State.setVerdict { (Machine.cutVisit t) with mon := { (Machine.cutVisit t).mon with
    failureLog := logFailure s.now (Machine.cutVisit t).mon.failureLog } } i (some .fail))) :=
    { lists := fun h => ⟨h.tuning, h.requests, length_logFailure_le _ _, h.history⟩ }
  exact (Same.modPath s i (f := fun p => { p with monitorFails := min 2 (p.monitorFails + 1) })).trans (h _)

theorem Same.failVerdict (s : State) (i : PathIx) : Same s (failVerdict i s) := by
  unfold Machine.failVerdict
  dsimp only
  refine (Same.recordFail s i).trans ?_
  generalize Machine.recordFail i s = u
  split
  · exact {}
  · split
    · exact Same.enterTxFault u i
    · exact refl u

theorem Same.passVerdict (s : State) (i : PathIx) : Same s (passVerdict i s) := by
  unfold Machine.passVerdict
  dsimp only
  have h (t : State) : Same t (State.setVerdict (Machine.cutVisit t) i (some .pass)) := {}
  have hpass := (Same.modPath s i (f := fun p => { p with monitorFails := 0 })).trans (h _)
  refine hpass.trans ?_
  generalize (Machine.cutVisit (s.modPath i _)).setVerdict i (some .pass) = u
  split
  · have hc : Same u { u with mon := { u.mon with chainFault := false } } := {}
    exact (hc.trans (Same.clearFailCounts _)).trans (Same.alarmUpdate _)
  · exact refl u

theorem Same.ownTagCheck (s : State) (f : Frame) : Same s (ownTagCheck f s) := by
  unfold Machine.ownTagCheck
  split
  · exact refl s
  · split
    · split
      · exact Same.passVerdict s _
      · exact Same.failVerdict s _
    · exact refl s

theorem Same.visitTimeout (s : State) : Same s (visitTimeout s) := by
  unfold Machine.visitTimeout
  split
  · exact refl s
  · split
    · exact Same.failVerdict s _
    · exact refl s

theorem Same.txRestored (s : State) (i : PathIx) : Same s (txRestored i s) := by
  unfold Machine.txRestored
  split
  · exact Same.endTxFault s i
  · exact refl s

theorem Same.keyHoldExpiry (s : State) : Same s (keyHoldExpiry s) := by
  unfold Machine.keyHoldExpiry
  split
  · exact {}
  · exact refl s

theorem Same.inhibitAlarm (s : State) : Same s (inhibitAlarm s) := by
  unfold Machine.inhibitAlarm
  split
  · exact {}
  · exact refl s

/-- The times of the last minute are at most those there were. -/
theorem HistoryOk.recent {g : Governor} (h : HistoryOk g) (now : Time) :
    HistoryOk { g with faultHistory := recentTimes now g.faultHistory } :=
  ⟨(List.length_filter_le _ _).trans h.1, fun hl => (List.length_filter_le _ _).trans (h.2 hl)⟩

theorem Same.faultHistoryExpiry (s : State) : Same s (faultHistoryExpiry s) where
  lists h := ⟨h.tuning, h.requests, h.failures, h.history.recent s.now⟩

theorem Benign.failureLogExpiry (s : State) : Benign s (failureLogExpiry s) where
  lists h := ⟨h.tuning, h.requests, (List.length_filter_le _ _).trans h.failures, h.history⟩

theorem Benign.statusRecord (s : State) : Benign s (statusRecord s) := by
  unfold Machine.statusRecord
  split
  · exact {}
  · exact refl s

/-- The requests before the first that may be dwelt on are discarded (R46). -/
theorem serveRequests_some {s : State} {q : List Slot} {k : Slot} {rest : List Slot}
    (h : serveRequests s q = some (k, rest)) :
    dwellable s k = true ∧ ∃ skipped, q = skipped ++ k :: rest ∧ ∀ j ∈ skipped, dwellable s j = false := by
  induction q with
  | nil => cases h
  | cons a q ih =>
    unfold serveRequests at h
    cases ha : dwellable s a
    · rw [if_neg (by simp [ha])] at h
      obtain ⟨hk, skipped, rfl, hskip⟩ := ih h
      exact ⟨hk, a :: skipped, rfl, by simpa [ha] using hskip⟩
    · rw [if_pos ha] at h
      cases h
      exact ⟨ha, [], rfl, by simp⟩

theorem serveRequests_append {s : State} {skipped : List Slot} (h : ∀ j ∈ skipped, dwellable s j = false) (q : List Slot) :
    serveRequests s (skipped ++ q) = serveRequests s q := by
  induction skipped with
  | nil => rfl
  | cons a l ih =>
    rw [List.cons_append, serveRequests, if_neg (by simp [h a (by simp)])]
    exact ih fun j hj => h j (by simp [hj])

theorem Benign.dwellStart (s : State) : Benign s (dwellStart s) := by
  unfold Machine.dwellStart
  split
  · unfold chooseDwell
    dsimp only
    have hdwell (k : Slot) (t : State) : Benign t (startDwell k t) := {}
    have hscan (j : Slot) (t : State) : Benign t { t with survey := { t.survey with scanPosition := j } } := {}
    have hnone : Benign s { s with survey := { s.survey with requests := [] } } :=
      { lists := fun h => ⟨h.tuning, ⟨Nat.zero_le _, List.nodup_nil⟩, h.failures, h.history⟩ }
    split
    · rename_i k rest hq
      obtain ⟨-, skipped, hreq, -⟩ := serveRequests_some hq
      have hrest : Benign s { s with survey := { s.survey with requests := rest } } :=
        { lists := fun h => by
            have hle := h.requests
            rw [hreq, List.length_append, List.length_cons, List.nodup_append, List.nodup_cons] at hle
            obtain ⟨hlen, -, ⟨-, hnd⟩, -⟩ := hle
            exact ⟨h.tuning, ⟨by dsimp only; omega, hnd⟩, h.failures, h.history⟩ }
      exact hrest.trans (hdwell k _)
    · split
      · exact (hnone.trans (hscan _ _)).trans (hdwell _ _)
      · exact hnone
  · exact refl s

theorem Benign.dwellDeadline (s : State) : Benign s (dwellDeadline s) := by
  unfold Machine.dwellDeadline
  split
  · exact refl s
  · split
    · exact {}
    · exact refl s

theorem Benign.levelPath (s : State) (reports : Vector (Option Nat) 12) (i : PathIx) : Benign s (levelPath reports i s) := by
  unfold Machine.levelPath
  split
  · split
    · exact refl s
    · refine Benign.modPath s i (fun p => ?_)
      unfold PathRec.takeLevel
      split
      · exact ⟨rfl, rfl, rfl, rfl, rfl, rfl, rfl⟩
      · split <;> exact ⟨rfl, rfl, rfl, rfl, rfl, rfl, rfl⟩
  · exact refl s

theorem Same.shedOne (s : State) (i : PathIx) : Same s (shedOne i s) :=
  ((Same.modPath s i (f := fun p => { p with shed := true })).trans
    (Same.modPath _ i (f := fun p => { p with event := some .shed }))).trans (Same.refreshPath _ i)

theorem Same.shedLoop (n : Nat) (s : State) : Same s (shedLoop n s) := by
  induction n generalizing s with
  | zero => exact refl s
  | succ n ih =>
    unfold Machine.shedLoop
    split
    · split
      · exact refl s
      · exact (Same.shedOne s _).trans (ih _)
    · exact refl s

theorem Same.restoreTest (s : State) : Same s (restoreTest s) := by
  unfold Machine.restoreTest
  split
  · exact {}
  · split
    · split <;> exact {}
    · exact {}

/-- What an evaluation writes when it fixes the applied factor, without the values it computes (R137). -/
theorem applyBackoff_shape (cap : Nat) (s : State) : ∃ (b : Nat) (a : Vector Nat 12), applyBackoff cap s =
    writePending b { s with gov := { s.gov with backoff := b, evaluationCap := cap, amplitudes := a } } :=
  ⟨_, _, rfl⟩

theorem Benign.writePending (b : Nat) (s : State) : Benign s (writePending b s) := Benign.updTx s

theorem Same.applyBackoff (s : State) (cap : Nat) : Same s (applyBackoff cap s) := by
  obtain ⟨b, a, h⟩ := applyBackoff_shape cap s
  rw [h]
  have hg : Same s { s with gov := { s.gov with backoff := b, evaluationCap := cap, amplitudes := a } } := {}
  exact hg.trans (Benign.writePending b _).same

theorem Same.compositeEvaluation (s : State) : Same s (compositeEvaluation s) := by
  have hclear : Same s (clearShedFlags s) := .updPaths s fun _ p => by split <;> simp
  have hraise (t : State) : Same t (raiseCap t) := {}
  exact (((hclear.trans (Same.shedLoop 12 _)).trans (Same.restoreTest _)).trans (Same.applyBackoff _ _)).trans (hraise _)

theorem Same.restore (s : State) : Same s (restore s) := by
  unfold Machine.restore
  split
  · exact refl s
  · rename_i i _
    split
    · refine Same.trans ?_ (Same.applyBackoff _ _)
      unfold restoreOne
      dsimp only
      have h : Same s (recordEvent i .restored (s.modPath i (fun p => { p with shed := false }))) :=
        (Same.modPath s i (f := fun p => { p with shed := false })).trans
          (Same.modPath _ i (f := fun p => { p with event := some .restored }))
      have hg (t : State) : Same t { t with gov := { t.gov with restoreCandidate := none, restoreCount := 0 } } := {}
      exact (h.trans (hg _)).trans (Same.refreshPath _ i)
    · exact refl s

theorem openBoundary_path (s : State) (i : PathIx) :
    (openBoundary s).path i = (s.path i).takeReport s.params.mFloor (s.rxSide i).report := by
  simp [openBoundary, restartClips, takePending, closeBlock, monitorReport, surveyReport, tickTime, State.path, State.rxSide]

theorem SameClaims.openBoundary (s : State) : SameClaims s (openBoundary s) where
  path i := by
    rw [openBoundary_path]
    exact ⟨rfl, rfl, rfl, rfl⟩

theorem Same.configByteRead (s : State) (b : Byte) : Same s (configByteRead b s) := by
  unfold Machine.configByteRead
  split
  · exact {}
  · exact refl s

theorem Benign.statusBitSent (s : State) : Benign s (statusBitSent s) := by
  unfold Machine.statusBitSent
  split <;> exact {}

/-! ### From the events of the tables to every command -/

theorem ActsKeep.framerOutcome {P : State → Prop} (h : ActsKeep P) (check : ∀ (f : Frame) {s}, P s → P (ownTagCheck f s))
    (ix : FramerIx) (order : OutcomeOrder) {s : State} (hs : P s) :
    P (framerOutcome ix order s) := by
  unfold Machine.framerOutcome
  split
  · exact hs
  · rename_i o _
    unfold reportOutcome
    dsimp only
    have hrest := h.benign (Benign.modFramer s ix (Framer.rest (outcomeState o))) hs
    split
    · rename_i hl
      have hl' : listening (s.modFramer ix (Framer.rest (outcomeState o))).station = true := by
        rw [(Benign.modFramer s ix _).station]; exact hl
      generalize s.modFramer ix (Framer.rest (outcomeState o)) = u at hrest hl'
      unfold routeOutcome
      split
      · exact check _ hrest
      · exact hrest
      · exact h.routeGood _ _ _ _ hl' hrest
      · exact h.routeGood _ _ _ _ hl' hrest
      · exact h.integrityFailure _ hrest
      all_goals exact hrest
    · exact hrest


/-- What a property has to be shown for that no level, tag or loader field but LISTEN's touches. Every step of a boundary
keeps such a property. -/
structure StepsKeep (P : State → Prop) : Prop where
  acts : ActsKeep P
  same : ∀ {s t}, Same s t → P s → P t
  notify : ∀ {s}, P s → P (serveMarks (noticeWaiting s))
  install : ∀ {s} (bs : List Byte), s.loader.reading = true → P s → P (installImage bs s)
  run : ∀ {s : State} (l : Loader), s.station = .listen → l.reading = s.loader.reading → P s →
    P { s with station := .running, loader := l }
  reject : ∀ {s : State} (l : Loader), s.loader.reading = true → l.reading = false → P s →
    P { s with station := .quiet, loader := l }
  retry : ∀ {s : State} (l : Loader), s.station = .quiet → P s → P { s with loader := l }

namespace StepsKeep

variable {P : State → Prop}

theorem rederiveSite (h : StepsKeep P) {s : State} (hs : P s) : P (rederiveSite s) := by
  unfold Machine.rederiveSite
  split
  · exact hs
  · unfold enterSite
    dsimp only
    have hcut : Same s (if (s.gov.site == .transmitting) = true then cutVisit (writeSite s.derivedSite s)
        else writeSite s.derivedSite s) := by
      split
      · exact (Same.writeSite s _).trans (Same.cutVisit _)
      · exact Same.writeSite s _
    have hwrite := h.same ((hcut.trans (Same.refreshAll _)).trans (Same.alarmUpdate _)) hs
    generalize alarmUpdate (refreshAll _) = u at hwrite ⊢
    split
    · exact h.notify hwrite
    · exact hwrite

theorem endOfListening (h : StepsKeep P) {s : State} (hs : P s) : P (endOfListening s) := by
  unfold Machine.endOfListening
  split
  · rename_i hc
    exact h.rederiveSite (h.run _ (by simpa using (Bool.and_eq_true_iff.mp hc).1) rfl hs)
  · exact hs

theorem loadEnd (h : StepsKeep P) {s : State} (hs : P s) : P (loadEnd s) := by
  unfold Machine.loadEnd
  split
  · rename_i hc
    have hread := (Bool.and_eq_true_iff.mp hc).1
    split
    · unfold acceptImage
      dsimp only
      have hinstall : P (alarmUpdate (Machine.rederiveSite (installImage s.loader.image s))) :=
        h.same (Same.alarmUpdate _) (h.rederiveSite (h.install _ hread hs))
      split
      · exact h.endOfListening hinstall
      · exact hinstall
    · exact h.same (Same.alarmUpdate _) (h.rederiveSite (h.reject _ hread rfl hs))
  · exact hs

theorem configRetry (h : StepsKeep P) {s : State} (hs : P s) : P (configRetry s) := by
  unfold Machine.configRetry
  split
  · rename_i hc
    exact h.retry _ (by simpa using (Bool.and_eq_true_iff.mp hc).1) hs
  · exact hs

theorem takeClipCount (h : StepsKeep P) (n : Nat) {s : State}
    (hfault : s.gov.site = .transmitting → P s → P { s with gov := s.gov.recordFault s.now }) (hs : P s) :
    P (takeClipCount n s) := by
  unfold Machine.takeClipCount
  split
  · rename_i hc
    exact h.acts.benign (Benign.silencePending _) (h.rederiveSite (hfault (by simpa using (Bool.and_eq_true_iff.mp hc).2) hs))
  · exact hs

theorem muteEnd (h : StepsKeep P) {s : State} (hs : P s) : P (muteEnd s) := by
  unfold Machine.muteEnd
  split
  · exact h.rederiveSite (h.same {} hs)
  · exact hs

theorem lockoutEnd (h : StepsKeep P) {s : State} (hs : P s) : P (lockoutEnd s) := by
  unfold Machine.lockoutEnd
  split
  · exact h.rederiveSite (h.same (s := s)
      { lists := fun ht => ⟨ht.tuning, ht.requests, ht.failures, ⟨Nat.zero_le _, fun _ => Nat.zero_le _⟩⟩ } hs)
  · exact hs

theorem txpermitChange (h : StepsKeep P) (level : Bool) {s : State} (hs : P s) : P (txpermitChange level s) := by
  unfold Machine.txpermitChange
  split
  · exact hs
  · exact h.rederiveSite (h.same {} hs)

theorem graceDeadline (h : StepsKeep P) {s : State} (hs : P s) : P (graceDeadline s) := by
  unfold Machine.graceDeadline
  split
  · exact h.acts.silent (h.same {} hs)
  · exact hs

theorem dwellCheckClose (h : StepsKeep P) {s : State} (hs : P s) : P (dwellCheckClose s) := by
  unfold Machine.dwellCheckClose
  split
  · exact hs
  · split
    · split
      · exact h.same {} hs
      · have hend (t : State) : Same t (endDwell t) := {}
        refine h.same (hend _) (h.acts.regrade (fun e => ?_) hs)
        split
        · exact ⟨rfl, rfl, rfl, rfl, fun hg => ⟨rfl, Nat.zero_le _, hg.2.2⟩⟩
        · exact ⟨rfl, rfl, rfl, rfl, id⟩
    · exact hs

theorem takeStep (h : StepsKeep P) (ahead : PathIx → Bool) (b : BoundaryStep) {s : State} (hs : P s) :
    P (takeStep ahead b s) := by
  cases b
  case loadEnd => exact h.loadEnd hs
  case configRetry => exact h.configRetry hs
  case endOfListening => exact h.endOfListening hs
  case tuningEntryApplied => exact h.acts.benign (Benign.tuningEntryApplied s) hs
  case framerOutcome ix order => exact h.acts.framerOutcome (fun f s hs => h.same (Same.ownTagCheck s f) hs) ix order hs
  case frameStart => exact h.acts.benign (Benign.frameStartAmong s ahead) hs
  case neighbourSweep order => exact h.acts.neighbourSweep order hs
  case sourceSweep => exact h.acts.sourceSweep hs
  case peerClaimExpiry => exact h.acts.peerClaimExpiry hs
  case holdOffEnd k => exact h.acts.holdOffEnd k hs
  case collisionExpiry k => exact h.acts.collisionExpiry k hs
  case claimRetryDeadline i => exact h.acts.claimRetryDeadline i hs
  case pathEvaluation i => exact h.acts.pathEvaluation i hs
  case acquireTimeout i => exact h.acts.acquireTimeout i hs
  case carrierCheckFail i => exact h.acts.carrierCheckFail i hs
  case lowCarrierLoss i => exact h.acts.lowCarrierLoss i hs
  case tagLoss i => exact h.acts.tagLoss i hs
  case holdoverExpired i => exact h.acts.holdoverExpired i hs
  case txpermitChange level => exact h.txpermitChange level hs
  case muteEnd => exact h.muteEnd hs
  case lockoutEnd => exact h.lockoutEnd hs
  case faultHistoryExpiry => exact h.same (Same.faultHistoryExpiry s) hs
  case graceDeadline => exact h.graceDeadline hs
  case txRestored i => exact h.same (Same.txRestored s i) hs
  case keyHoldExpiry => exact h.same (Same.keyHoldExpiry s) hs
  case inhibitAlarm => exact h.same (Same.inhibitAlarm s) hs
  case failureLogExpiry => exact h.same (Benign.failureLogExpiry s).same hs
  case visitStart => exact h.acts.benign (Benign.visitStart s) hs
  case visitTimeout => exact h.same (Same.visitTimeout s) hs
  case dwellStart => exact h.acts.benign (Benign.dwellStart s) hs
  case dwellCheckClose => exact h.dwellCheckClose hs
  case dwellDeadline => exact h.acts.benign (Benign.dwellDeadline s) hs
  case statusRecord => exact h.acts.benign (Benign.statusRecord s) hs

end StepsKeep

/-- The same for a property that no port reads: every command keeps it. -/
structure CoarseKeep (P : State → Prop) : Prop where
  acts : ActsKeep P
  same : ∀ {s t}, SameClaims s t → P s → P t
  notify : ∀ {s}, P s → P (serveMarks (noticeWaiting s))
  install : ∀ {s} (bs : List Byte), s.loader.reading = true → P s → P (installImage bs s)
  run : ∀ {s : State} (l : Loader), s.station = .listen → l.reading = s.loader.reading → P s →
    P { s with station := .running, loader := l }
  reject : ∀ {s : State} (l : Loader), s.loader.reading = true → l.reading = false → P s →
    P { s with station := .quiet, loader := l }
  retry : ∀ {s : State} (l : Loader), s.station = .quiet → P s → P { s with loader := l }

namespace CoarseKeep

variable {P : State → Prop}

theorem steps (h : CoarseKeep P) : StepsKeep P where
  acts := h.acts
  same hst := h.same hst.toSameClaims
  notify := h.notify
  install := h.install
  run := h.run
  reject := h.reject
  retry := h.retry

theorem commands (h : CoarseKeep P) (hreset : ∀ q, P { State.reset with pending := q }) : CommandsKeep P where
  pending q s hs := h.same {} hs
  reset s _ := hreset s.pending
  opening s hs := h.same (SameClaims.openBoundary s) hs
  level reports i s hs := h.acts.benign (Benign.levelPath s reports i) hs
  clips n s hs := h.steps.takeClipCount n (fun _ => h.same {}) hs
  evaluation s hs := h.same (Same.compositeEvaluation s).toSameClaims hs
  restore s hs := h.same (Same.restore s).toSameClaims hs
  bit i s hs := h.acts.benign (Benign.handBit s i) hs
  takeStep ahead b s hs := h.steps.takeStep ahead b hs
  framer ix st s _ hs := h.acts.benign (Benign.modFramer s ix _) hs
  feed ix tone s hs := h.acts.benign (Benign.modFramer s ix _) hs
  band x chans y s hs := h.same {} hs
  coupler x y s hs := h.same {} hs
  composite sides s hs := h.same {} hs
  byteRead b s hs := h.same (Same.configByteRead s b).toSameClaims hs
  bitSent s hs := h.acts.benign (Benign.statusBitSent s) hs

end CoarseKeep

end Sys2Proof.Machine
end
section
/-! PROOFS. What every step keeps of the guard, of the time before a valid load and of the survey receiver (O59). -/

namespace Sys2Proof.Machine

open Sys2Proof

/-! ### The frame of a change of the site transmit state -/

theorem SiteFrame.trans {s t u : State} (h : SiteFrame s t) (g : SiteFrame t u) : SiteFrame s u := by
  unfold SiteFrame at *
  rw [g, h]

theorem ActFrame.siteFrame {s t : State} (h : ActFrame s t) : SiteFrame s t := by
  unfold ActFrame at h
  unfold SiteFrame
  rw [h]

theorem writeSite_frame (new : Site) (s : State) : SiteFrame s (writeSite new s) := by
  have h : writeSite new s = { s with
      gov := { s.gov with site := (writeSite new s).gov.site, graceDeadline := (writeSite new s).gov.graceDeadline }
      lines := { s.lines with
        inhibitAlarmDeadline := (writeSite new s).lines.inhibitAlarmDeadline
        inhibitAlarm := (writeSite new s).lines.inhibitAlarm } } := by
    unfold writeSite linesAfter
    split
    · rfl
    · split <;> rfl
  unfold SiteFrame
  rw [h]

theorem cutVisit_frame (s : State) : SiteFrame s (cutVisit s) := rfl

theorem alarmUpdate_frame (s : State) : SiteFrame s (alarmUpdate s) := rfl

theorem enterSite_frame (new : Site) (s : State) : SiteFrame s (enterSite new s) := by
  unfold enterSite
  dsimp only
  have hcut : SiteFrame s (if (s.gov.site == .transmitting) = true then cutVisit (writeSite new s)
      else writeSite new s) := by
    split
    · exact (writeSite_frame new s).trans (cutVisit_frame _)
    · exact writeSite_frame new s
  have hwrite := (hcut.trans (Acts.refreshAll _).frame.siteFrame).trans (alarmUpdate_frame _)
  generalize alarmUpdate (refreshAll _) = u at hwrite ⊢
  split
  · exact hwrite.trans ((noticeWaiting_act u).trans (serveMarks_act _)).siteFrame
  · exact hwrite

theorem rederiveSite_frame (s : State) : SiteFrame s (rederiveSite s) := by
  unfold rederiveSite
  split
  · rfl
  · exact enterSite_frame _ s

/-! ### The guard and the time before a load -/

theorem unloaded_eq_not_listening (s : State) : s.unloaded = !listening s.station := by
  cases h : s.station <;> simp [State.unloaded, listening, h]

theorem unloaded_congr {s t : State} (h : t.station = s.station) : t.unloaded = s.unloaded := by
  simp only [State.unloaded, h]

/-- No path of t has a receive slot or a source that it has not in s, and the source table is not filled. -/
structure FewerSources (s t : State) : Prop where
  params : t.params = s.params := by rfl
  station : t.station = s.station := by rfl
  reading : t.loader.reading = s.loader.reading := by rfl
  table : s.sources = [] → t.sources = [] ∨ listening s.station = true := by exact .inl
  path : ∀ i : PathIx, ((t.path i).rxSlot = (s.path i).rxSlot ∨ (t.path i).rxSlot = none) ∧
    ((s.path i).selected = none → (t.path i).selected = none) := by exact fun _ => ⟨.inl rfl, id⟩

theorem LoadingOk.fewer {s t : State} (hs : LoadingOk s) (h : FewerSources s t) : LoadingOk t := by
  obtain ⟨hread, hnone⟩ := hs
  refine ⟨fun hr => ?_, fun hu => ?_⟩
  · rw [unloaded_congr h.station]
    exact hread (h.reading ▸ hr)
  · rw [unloaded_congr h.station] at hu
    obtain ⟨hsrc, hpath⟩ := hnone hu
    refine ⟨(h.table hsrc).resolve_right fun hl => ?_, fun i => ⟨?_, (h.path i).2 (hpath i).2⟩⟩
    · rw [unloaded_eq_not_listening, hl] at hu
      cases hu
    · obtain he | he := (h.path i).1
      · rw [he]; exact (hpath i).1
      · exact he

theorem GuardClear.fewer {s t : State} (hs : GuardClear s) (h : FewerSources s t)
    (hown : ∀ k : Slot, (t.slot k).own ≠ .none → (s.slot k).own ≠ .none ∨ guarded s k = false) : GuardClear t := by
  intro k i hk r hr
  rw [h.params]
  have hr' : (s.path i).rxSlot = some r := by
    obtain he | he := (h.path i).1
    · rw [← he]; exact hr
    · rw [he] at hr; cases hr
  obtain hk' | hk' := hown k hk
  · exact hs k i hk' r hr'
  · exact (guarded_eq_false_iff s k).mp hk' i r hr'

theorem SameClaims.fewer {s t : State} (h : SameClaims s t) : FewerSources s t where
  params := h.params
  station := h.station
  reading := h.reading
  table he := .inl (by rw [h.sources, he])
  path i := ⟨.inl (h.path i).2.2.1, fun hn => by rw [(h.path i).2.2.2, hn]⟩

theorem FewerSources.of_act {s t : State} (h : ActFrame s t) (hsrc : s.sources = [] → t.sources = [])
    (hpath : ∀ i : PathIx, ((t.path i).rxSlot = (s.path i).rxSlot ∨ (t.path i).rxSlot = none) ∧
      ((s.path i).selected = none → (t.path i).selected = none)) : FewerSources s t where
  params := h.params_eq
  station := h.station_eq
  reading := by rw [h.loader_eq]
  table he := .inl (hsrc he)
  path := hpath

theorem Served.fewer {s t : State} (h : Served s t) : FewerSources s t :=
  .of_act h.acts.frame (fun he => by rw [h.sources, he]) fun i =>
    ⟨.inl (h.rxSlot_eq i), fun hn => by rw [h.selected_eq, hn]⟩

theorem FewerSources.waits (s : State) (v : Vector PathWait 12) : FewerSources s { s with waits := v } := {}

theorem FewerSources.slots (s : State) (v : Vector SlotEntry 64) : FewerSources s { s with slots := v } := {}

theorem FewerSources.flags (s : State) (a b : Bool) :
    FewerSources s { s with silentRelease := a, pinnedCollision := b } := {}

theorem FewerSources.giveUp (s : State) (c : Nat) (k : Slot) (e : PathEvent) : FewerSources s (giveUp c k e s) :=
  .of_act (Acts.giveUp s c k e).frame (fun he => by rw [giveUp_sources, he]) fun i =>
    ⟨.inl (giveUp_path_keeps s c k e i).1, fun hn => by rw [(giveUp_path_keeps s c k e i).2, hn]⟩

theorem penaliseSelected_sources_nil (s : State) (i : PathIx) (h : s.sources = []) :
    (penaliseSelected i s).sources = [] := by
  unfold penaliseSelected
  split
  · exact h
  · simp [penalise, modSource, h]

theorem FewerSources.failAct {s : State} {i : PathIx} (ha : acquiring (s.path i).state = true) :
    FewerSources s (failAct i s) :=
  .of_act (Acts.failAct s i).frame (fun he => by rw [failAct_sources, penaliseSelected_sources_nil s i he]) fun j => by
    rcases eq_or_ne j i with rfl | hne
    · rw [failAct_path_self ha]
      exact ⟨.inr rfl, fun _ => rfl⟩
    · rw [failAct_path_ne s hne]
      exact ⟨.inl rfl, id⟩

theorem FewerSources.loseSource {s : State} {i : PathIx} (hw : watching (s.path i).state = true) :
    FewerSources s (loseSource i s) :=
  .of_act (Acts.loseSource s i).frame (fun he => by rw [loseSource_sources, he]) fun j => by
    rcases eq_or_ne j i with rfl | hne
    · rw [loseSource_path_self hw]
      exact ⟨.inr rfl, fun _ => rfl⟩
    · rw [loseSource_path_ne s hne]
      exact ⟨.inl rfl, id⟩

theorem FewerSources.expireHoldover {s : State} {i : PathIx}
    (hst : (s.path i).state = .holdover ∨ (s.path i).state = .switching) : FewerSources s (expireHoldover i s) :=
  .of_act (Acts.expireHoldover s i).frame (fun he => by rw [expireHoldover_sources, he]) fun j => by
    rcases eq_or_ne j i with rfl | hne
    · rw [expireHoldover_path_self (by rcases hst with h | h <;> simp [h])]
      exact ⟨.inl rfl, id⟩
    · rw [expireHoldover_path_ne s hne]
      exact ⟨.inl rfl, id⟩

theorem FewerSources.acquireAct {s : State} {i : PathIx} (ha : acquiring (s.path i).state = true) :
    FewerSources s (acquireAct i s) :=
  .of_act (Acts.acquireAct s i).frame (fun he => by rw [acquireAct_sources, he]) fun j => by
    rcases eq_or_ne j i with rfl | hne
    · rw [acquireAct_path_self (by rintro h; simp [h, acquiring] at ha)]
      exact ⟨.inl rfl, id⟩
    · rw [acquireAct_path_ne s hne]
      exact ⟨.inl rfl, id⟩

/-! ### A claim that is won -/

/-- The record of the path whose INTENT is won (R122). -/
def PathRec.won (site : Site) (p : PathRec) : PathRec :=
  { p with state := .on, event := some .claimWon, cond := condOf site { p with state := .on } }

theorem claimWon_path_self {s : State} {k : Slot} {i : PathIx} (hk : (s.slot k).ownPath = some i)
    (hst : (s.path i).state = .claiming) : (claimWon k s).path i = (s.path i).won s.gov.site := by
  simp only [claimWon, hk, hst, beq_self_eq_true, if_true]
  rw [movePath_path_of_ne_on (by simp [hst])]
  simp only [recordEvent_path_self, recordEvent_gov, PathRec.won]
  rfl

theorem claimWon_path_ne {s : State} {k : Slot} {i : PathIx}
    (h : (s.slot k).ownPath ≠ some i ∨ (s.path i).state ≠ .claiming) : (claimWon k s).path i = s.path i := by
  unfold claimWon
  split
  · rfl
  · rename_i j hj
    split
    · rename_i hst
      have hne : i ≠ j := by
        rintro rfl
        rcases h with h | h
        · exact h hj
        · exact h (by simpa using hst)
      rw [movePath_path_ne _ _ hne, recordEvent_path_ne _ _ hne]
    · rfl

theorem claimWon_path_keeps (s : State) (k : Slot) (i : PathIx) :
    ((claimWon k s).path i).rxSlot = (s.path i).rxSlot ∧ ((claimWon k s).path i).selected = (s.path i).selected ∧
    ((claimWon k s).path i).output = (s.path i).output := by
  by_cases h : (s.slot k).ownPath = some i ∧ (s.path i).state = .claiming
  · rw [claimWon_path_self h.1 h.2]
    exact ⟨rfl, rfl, rfl⟩
  · rw [claimWon_path_ne (not_and_or.mp h)]
    exact ⟨rfl, rfl, rfl⟩

@[simp] theorem claimWon_slots (s : State) (k : Slot) : (claimWon k s).slots = s.slots := by
  unfold claimWon
  split
  · rfl
  · split <;> simp

@[simp] theorem claimWon_slot (s : State) (k j : Slot) : (claimWon k s).slot j = s.slot j := by
  simp only [State.slot, claimWon_slots]

@[simp] theorem claimWon_sources (s : State) (k : Slot) : (claimWon k s).sources = s.sources := by
  unfold claimWon
  split
  · rfl
  · split <;> simp

@[simp] theorem claimWon_waits (s : State) (k : Slot) : (claimWon k s).waits = s.waits := by
  unfold claimWon
  split
  · rfl
  · split <;> simp

/-- The entry of a slot whose INTENT is won (R97). -/
abbrev SlotEntry.wonHeld (e : SlotEntry) : SlotEntry := { e with own := .held, ownDeadline := none }

theorem FewerSources.won (s : State) (k : Slot) : FewerSources s (claimWon k (s.modSlot k SlotEntry.wonHeld)) :=
  .of_act ((modSlot_act s k _).trans (Acts.claimWon _ k).frame) (fun he => by simp [he]) fun i => by
    obtain ⟨hrx, hsel, -⟩ := claimWon_path_keeps (s.modSlot k SlotEntry.wonHeld) k i
    exact ⟨.inl hrx, fun hn => by rw [hsel]; exact hn⟩

/-! ### Every step keeps them -/

theorem LoadingOk.select {s : State} {i : PathIx} {e : Source} (st : PathState) (hs : LoadingOk s)
    (he : e ∈ s.sources) : LoadingOk (selectAct i e st s) := by
  have hframe := (Acts.selectAct s i e st).frame
  have hloaded : s.unloaded ≠ true := by
    intro hu
    rw [(hs.2 hu).1] at he
    cases he
  refine ⟨fun hr => hs.1 (by rwa [hframe.loader_eq] at hr) |> (absurd · hloaded), fun hu => ?_⟩
  exact absurd ((unloaded_congr hframe.station_eq).symm.trans hu) hloaded

theorem loadingOk_fine : FineKeep LoadingOk where
  benign h hs := hs.fewer h.same.toSameClaims.fewer
  served h hs := hs.fewer h.fewer
  waits v hs := hs.fewer (.waits _ v)
  flags a b hs := hs.fewer (.flags _ a b)
  peers _ hs := hs.fewer (.slots _ _)
  giveUp _ hs := hs.fewer (.giveUp _ _ _ _)
  collision _ _ hs := hs.fewer (.slots _ _)
  select he _ _ hs := hs.select _ he
  fail ha hs := hs.fewer (.failAct ha)
  lose hw hs := hs.fewer (.loseSource hw)
  expire hst hs := hs.fewer (.expireHoldover hst)
  acquired ha hs := hs.fewer (.acquireAct ha)
  won _ hs := hs.fewer (.won _ _)

theorem FewerSources.sources {s : State} (es : List Source)
    (h : s.sources = [] → es = [] ∨ listening s.station = true) : FewerSources s { s with sources := es } where
  table := h

theorem FewerSources.depth {s : State} {i : PathIx} {f : PathRec → PathRec}
    (h : ∀ p : PathRec, f p = { p with selected := (f p).selected } ∧ (f p).selected.isSome = p.selected.isSome) :
    FewerSources s (s.modPath i f) :=
  .of_act (modPath_act s i f) id fun j => by
    rcases eq_or_ne j i with rfl | hne
    · rw [State.path_modPath_self]
      obtain ⟨hf, hsel⟩ := h (s.path j)
      exact ⟨.inl (by rw [hf]), fun hn => by rw [hn] at hsel; simpa using hsel⟩
    · rw [State.path_modPath_ne _ _ _ hne]
      exact ⟨.inl rfl, id⟩

theorem installImage_station (s : State) (bs : List Byte) : (installImage bs s).station = .listen := rfl

theorem installImage_slot (s : State) (bs : List Byte) (k : Slot) :
    ((installImage bs s).slot k) = { s.slot k with attr := imageAttr bs k } := by
  simp [installImage, State.slot]

theorem installImage_path (s : State) (bs : List Byte) (i : PathIx) :
    (installImage bs s).path i = loadPath s.now (settleCarry bs i.val).enabled i (s.path i) := by
  simp [installImage, State.path]

theorem loadPath_cases (now : Time) (b : Bool) (i : PathIx) (p : PathRec) : loadPath now b i p = p ∨
    (p.state = .idle ∧ loadPath now b i p = { p with state := .seeking, evalDeadline := some (later now (50 * i.val)) }) := by
  unfold loadPath
  split
  · rename_i h
    exact .inr ⟨by simpa using (Bool.and_eq_true_iff.mp h).2, rfl⟩
  · exact .inl rfl

theorem loadPath_keeps (now : Time) (b : Bool) (i : PathIx) (p : PathRec) :
    (loadPath now b i p).rxSlot = p.rxSlot ∧ (loadPath now b i p).selected = p.selected ∧
    (loadPath now b i p).output = p.output := by
  obtain h | ⟨-, h⟩ := loadPath_cases now b i p <;> rw [h] <;> exact ⟨rfl, rfl, rfl⟩

theorem LoadingOk.install {s : State} (bs : List Byte) : LoadingOk (installImage bs s) :=
  ⟨fun h => by simp [installImage] at h, fun h => by simp [installImage, State.unloaded] at h⟩

theorem LoadingOk.run {s : State} {l : Loader} (hst : s.station = .listen) (hl : l.reading = s.loader.reading)
    (hs : LoadingOk s) : LoadingOk { s with station := .running, loader := l } := by
  refine ⟨fun hr => ?_, fun hu => by cases hu⟩
  have := hs.1 (hl ▸ hr)
  rw [unloaded_eq_not_listening, hst] at this
  cases this

theorem LoadingOk.unread {s : State} {l : Loader} (hread : s.loader.reading = true) (hl : l.reading = false)
    (hs : LoadingOk s) : LoadingOk { s with station := .quiet, loader := l } :=
  ⟨fun hr => absurd hr (by rw [hl]; decide), fun _ => hs.2 (hs.1 hread)⟩

theorem LoadingOk.quiet {s : State} {l : Loader} (hst : s.station = .quiet) (hs : LoadingOk s) :
    LoadingOk { s with loader := l } := by
  have hu : s.unloaded = true := by rw [unloaded_eq_not_listening, hst]; rfl
  exact ⟨fun _ => hu, fun _ => hs.2 hu⟩

theorem loadingOk_acts : ActsKeep LoadingOk :=
  loadingOk_fine.acts_of_sources (fun es h hs => hs.fewer (.sources es h)) (fun _ h hs => hs.fewer (.depth h))

theorem loadingOk_coarse : CoarseKeep LoadingOk where
  acts := loadingOk_acts
  same h hs := hs.fewer h.fewer
  notify hs := loadingOk_fine.notify hs
  install bs _ _ := .install bs
  run _ hst hl hs := hs.run hst hl
  reject _ hread hl hs := hs.unread hread hl
  retry _ hst hs := hs.quiet hst

theorem loadingOk_keeps : CommandsKeep LoadingOk := loadingOk_coarse.commands fun _ => resetMeetsInvariants.2.2.2.2.2.2.1

/-! ### The guard -/

/-- Own claims clear of receive slots, with what a load relies on. -/
abbrev GuardLoaded (s : State) : Prop := GuardClear s ∧ LoadingOk s

theorem GuardLoaded.fewer {s t : State} (hs : GuardLoaded s) (h : FewerSources s t)
    (hown : ∀ k : Slot, (t.slot k).own ≠ .none → (s.slot k).own ≠ .none ∨ guarded s k = false) : GuardLoaded t :=
  ⟨GuardClear.fewer hs.1 h hown, LoadingOk.fewer hs.2 h⟩

/-- A selected slot is clear of every own claim (R83 test 7). -/
theorem GuardClear.select {s : State} {i : PathIx} {e : Source} (st : PathState) (hs : GuardClear s)
    (he : sourceEligible s i e = true) : GuardClear (selectAct i e st s) := by
  intro k j hk r hr
  rw [selectAct_slot] at hk
  rw [(Acts.selectAct s i e st).frame.params_eq]
  rcases eq_or_ne j i with rfl | hne
  · rw [selectAct_path_self] at hr
    obtain rfl : e.slot = r := by simpa [selectedRecord] using hr
    obtain ⟨-, -, -, -, -, -, -, hnear⟩ := (sourceEligible_iff s j e).mp he
    rw [withinGuard_comm]
    rw [← Bool.not_eq_true, withinGuard_iff, Nat.not_le]
    exact hnear k hk
  · rw [selectAct_path_ne s e st hne] at hr
    exact hs k j hk r hr

theorem SlotEntry.own_cleared (e : SlotEntry) : e.cleared.own = .none := rfl

theorem guardLoaded_fine : FineKeep GuardLoaded where
  benign h hs := hs.fewer h.same.toSameClaims.fewer fun k hk => .inl (h.same.toSameClaims.slot k ▸ hk)
  served h hs := hs.fewer h.fewer fun k hk => by
    obtain he | ⟨i, hi⟩ := h.slot k
    · exact .inl (he ▸ hk)
    · exact .inr hi.unguarded
  waits v hs := hs.fewer (.waits _ v) fun _ => .inl
  flags a b hs := hs.fewer (.flags _ a b) fun _ => .inl
  peers _ hs := hs.fewer (.slots _ _) fun k hk => .inl (by simpa [State.slot] using hk)
  giveUp {c k e s} _ hs := hs.fewer (.giveUp _ _ _ _) fun j hj => .inl (by
    rcases eq_or_ne j k with rfl | hne
    · rw [giveUp_slot_self] at hj
      exact absurd (SlotEntry.own_cleared _) hj
    · rwa [giveUp_slot_ne _ _ _ hne] at hj)
  collision {k s} c _ hs := hs.fewer (.slots _ _) fun j hj => .inl (by
    rcases eq_or_ne j k with rfl | hne
    · simpa using hj
    · have h := State.slot_modSlot_ne s (fun e : SlotEntry => { e with collision := c }) (k := k) hne
      exact fun hn => hj ((congrArg SlotEntry.own h).trans hn))
  select he hel _ hs := ⟨GuardClear.select _ hs.1 hel, LoadingOk.select _ hs.2 he⟩
  fail ha hs := hs.fewer (.failAct ha) fun k hk => .inl (by rwa [failAct_slot] at hk)
  lose hw hs := hs.fewer (.loseSource hw) fun k hk => .inl fun hn => hk (by
    rw [loseSource_slot]
    split
    · rfl
    · exact hn)
  expire hst hs := hs.fewer (.expireHoldover hst) fun k hk => .inl fun hn => hk (by
    rw [expireHoldover_slot]
    split
    · rfl
    · exact hn)
  acquired ha hs := hs.fewer (.acquireAct ha) fun k hk => .inl (by rwa [acquireAct_slot] at hk)
  won {k s} hown hs := hs.fewer (.won _ _) fun j hj => .inl (by
    rcases eq_or_ne j k with rfl | hne
    · rw [hown]; decide
    · rwa [claimWon_slot, State.slot_modSlot_ne _ _ _ hne] at hj)

theorem guardLoaded_coarse : CoarseKeep GuardLoaded where
  acts := guardLoaded_fine.acts_of_sources
    (fun es h hs => hs.fewer (.sources es h) fun _ => .inl)
    (fun _ h hs => hs.fewer (.depth h) fun _ => .inl)
  same h hs := hs.fewer h.fewer fun k hk => .inl (h.slot k ▸ hk)
  notify hs := guardLoaded_fine.notify hs
  install {s} bs hread hs := by
    refine ⟨fun k i _ r hr => ?_, .install bs⟩
    rw [installImage_path, (loadPath_keeps _ _ i _).1, ((hs.2.2 (hs.2.1 hread)).2 i).1] at hr
    cases hr
  run _ hst hl hs := ⟨hs.1, LoadingOk.run hst hl hs.2⟩
  reject _ hread hl hs := ⟨hs.1, LoadingOk.unread hread hl hs.2⟩
  retry _ hst hs := ⟨hs.1, LoadingOk.quiet hst hs.2⟩

theorem guardLoaded_keeps : CommandsKeep GuardLoaded :=
  guardLoaded_coarse.commands fun _ => ⟨resetMeetsInvariants.2.2.2.2.2.2.2.1, resetMeetsInvariants.2.2.2.2.2.2.1⟩

/-! ### The survey receiver before LISTEN (R55) -/

/-- The station has entered LISTEN, and reads no image. -/
abbrev Loaded (s : State) : Prop := listening s.station = true ∧ LoadingOk s

theorem SurveyHeldOk.of_listening {s : State} (h : listening s.station = true) : SurveyHeldOk s := fun hu => by
  rw [unloaded_eq_not_listening, h] at hu
  cases hu

theorem Loaded.not_reading {s : State} (h : Loaded s) : s.loader.reading ≠ true := fun hr => by
  have hu := h.2.1 hr
  rw [unloaded_eq_not_listening, h.1] at hu
  cases hu

/-- A part that has entered LISTEN leaves it by a device reset alone. -/
theorem loaded_coarse : CoarseKeep Loaded where
  acts := .and (.of_frame (fun h hs => h.station ▸ hs) (fun h hs => h.station_eq ▸ hs)) loadingOk_acts
  same h hs := ⟨h.station ▸ hs.1, loadingOk_coarse.same h hs.2⟩
  notify {s} hs := by
    have hact := (noticeWaiting_act s).trans (serveMarks_act _)
    exact ⟨by rw [hact.station_eq]; exact hs.1, loadingOk_coarse.notify hs.2⟩
  install {s} bs _ _ := by
    refine ⟨?_, .install bs⟩
    rw [installImage_station]
    rfl
  run _ hst hl hs := ⟨rfl, LoadingOk.run hst hl hs.2⟩
  reject _ hread _ hs := absurd hread hs.not_reading
  retry {s} _ hst hs := by
    have h := hs.1
    rw [hst] at h
    cases h

/-- The station state, the survey receiver and the neighbour list stand. -/
structure SurveyStands (s t : State) : Prop where
  station : t.station = s.station := by rfl
  survey : t.survey = s.survey := by rfl
  neighbours : t.neighbours = s.neighbours := by rfl

theorem SurveyHeldOk.congr {s t : State} (hs : SurveyHeldOk s) (hst : t.station = s.station)
    (hsurvey : t.survey = s.survey) : SurveyHeldOk t := by
  unfold SurveyHeldOk
  rw [unloaded_congr hst, hsurvey]
  exact hs

theorem SurveyHeldOk.stands {s t : State} (hs : SurveyHeldOk s) (h : SurveyStands s t) : SurveyHeldOk t :=
  hs.congr h.station h.survey

theorem ActFrame.surveyStands {s t : State} (h : ActFrame s t) : SurveyStands s t :=
  ⟨h.station_eq, h.survey_eq, h.neighbours_eq⟩

theorem SiteFrame.surveyStands {s t : State} (h : SiteFrame s t) : SurveyStands s t := by
  unfold SiteFrame at h
  exact ⟨by rw [h], by rw [h], by rw [h]⟩

theorem rederiveSite_stands (s : State) : SurveyStands s (rederiveSite s) := (rederiveSite_frame s).surveyStands

theorem takeTuningHead_stands (s : State) : SurveyStands s (takeTuningHead s) := by
  unfold takeTuningHead
  split
  · exact {}
  · split
    · unfold applyEntry
      split <;> exact {}
    · exact {}

theorem SurveyStands.trans {s t u : State} (h : SurveyStands s t) (g : SurveyStands t u) : SurveyStands s u :=
  ⟨g.station.trans h.station, g.survey.trans h.survey, g.neighbours.trans h.neighbours⟩

theorem SurveyStands.refl (s : State) : SurveyStands s s := {}

theorem govStand (s : State) (g : Governor) : SurveyStands s { s with gov := g } := {}

theorem linesStand (s : State) (l : SiteLines) : SurveyStands s { s with lines := l } := {}

theorem txStand (s : State) (v : Vector TxSide 12) : SurveyStands s { s with tx := v } := {}

theorem applyBackoff_stands (s : State) (cap : Nat) : SurveyStands s (applyBackoff cap s) := {}

theorem failVerdict_stands (s : State) (i : PathIx) : SurveyStands s (failVerdict i s) := by
  have hrecord : SurveyStands s (recordFail i s) := {}
  unfold failVerdict
  dsimp only
  refine hrecord.trans ?_
  generalize recordFail i s = u
  split
  · exact {}
  · split
    · exact (Acts.enterTxFault u i).frame.surveyStands
    · exact .refl u

theorem visitTimeout_stands (s : State) : SurveyStands s (visitTimeout s) := by
  unfold visitTimeout
  split
  · exact .refl s
  · split
    · exact failVerdict_stands s _
    · exact .refl s

theorem visitStart_stands (s : State) : SurveyStands s (visitStart s) := by
  unfold visitStart
  split
  · unfold chooseVisit
    split
    · exact .refl s
    · split
      · exact .refl s
      · exact {}
  · exact .refl s

theorem neighbourSweep_survey (s : State) (order : List StationId) :
    (neighbourSweep order s).station = s.station ∧ (neighbourSweep order s).survey = s.survey := by
  unfold neighbourSweep
  split
  · refine foldl_keeps (P := fun t => t.station = s.station ∧ t.survey = s.survey) (fun t r ht => ?_) _ ⟨rfl, rfl⟩
    unfold sweepStep
    split
    · have hact := (massRelease_act (dropNeighbour r.station t) (sweepOrder order r.station) r.station).surveyStands
      exact ⟨hact.station.trans ht.1, hact.survey.trans ht.2⟩
    · exact ht
  · exact ⟨rfl, rfl⟩

theorem sourceSweep_stands (s : State) : SurveyStands s (sourceSweep s) := by
  unfold sourceSweep
  split
  · exact (removeSources_act s _).surveyStands
  · exact .refl s

theorem frameStartAmong_stands (s : State) (ahead : PathIx → Bool) : SurveyStands s (frameStartAmong ahead s) := by
  unfold frameStartAmong
  split
  · have hb (b : Builder) : SurveyStands s { s with builder := b } := {}
    refine forPaths_keeps (P := SurveyStands s) (fun i t ht => ?_) (hb _)
    split
    · exact ht
    · exact ht.trans {}
  · exact .refl s

theorem tuningEntryApplied_stands (s : State) : SurveyStands s (tuningEntryApplied s) := by
  unfold tuningEntryApplied
  split
  · have hdue : SurveyStands s { s with timing := { s.timing with tuningDue := false } } := {}
    exact (hdue.trans (takeTuningHead_stands _)).trans (takeCancels_act _).surveyStands
  · exact .refl s

theorem peerClaimExpiry_act (s : State) : ActFrame s (peerClaimExpiry s) := by
  unfold peerClaimExpiry
  exact (peerEvent_act s _ _).trans (serveMarks_act _)

/-- A part that has not entered LISTEN does not run. -/
theorem not_listen {s : State} (hl : listening s.station = false) : s.station ≠ .listen := by
  rintro h
  rw [h] at hl
  cases hl

theorem loadEnd_surveyHeld {s : State} (hload : LoadingOk s) (hs : SurveyHeldOk s) : SurveyHeldOk (loadEnd s) := by
  unfold loadEnd
  split
  · rename_i hc
    have hread := (Bool.and_eq_true_iff.mp hc).1
    split
    · have hin : Loaded (installImage s.loader.image s) := ⟨by rw [installImage_station]; rfl, .install _⟩
      have hup := loaded_coarse.same (Same.alarmUpdate _).toSameClaims (loaded_coarse.steps.rederiveSite hin)
      unfold acceptImage
      dsimp only
      split
      · exact .of_listening (loaded_coarse.steps.endOfListening hup).1
      · exact .of_listening hup.1
    · unfold rejectImage
      have hquiet (l : Loader) : SurveyHeldOk { s with station := .quiet, loader := l } := fun _ => hs (hload.1 hread)
      exact ((hquiet _).stands (rederiveSite_stands _)).stands {}
  · exact hs

theorem framerOutcome_surveyHeld (ix : FramerIx) (order : OutcomeOrder) {s : State} (hl : listening s.station = false)
    (hs : SurveyHeldOk s) : SurveyHeldOk (framerOutcome ix order s) := by
  unfold framerOutcome
  split
  · exact hs
  · rename_i o ho
    have hu : s.unloaded = true := by rw [unloaded_eq_not_listening, hl]; rfl
    simp only [reportOutcome, hl, Bool.false_eq_true, if_false]
    cases ix with
    | path i => exact hs.stands {}
    | survey =>
      obtain ⟨-, -, -, -, -, hout, -⟩ := hs hu
      exact absurd (hout.symm.trans ho) (by simp)
    | monitor => exact hs.stands {}

/-- Every step of a boundary before the station has entered LISTEN leaves the survey receiver as it is, or the station enters
LISTEN. -/
theorem takeStep_surveyHeld (ahead : PathIx → Bool) (b : BoundaryStep) {s : State} (hl : listening s.station = false)
    (hload : LoadingOk s) (hs : SurveyHeldOk s) : SurveyHeldOk (takeStep ahead b s) := by
  have hdwell : s.survey.dwell = none := by
    obtain ⟨-, -, -, -, -, -, hd, -⟩ := hs (by rw [unloaded_eq_not_listening, hl]; rfl)
    exact hd
  cases b
  case loadEnd => exact loadEnd_surveyHeld hload hs
  case configRetry => exact hs.stands (by simp only [takeStep, configRetry]; split <;> exact {})
  case endOfListening => simpa [takeStep, endOfListening, not_listen hl] using hs
  case tuningEntryApplied => exact hs.stands (tuningEntryApplied_stands s)
  case framerOutcome ix order => exact framerOutcome_surveyHeld ix order hl hs
  case frameStart => exact hs.stands (frameStartAmong_stands s ahead)
  case neighbourSweep order =>
    obtain ⟨hst, hsurvey⟩ := neighbourSweep_survey s order
    exact hs.congr hst hsurvey
  case sourceSweep => exact hs.stands (sourceSweep_stands s)
  case peerClaimExpiry => exact hs.stands (peerClaimExpiry_act s).surveyStands
  case holdOffEnd k => exact hs.stands (Acts.holdOffEnd s k).frame.surveyStands
  case collisionExpiry k => exact hs.stands (Acts.collisionExpiry s k).frame.surveyStands
  case claimRetryDeadline i => exact hs.stands (Acts.claimRetryDeadline s i).frame.surveyStands
  case pathEvaluation i => simpa [takeStep, pathEvaluation, evaluationDue, hl] using hs
  case acquireTimeout i => exact hs.stands (Acts.acquireTimeout s i).frame.surveyStands
  case carrierCheckFail i => exact hs.stands (Acts.carrierCheckFail s i).frame.surveyStands
  case lowCarrierLoss i => exact hs.stands (Acts.lowCarrierLoss s i).frame.surveyStands
  case tagLoss i => exact hs.stands (Acts.tagLoss s i).frame.surveyStands
  case holdoverExpired i => exact hs.stands (Acts.holdoverExpired s i).frame.surveyStands
  case txpermitChange level =>
    simp only [takeStep, txpermitChange]
    split
    · exact hs
    · exact hs.stands ((linesStand s _).trans (rederiveSite_stands _))
  case muteEnd =>
    simp only [takeStep, muteEnd]
    split
    · exact hs.stands ((govStand s _).trans (rederiveSite_stands _))
    · exact hs
  case lockoutEnd =>
    simp only [takeStep, lockoutEnd]
    split
    · exact hs.stands ((govStand s _).trans (rederiveSite_stands _))
    · exact hs
  case faultHistoryExpiry => exact hs.stands {}
  case graceDeadline =>
    simp only [takeStep, graceDeadline]
    split
    · exact hs.stands ((govStand s _).trans (silentReleaseAll_act _).surveyStands)
    · exact hs
  case txRestored i => exact hs.stands (Acts.txRestored s i).frame.surveyStands
  case keyHoldExpiry => exact hs.stands (by simp only [takeStep, keyHoldExpiry]; split <;> exact {})
  case inhibitAlarm => exact hs.stands (by simp only [takeStep, inhibitAlarm]; split <;> exact {})
  case failureLogExpiry => exact hs.stands {}
  case visitStart => exact hs.stands (visitStart_stands s)
  case visitTimeout => exact hs.stands (visitTimeout_stands s)
  case dwellStart => simpa [takeStep, dwellStart, hl] using hs
  case dwellCheckClose => simpa [takeStep, dwellCheckClose, hdwell] using hs
  case dwellDeadline => simpa [takeStep, dwellDeadline, hdwell] using hs
  case statusRecord => exact hs.stands (by simp only [takeStep, statusRecord]; split <;> exact {})

theorem takeClipCount_stands (s : State) (n : Nat) : SurveyStands s (takeClipCount n s) := by
  unfold takeClipCount
  split
  · exact ((govStand s _).trans (rederiveSite_stands _)).trans (txStand _ _)
  · exact .refl s

theorem shedLoop_stands (n : Nat) (s : State) : SurveyStands s (shedLoop n s) := by
  induction n generalizing s with
  | zero => exact .refl s
  | succ n ih =>
    unfold shedLoop
    split
    · split
      · exact .refl s
      · exact (Acts.shedOne s _).frame.surveyStands.trans (ih _)
    · exact .refl s

theorem restoreTest_stands (s : State) : SurveyStands s (restoreTest s) := by
  unfold restoreTest
  split
  · exact {}
  · split
    · split <;> exact {}
    · exact {}

theorem compositeEvaluation_stands (s : State) : SurveyStands s (compositeEvaluation s) :=
  ((SurveyStands.trans {} (shedLoop_stands 12 (clearShedFlags s))).trans (restoreTest_stands _)).trans {}

theorem restore_stands (s : State) : SurveyStands s (restore s) := by
  obtain h | ⟨i, -, -, h⟩ := restore_cases s <;> rw [h]
  · exact .refl s
  · have hgov (u : State) : SurveyStands u { u with gov := { u.gov with restoreCandidate := none, restoreCount := 0 } } :=
      {}
    exact ((((modPath_act s i _).trans (recordEvent_act _ i .restored)).surveyStands.trans (hgov _)).trans
      (Acts.refreshPath _ i).frame.surveyStands).trans (applyBackoff_stands _ _)

theorem levelPath_stands (s : State) (reports : Vector (Option Nat) 12) (i : PathIx) :
    SurveyStands s (levelPath reports i s) := by
  unfold levelPath
  split
  · split <;> exact {}
  · exact .refl s

/-- A block that ends before LISTEN leaves the survey receive side at its reset values but for its accumulator (R55). -/
theorem openBoundary_surveyHeld {s : State} (hs : SurveyHeldOk s) : SurveyHeldOk (openBoundary s) := by
  intro hu
  have hu' : s.unloaded = true := hu
  obtain ⟨hword, hwarm, hlatest, hstate, hrun, hout, hdwell, hscan, hreq⟩ := hs hu'
  have hl : listening s.station = false := by simpa [unloaded_eq_not_listening] using hu'
  have hsurvey : (openBoundary s).survey = { s.survey with
      rx := closeSurvey s.station s.survey.rx
      dwell := s.survey.dwell.map (Dwell.takeReport s.params s.survey.rx.report) } := rfl
  rw [hsurvey]
  refine ⟨?_, ?_, ?_, hstate, hrun, hout, by simp [hdwell], hscan, hreq⟩
  · rw [closeSurvey_eq]; exact hword
  · rw [closeSurvey_warmUp, hl]; rfl
  · rw [closeSurvey_eq]
    simp [RxSide.close, RxSide.report, hwarm, hlatest]

theorem takeSample_keeps (ends : Bool) (x : IQ) (r : RxSide) : (r.takeSample ends x).word = r.word ∧
    (r.takeSample ends x).warmUp = r.warmUp ∧ (r.takeSample ends x).latest = r.latest := by
  unfold RxSide.takeSample RxSide.measure RxSide.advance
  split
  · split <;> exact ⟨rfl, rfl, rfl⟩
  · exact ⟨rfl, rfl, rfl⟩

theorem bandInputSample_surveyHeld (x : IQ) (chans : Vector IQ 12) (y : IQ) {s : State} (hs : SurveyHeldOk s) :
    SurveyHeldOk (bandInputSample x chans y s) := by
  intro hu
  obtain ⟨hword, hwarm, hlatest, hrest⟩ := hs hu
  obtain ⟨h1, h2, h3⟩ := takeSample_keeps (endsChannelSample s.band.alignment) y s.survey.rx
  exact ⟨h1.trans hword, h2.trans hwarm, h3.trans hlatest, hrest⟩

/-- On an idle line a framer in HUNT stays there. -/
theorem feedFramer_surveyHeld (ix : FramerIx) (tone : Tone) {s : State} (hs : SurveyHeldOk s) :
    SurveyHeldOk (feedFramer ix tone s) := by
  cases ix with
  | path i => exact hs.stands {}
  | monitor => exact hs.stands {}
  | survey =>
    intro hu
    obtain ⟨hword, hwarm, hlatest, hstate, hrun, hout, hrest⟩ := hs hu
    have hfed : (feedFramer .survey tone s).survey = { s.survey with
        framer := { s.survey.framer with spaceRun := 0 } } := by
      simp [feedFramer, State.modFramer, State.rxOf, hwarm, presentedTone, Framer.sample, hstate, nextRun]
    rw [hfed]
    exact ⟨hword, hwarm, hlatest, hstate, rfl, hout, hrest⟩

theorem restFramer_surveyHeld (ix : FramerIx) (st : FramerState) {s : State} (hs : SurveyHeldOk s)
    (hdue : (s.framer ix).breakDue = true ∨ (s.framer ix).leadDue = true ∨ (s.framer ix).gapDue = true) :
    SurveyHeldOk (s.modFramer ix (Framer.rest st)) := by
  cases ix with
  | path i => exact hs.stands {}
  | monitor => exact hs.stands {}
  | survey =>
    intro hu
    obtain ⟨-, -, -, hstate, hrun, -⟩ := hs hu
    simp [State.framer, Framer.breakDue, Framer.leadDue, Framer.gapDue, hstate, hrun, breakRun] at hdue

theorem surveyHeld_keeps : CommandsKeep fun s => SurveyHeldOk s ∧ LoadingOk s where
  pending q s hs := ⟨hs.1.stands {}, loadingOk_keeps.pending q s hs.2⟩
  reset s hs := ⟨resetMeetsInvariants.2.2.2.2.2.2.2.2.2.1, loadingOk_keeps.reset s hs.2⟩
  opening s hs := ⟨openBoundary_surveyHeld hs.1, loadingOk_keeps.opening s hs.2⟩
  level r i s hs := ⟨hs.1.stands (levelPath_stands s r i), loadingOk_keeps.level r i s hs.2⟩
  clips n s hs := ⟨hs.1.stands (takeClipCount_stands s n), loadingOk_keeps.clips n s hs.2⟩
  evaluation s hs := ⟨hs.1.stands (compositeEvaluation_stands s), loadingOk_keeps.evaluation s hs.2⟩
  restore s hs := ⟨hs.1.stands (restore_stands s), loadingOk_keeps.restore s hs.2⟩
  bit i s hs := ⟨hs.1.stands {}, loadingOk_keeps.bit i s hs.2⟩
  takeStep ahead b s hs := by
    refine ⟨?_, loadingOk_keeps.takeStep ahead b s hs.2⟩
    cases hl : listening s.station
    · exact takeStep_surveyHeld ahead b hl hs.2 hs.1
    · exact .of_listening (loaded_coarse.steps.takeStep ahead b ⟨hl, hs.2⟩).1
  framer ix st s hdue hs := ⟨restFramer_surveyHeld ix st hs.1 hdue, loadingOk_keeps.framer ix st s hdue hs.2⟩
  feed ix tone s hs := ⟨feedFramer_surveyHeld ix tone hs.1, loadingOk_keeps.feed ix tone s hs.2⟩
  band x chans y s hs := ⟨bandInputSample_surveyHeld x chans y hs.1, loadingOk_keeps.band x chans y s hs.2⟩
  coupler x y s hs := ⟨hs.1.stands {}, loadingOk_keeps.coupler x y s hs.2⟩
  composite sides s hs := ⟨hs.1.stands {}, loadingOk_keeps.composite sides s hs.2⟩
  byteRead b s hs := ⟨hs.1.stands (by unfold configByteRead; split <;> exact {}),
    loadingOk_keeps.byteRead b s hs.2⟩
  bitSent s hs := ⟨hs.1.stands (by unfold statusBitSent; split <;> exact {}), loadingOk_keeps.bitSent s hs.2⟩

end Sys2Proof.Machine

namespace Sys2Proof

open Machine

/-- Settles O59: the guard with what a load relies on is kept by every command, and so is the survey receiver before LISTEN. -/
theorem guardStaysClear : Obligations.GuardStaysClear :=
  ⟨fun _ _ hg hl hst => guardLoaded_keeps.step ⟨hg, hl⟩ hst,
    fun _ _ hs hl hst => (surveyHeld_keeps.step ⟨hs, hl⟩ hst).1⟩

end Sys2Proof
end
section
/-! PROOFS. What every step keeps of the agreement of own claims with path records, and of the freed marks (O58). -/

namespace Sys2Proof.Machine

open Sys2Proof

/-! ### When a path's slot fits its state -/

theorem outputFits_iff (s : State) (i : PathIx) : outputFits s i = true ↔
    ((s.path i).output = none ∧ ((s.path i).state = .idle ∨ (s.path i).state = .seeking ∨ (s.path i).state = .acquiring ∨
      (s.path i).state = .waitSlot)) ∨
    ∃ k, (s.path i).output = some k ∧ (((s.path i).state = .claiming ∧ (s.slot k).own = .intent) ∨
      (((s.path i).state = .on ∨ (s.path i).state = .switching ∨ (s.path i).state = .holdover) ∧
        (s.slot k).own = .held)) := by
  unfold outputFits
  cases hst : (s.path i).state <;> cases hout : (s.path i).output <;> simp

theorem outputFits_congr {s t : State} {i : PathIx} (hst : (t.path i).state = (s.path i).state)
    (hout : (t.path i).output = (s.path i).output)
    (hown : ∀ k, (s.path i).output = some k → (t.slot k).own = (s.slot k).own) (hs : outputFits s i = true) :
    outputFits t i = true := by
  rw [outputFits_iff] at hs ⊢
  rw [hst, hout]
  obtain hs | ⟨k, hk, hfit⟩ := hs
  · exact .inl hs
  · exact .inr ⟨k, hk, by rw [hown k hk]; exact hfit⟩

/-- The fields of an own claim, without its collision timing. -/
abbrev SameClaim (e f : SlotEntry) : Prop :=
  f.own = e.own ∧ f.ownPath = e.ownPath ∧ f.ownPinned = e.ownPinned ∧ f.ownDeadline = e.ownDeadline

theorem EntryOk.cleared (e : SlotEntry) : EntryOk e.cleared := by
  simp [EntryOk, SlotEntry.cleared]

namespace ClaimsOk

variable {s t : State}

theorem entry (hs : ClaimsOk s) (k : Slot) : EntryOk (s.slot k) := hs.1 k

theorem owner_iff (hs : ClaimsOk s) {k : Slot} {i : PathIx} : (s.slot k).ownPath = some i ↔ (s.path i).output = some k :=
  hs.2.1 k i

theorem fits (hs : ClaimsOk s) (i : PathIx) : outputFits s i = true := hs.2.2 i

/-- Own claims stand but for their collision timing, and every path keeps its output slot. -/
theorem congr (hs : ClaimsOk s) (hslot : ∀ k, SameClaim (s.slot k) (t.slot k))
    (hcol : ∀ k, (t.slot k).collision = (s.slot k).collision ∨ EntryOk (t.slot k))
    (hout : ∀ i : PathIx, (t.path i).output = (s.path i).output)
    (hfit : ∀ i : PathIx, (t.path i).state = (s.path i).state ∨ outputFits t i = true) : ClaimsOk t := by
  refine ⟨fun k => ?_, fun k i => ?_, fun i => ?_⟩
  · obtain ⟨hown, hpath, hpin, hdead⟩ := hslot k
    obtain hc | hc := hcol k
    · have := hs.entry k
      unfold EntryOk at *
      rwa [hown, hpath, hpin, hdead, hc]
    · exact hc
  · rw [(hslot k).2.1, hout]
    exact hs.owner_iff
  · obtain hst | hf := hfit i
    · exact outputFits_congr hst (hout i) (fun k _ => (hslot k).1) (hs.fits i)
    · exact hf

/-- Path i has given up its slot, which names it no more. -/
theorem release (hs : ClaimsOk s) {i : PathIx} (hmine : ∀ k, (s.slot k).ownPath = some i → t.slot k = (s.slot k).cleared)
    (hothers : ∀ k, (s.slot k).ownPath ≠ some i → t.slot k = s.slot k)
    (hpath : ∀ j, j ≠ i → (t.path j).output = (s.path j).output ∧ (t.path j).state = (s.path j).state)
    (hout : (t.path i).output = none)
    (hst : (t.path i).state = .idle ∨ (t.path i).state = .seeking ∨ (t.path i).state = .acquiring ∨
      (t.path i).state = .waitSlot) : ClaimsOk t := by
  refine ⟨fun k => ?_, fun k j => ?_, fun j => ?_⟩
  · by_cases hk : (s.slot k).ownPath = some i
    · rw [hmine k hk]; exact EntryOk.cleared _
    · rw [hothers k hk]; exact hs.entry k
  · rcases eq_or_ne j i with rfl | hne
    · rw [hout]
      by_cases hk : (s.slot k).ownPath = some j
      · rw [hmine k hk]; simp [SlotEntry.cleared]
      · rw [hothers k hk]; simp [hk]
    · rw [(hpath j hne).1, ← hs.owner_iff]
      by_cases hk : (s.slot k).ownPath = some i
      · rw [hmine k hk, hk]; simp [SlotEntry.cleared, Ne.symm hne]
      · rw [hothers k hk]
  · rcases eq_or_ne j i with rfl | hne
    · exact (outputFits_iff t j).mpr (.inl ⟨hout, hst⟩)
    · refine outputFits_congr (hpath j hne).2 (hpath j hne).1 (fun k hk => ?_) (hs.fits j)
      rw [hothers k]
      rw [hs.owner_iff.mpr hk]
      simpa using hne

/-- A path that holds no slot in its state names none. -/
theorem output_eq_none (hs : ClaimsOk s) {i : PathIx} (hst : (s.path i).state ≠ .claiming ∧ (s.path i).state ≠ .on ∧
    (s.path i).state ≠ .switching ∧ (s.path i).state ≠ .holdover) : (s.path i).output = none := by
  obtain ⟨h, -⟩ | ⟨k, -, ⟨h, -⟩ | ⟨h | h | h, -⟩⟩ := (outputFits_iff s i).mp (hs.fits i)
  · exact h
  · exact absurd h hst.1
  · exact absurd h hst.2.1
  · exact absurd h hst.2.2.1
  · exact absurd h hst.2.2.2

theorem held_of (hs : ClaimsOk s) {i : PathIx} (hst : (s.path i).state = .on ∨ (s.path i).state = .switching ∨
    (s.path i).state = .holdover) : ∃ k, (s.path i).output = some k ∧ (s.slot k).own = .held := by
  obtain ⟨-, h⟩ | ⟨k, hk, ⟨h, -⟩ | ⟨-, h⟩⟩ := (outputFits_iff s i).mp (hs.fits i)
  · rcases hst with e | e | e <;> rw [e] at h <;> simp at h
  · rcases hst with e | e | e <;> rw [e] at h <;> simp at h
  · exact ⟨k, hk, h⟩

theorem own_ne_none_of_owner (hs : ClaimsOk s) {k : Slot} {i : PathIx} (h : (s.slot k).ownPath = some i) :
    (s.slot k).own ≠ .none := fun hn => by
  rw [(hs.entry k).1.mp hn] at h
  cases h

theorem owner_of_own (hs : ClaimsOk s) {k : Slot} (h : (s.slot k).own ≠ .none) : ∃ i, (s.slot k).ownPath = some i := by
  cases hp : (s.slot k).ownPath with
  | none => exact absurd ((hs.entry k).1.mpr hp) h
  | some i => exact ⟨i, rfl⟩

end ClaimsOk

/-! ### Every act keeps the agreement -/

theorem ClaimsOk.same {s t : State} (hs : ClaimsOk s) (h : SameClaims s t) : ClaimsOk t :=
  hs.congr (fun k => by rw [h.slot]; exact ⟨rfl, rfl, rfl, rfl⟩) (fun k => .inl (by rw [h.slot]))
    (fun i => (h.path i).2.1) (fun i => .inl (h.path i).1)

theorem Claimed.entryOk {s t : State} {i : PathIx} {k : Slot} (h : Claimed s t i k) : EntryOk (t.slot k) := by
  obtain ⟨-, hk, -⟩ | ⟨-, -, -, hk, -⟩ := h.taken <;> rw [hk] <;>
    simp [EntryOk, SlotEntry.intended, SlotEntry.pinnedFor]

theorem Claimed.fits {s t : State} {i : PathIx} {k : Slot} (h : Claimed s t i k) : outputFits t i = true := by
  rw [outputFits_iff]
  refine .inr ⟨k, h.output_eq, ?_⟩
  obtain ⟨-, hk, hi⟩ | ⟨-, -, -, hk, hi⟩ := h.taken <;> rw [hk, hi]
  · exact .inl ⟨rfl, rfl⟩
  · exact .inr ⟨.inl rfl, rfl⟩

theorem ClaimsOk.served {s t : State} (hs : ClaimsOk s) (h : Served s t) : ClaimsOk t := by
  refine ⟨fun k => ?_, fun k i => ?_, fun i => ?_⟩
  · obtain hk | ⟨i, hi⟩ := h.slot k
    · rw [hk]; exact hs.entry k
    · exact hi.entryOk
  · constructor
    · intro hk
      obtain he | ⟨j, hj⟩ := h.slot k
      · rw [he] at hk
        have hout := hs.owner_iff.mp hk
        obtain hi | ⟨k', hi⟩ := h.path i
        · rw [hi]; exact hout
        · rw [hs.output_eq_none (by rw [hi.waited]; decide)] at hout
          cases hout
      · obtain rfl : j = i := by simpa [hj.ownPath_eq] using hk
        exact hj.output_eq
    · intro hk
      obtain hi | ⟨k', hi⟩ := h.path i
      · rw [hi] at hk
        have hown := hs.owner_iff.mpr hk
        rw [h.slot_eq (hs.own_ne_none_of_owner hown)]
        exact hown
      · obtain rfl : k' = k := by simpa [hi.output_eq] using hk
        exact hi.ownPath_eq
  · obtain hi | ⟨k, hi⟩ := h.path i
    · refine outputFits_congr (by rw [hi]) (by rw [hi]) (fun k hk => ?_) (hs.fits i)
      rw [h.slot_eq (hs.own_ne_none_of_owner (hs.owner_iff.mpr hk))]
    · exact hi.fits

/-- The states in which a lost slot leaves a path that held one. -/
theorem slotLostState_of_held {st : PathState} (h : st = .claiming ∨ st = .on ∨ st = .switching ∨ st = .holdover) :
    slotLostState st = .idle ∨ slotLostState st = .seeking ∨ slotLostState st = .acquiring ∨
      slotLostState st = .waitSlot := by
  rcases h with rfl | rfl | rfl | rfl <;> simp [slotLostState]

theorem ClaimsOk.state_of_output {s : State} (hs : ClaimsOk s) {i : PathIx} {k : Slot} (h : (s.path i).output = some k) :
    (s.path i).state = .claiming ∨ (s.path i).state = .on ∨ (s.path i).state = .switching ∨
      (s.path i).state = .holdover := by
  obtain ⟨hn, -⟩ | ⟨_, -, ⟨h, -⟩ | ⟨h, -⟩⟩ := (outputFits_iff s i).mp (hs.fits i)
  · rw [h] at hn; cases hn
  · exact .inl h
  · exact .inr h

theorem ClaimsOk.giveUp {s : State} (hs : ClaimsOk s) (c : Nat) {k : Slot} (e : PathEvent)
    (hk : (s.slot k).own ≠ .none) : ClaimsOk (giveUp c k e s) := by
  obtain ⟨i, hi⟩ := hs.owner_of_own hk
  have hout := hs.owner_iff.mp hi
  have hself := giveUp_path_self hi c e
  rw [slotLost_path_self] at hself
  refine hs.release (i := i) (fun j hj => ?_) (fun j hj => ?_) (fun j hj => ?_) (by rw [hself])
    (by rw [hself]; exact slotLostState_of_held (hs.state_of_output hout))
  · obtain rfl : k = j := by simpa [hout] using hs.owner_iff.mp hj
    exact giveUp_slot_self s c k e
  · exact giveUp_slot_ne s c e (by rintro rfl; exact hj hi)
  · rw [giveUp_path_ne (by rw [hi]; simpa using Ne.symm hj)]
    exact ⟨rfl, rfl⟩

/-- Own claims stand and path i, which keeps its output slot, goes to a state that fits it. -/
theorem ClaimsOk.path {s t : State} (hs : ClaimsOk s) {i : PathIx} (hslot : ∀ k, t.slot k = s.slot k)
    (hpath : ∀ j, j ≠ i → t.path j = s.path j) (hout : (t.path i).output = (s.path i).output)
    (hfit : ((t.path i).output = none ∧ ((t.path i).state = .idle ∨ (t.path i).state = .seeking ∨
      (t.path i).state = .acquiring ∨ (t.path i).state = .waitSlot)) ∨
      ∃ k, (s.path i).output = some k ∧ (s.slot k).own = .held ∧ ((t.path i).state = .on ∨ (t.path i).state = .switching ∨
        (t.path i).state = .holdover)) : ClaimsOk t := by
  refine hs.congr (fun k => by rw [hslot]; exact ⟨rfl, rfl, rfl, rfl⟩) (fun k => .inl (by rw [hslot])) (fun j => ?_)
    (fun j => ?_)
  · rcases eq_or_ne j i with rfl | hne
    · exact hout
    · rw [hpath j hne]
  · rcases eq_or_ne j i with rfl | hne
    · refine .inr ((outputFits_iff t j).mpr ?_)
      obtain h | ⟨k, hk, hheld, hst⟩ := hfit
      · exact .inl h
      · exact .inr ⟨k, hout.trans hk, .inr ⟨hst, by rw [hslot]; exact hheld⟩⟩
    · exact .inl (by rw [hpath j hne])

theorem ClaimsOk.select {s : State} (hs : ClaimsOk s) {i : PathIx} {e : Source} {st : PathState}
    (hst : ((s.path i).state = .seeking ∧ st = .acquiring) ∨
      (((s.path i).state = .holdover ∨ (s.path i).state = .on) ∧ st = .switching)) : ClaimsOk (selectAct i e st s) := by
  have hself := selectAct_path_self s i e st
  refine hs.path (selectAct_slot s i e st) (fun j hne => selectAct_path_ne s e st hne) (by rw [hself]; rfl) ?_
  rw [hself]
  obtain ⟨hold, rfl⟩ | ⟨hold, rfl⟩ := hst
  · exact .inl ⟨hs.output_eq_none (by rw [hold]; decide), .inr (.inr (.inl rfl))⟩
  · obtain ⟨k, hk, hheld⟩ := hs.held_of (i := i) (by tauto)
    exact .inr ⟨k, hk, hheld, .inr (.inl rfl)⟩

theorem acquiring_iff (st : PathState) : acquiring st = true ↔ st = .acquiring ∨ st = .switching := by
  simp [acquiring]

theorem watching_iff (st : PathState) : watching st = true ↔ st = .waitSlot ∨ st = .claiming ∨ st = .on := by
  simp [watching, or_assoc]

theorem ClaimsOk.fail {s : State} (hs : ClaimsOk s) {i : PathIx} (ha : acquiring (s.path i).state = true) :
    ClaimsOk (failAct i s) := by
  have hself := failAct_path_self ha
  refine hs.path (failAct_slot s i) (fun j hne => failAct_path_ne s hne) (by rw [hself]; rfl) ?_
  rw [hself]
  obtain hst | hst := (acquiring_iff _).mp ha
  · exact .inl ⟨hs.output_eq_none (by rw [hst]; decide), .inr (.inl (by rw [hst]; rfl))⟩
  · obtain ⟨k, hk, hheld⟩ := hs.held_of (i := i) (.inr (.inl hst))
    exact .inr ⟨k, hk, hheld, .inr (.inr (by rw [hst]; rfl))⟩

theorem ClaimsOk.acquired {s : State} (hs : ClaimsOk s) {i : PathIx} (ha : acquiring (s.path i).state = true) :
    ClaimsOk (acquireAct i s) := by
  have hself := acquireAct_path_self (s := s) (i := i) (by rintro h; simp [h, acquiring] at ha)
  refine hs.path (acquireAct_slot s i) (fun j hne => acquireAct_path_ne s hne) (by rw [hself]; rfl) ?_
  rw [hself]
  obtain hst | hst := (acquiring_iff _).mp ha
  · exact .inl ⟨hs.output_eq_none (by rw [hst]; decide), .inr (.inr (.inr (by simp [hst])))⟩
  · obtain ⟨k, hk, hheld⟩ := hs.held_of (i := i) (.inr (.inl hst))
    exact .inr ⟨k, hk, hheld, .inl (by simp [hst])⟩

theorem ClaimsOk.lose {s : State} (hs : ClaimsOk s) {i : PathIx} (hw : watching (s.path i).state = true) :
    ClaimsOk (loseSource i s) := by
  have hself := loseSource_path_self hw
  obtain hst | hst | hst := (watching_iff _).mp hw
  · refine hs.path (fun k => by rw [loseSource_slot]; simp [hst]) (fun j hne => loseSource_path_ne s hne)
      (by rw [hself]; simp [hst]) ?_
    rw [hself]
    exact .inl ⟨by simp [hst, hs.output_eq_none (i := i) (by rw [hst]; decide)],
      .inr (.inl (by simp [lostState, hst]))⟩
  · refine hs.release (i := i) (fun k hk => by rw [loseSource_slot]; simp [hst, hk])
      (fun k hk => by rw [loseSource_slot]; simp [hk]) (fun j hne => by rw [loseSource_path_ne s hne]; exact ⟨rfl, rfl⟩)
      (by rw [hself]; simp [hst]) (by rw [hself]; exact .inr (.inl (by simp [lostState, hst])))
  · refine hs.path (fun k => by rw [loseSource_slot]; simp [hst]) (fun j hne => loseSource_path_ne s hne)
      (by rw [hself]; simp [hst]) ?_
    rw [hself]
    obtain ⟨k, hk, hheld⟩ := hs.held_of (i := i) (.inl hst)
    exact .inr ⟨k, hk, hheld, .inr (.inr (by simp [lostState, hst]))⟩

theorem ClaimsOk.expire {s : State} (hs : ClaimsOk s) {i : PathIx}
    (hst : (s.path i).state = .holdover ∨ (s.path i).state = .switching) : ClaimsOk (expireHoldover i s) := by
  have hself := expireHoldover_path_self (s := s) (i := i) (by rcases hst with h | h <;> simp [h])
  refine hs.release (i := i) (fun k hk => by rw [expireHoldover_slot]; simp [hk])
    (fun k hk => by rw [expireHoldover_slot]; simp [hk])
    (fun j hne => by rw [expireHoldover_path_ne s hne]; exact ⟨rfl, rfl⟩) (by rw [hself]) ?_
  rw [hself]
  rcases hst with h | h <;> simp [expiredState, h]

/-- The path of an INTENT is CLAIMING. -/
theorem ClaimsOk.claiming_of_intent {s : State} (hs : ClaimsOk s) {k : Slot} (hk : (s.slot k).own = .intent) :
    ∃ i, (s.slot k).ownPath = some i ∧ (s.path i).output = some k ∧ (s.path i).state = .claiming := by
  obtain ⟨i, hi⟩ := hs.owner_of_own (by rw [hk]; decide)
  have hout := hs.owner_iff.mp hi
  refine ⟨i, hi, hout, ?_⟩
  obtain ⟨hn, -⟩ | ⟨k', hk', ⟨h, -⟩ | ⟨-, h⟩⟩ := (outputFits_iff s i).mp (hs.fits i)
  · rw [hout] at hn; cases hn
  · exact h
  · obtain rfl : k = k' := by simpa [hout] using hk'
    rw [hk] at h; cases h

theorem ClaimsOk.won {s : State} (hs : ClaimsOk s) {k : Slot} (hk : (s.slot k).own = .intent) :
    ClaimsOk (claimWon k (s.modSlot k SlotEntry.wonHeld)) := by
  obtain ⟨i, hi, hout, hst⟩ := hs.claiming_of_intent hk
  obtain ⟨hpath, hdead, hpin, hcol⟩ := hs.entry k
  have hself : (claimWon k (s.modSlot k SlotEntry.wonHeld)).path i = (s.path i).won s.gov.site :=
    claimWon_path_self (by simpa using hi) hst
  have hne (j) (hj : j ≠ i) : (claimWon k (s.modSlot k SlotEntry.wonHeld)).path j = s.path j :=
    claimWon_path_ne (.inl (by simpa [hi] using Ne.symm hj))
  have hslot (j) (hj : j ≠ k) : (claimWon k (s.modSlot k SlotEntry.wonHeld)).slot j = s.slot j := by
    rw [claimWon_slot, State.slot_modSlot_ne _ _ _ hj]
  have hslotk : (claimWon k (s.modSlot k SlotEntry.wonHeld)).slot k = (s.slot k).wonHeld := by simp
  refine ⟨fun j => ?_, fun j p => ?_, fun p => ?_⟩
  · rcases eq_or_ne j k with rfl | hj
    · rw [hslotk]
      have hstill : (s.slot j).collision.isSome = false := by
        rw [← Bool.not_eq_true]
        intro hc
        obtain ⟨h, -⟩ := hcol hc
        rw [hk] at h; cases h
      simp [EntryOk, hi, hstill]
    · rw [hslot j hj]; exact hs.entry j
  · have hown : ((claimWon k (s.modSlot k SlotEntry.wonHeld)).slot j).ownPath = (s.slot j).ownPath := by
      rcases eq_or_ne j k with rfl | hj
      · rw [hslotk]
      · rw [hslot j hj]
    rw [hown, (claimWon_path_keeps _ k p).2.2]
    exact hs.owner_iff
  · rcases eq_or_ne p i with rfl | hp
    · rw [outputFits_iff, hself]
      exact .inr ⟨k, hout, .inr ⟨.inl rfl, by rw [hslotk]⟩⟩
    · refine outputFits_congr (by rw [hne p hp]) (by rw [hne p hp]) (fun j hj => ?_) (hs.fits p)
      rw [hslot j]
      rintro rfl
      exact hp (by simpa [hi] using (hs.owner_iff.mpr hj).symm)

theorem ClaimsOk.collision {s : State} (hs : ClaimsOk s) {k : Slot} {c : Option Time}
    (hc : c.isSome = true → (s.slot k).own = .held ∧ (s.slot k).ownPinned = false) :
    ClaimsOk (s.modSlot k fun e => { e with collision := c }) := by
  have hself : (s.modSlot k fun e => { e with collision := c }).slot k = { s.slot k with collision := c } := by simp
  have hne (j) (hj : j ≠ k) : (s.modSlot k fun e => { e with collision := c }).slot j = s.slot j :=
    State.slot_modSlot_ne _ _ _ hj
  refine hs.congr (fun j => ?_) (fun j => ?_) (fun _ => rfl) (fun _ => .inl rfl)
  · rcases eq_or_ne j k with rfl | hj
    · rw [hself]; exact ⟨rfl, rfl, rfl, rfl⟩
    · rw [hne j hj]; exact ⟨rfl, rfl, rfl, rfl⟩
  · rcases eq_or_ne j k with rfl | hj
    · rw [hself]
      obtain ⟨hpath, hdead, hpin, -⟩ := hs.entry j
      exact .inr ⟨hpath, hdead, hpin, hc⟩
    · exact .inl (by rw [hne j hj])

/-- Entries rewritten in their peer lists and attributes alone. -/
theorem ClaimsOk.updSlots {s : State} (hs : ClaimsOk s) {f : Slot → SlotEntry → SlotEntry}
    (hf : ∀ k e, SameClaim e (f k e) ∧ (f k e).collision = e.collision) :
    ClaimsOk { s with slots := updAll s.slots f } := by
  have h (k : Slot) : State.slot { s with slots := updAll s.slots f } k = f k (s.slot k) := by simp [State.slot]
  have hp (v : Vector SlotEntry 64) (i : PathIx) : State.path { s with slots := v } i = s.path i := rfl
  exact hs.congr (fun k => by rw [h]; exact (hf k _).1) (fun k => .inl (by rw [h]; exact (hf k _).2))
    (fun i => by rw [hp]) (fun i => .inl (by rw [hp]))

theorem claimsOk_fine : FineKeep ClaimsOk where
  benign h hs := hs.same h.same.toSameClaims
  served h hs := hs.served h
  waits _ hs := hs
  flags _ _ hs := hs
  peers _ hs := hs.updSlots fun _ _ => ⟨⟨rfl, rfl, rfl, rfl⟩, rfl⟩
  giveUp hk hs := hs.giveUp _ _ hk
  collision _ hc hs := hs.collision hc
  select _ _ hst hs := hs.select hst
  fail ha hs := hs.fail ha
  lose hw hs := hs.lose hw
  expire hst hs := hs.expire hst
  acquired ha hs := hs.acquired ha
  won hk hs := hs.won hk

theorem claimsOk_acts : ActsKeep ClaimsOk :=
  claimsOk_fine.acts_of_sources (fun _ _ hs => hs) fun {s i} f hf hs => by
    have hpath (j : PathIx) : ((s.modPath i f).path j).output = (s.path j).output ∧
        ((s.modPath i f).path j).state = (s.path j).state := by
      rcases eq_or_ne j i with rfl | hne
      · rw [State.path_modPath_self, (hf _).1]; exact ⟨rfl, rfl⟩
      · rw [State.path_modPath_ne _ _ _ hne]; exact ⟨rfl, rfl⟩
    exact hs.congr (fun _ => ⟨rfl, rfl, rfl, rfl⟩) (fun _ => .inl rfl) (fun j => (hpath j).1) (fun j => .inl (hpath j).2)

/-! ### Every mark is served within the act that sets it -/

theorem MarksServed.waits {s : State} (hs : MarksServed s) : MarksWait s := fun i hi => by
  rw [hs i] at hi
  cases hi

theorem MarksServed.congr {s t : State} (hs : MarksServed s) (h : ∀ i : PathIx, (t.wait i).freed = true → (s.wait i).freed = true) :
    MarksServed t := fun i => by
  rw [← Bool.not_eq_true]
  intro hi
  have := h i hi
  rw [hs i] at this
  cases this

theorem MarksServed.loseToPeer {s : State} (hs : MarksServed s) (c : Nat) (k : Slot) (e : PathEvent) :
    MarksServed (loseToPeer c k e s) := by
  cases h : (s.slot k).ownPath with
  | none => exact hs.congr fun i hi => by simpa [Machine.loseToPeer, h] using hi
  | some i =>
    refine hs.congr fun j hj => ?_
    rcases eq_or_ne j i with rfl | hne
    · rw [loseToPeer_wait_self h] at hj
      cases hj
    · rwa [loseToPeer_wait_ne h c e hne] at hj

theorem MarksServed.settle {s u : State} (hu : MarksServed u) : MarksServed (settleNotices s u) :=
  marksServed_settleNotices hu.waits

theorem MarksServed.peerEvent {s : State} (hs : MarksServed s) (c : Nat) (f : Slot → List Peer → List Peer) :
    MarksWait (peerEvent c f s) := by
  refine marksWait_noticeFreed (MarksServed.waits ?_)
  have hw (v : Vector SlotEntry 64) (i : PathIx) : State.wait { s with slots := v } i = s.wait i := rfl
  refine MarksServed.congr (s := retestChanged c s { s with slots := updAll s.slots fun k e => { e with peers := f k e.peers } })
    (forSlots_keeps (fun k t ht => ?_) (hs.congr fun i hi => by rwa [hw] at hi)) (fun i hi => by rwa [pinnedUpdate_wait] at hi)
  split
  · exact ht
  · unfold retestSlot
    split
    · exact ht
    · split
      · exact ht.loseToPeer c k _
      · exact ht
    · exact ht

theorem marksServed_sourceLost (i : PathIx) (s : State) (hs : MarksServed s) : MarksServed (sourceLost i s) := by
  obtain he | ⟨-, -, he⟩ | ⟨-, -, he⟩ := sourceLost_cases s i <;> rw [he]
  · exact hs
  · exact MarksServed.settle (hs.congr fun j hj => by rwa [failAct_wait] at hj)
  · exact MarksServed.settle (hs.congr fun j hj => by rwa [loseSource_wait] at hj)

theorem marksServed_acts : ActsKeep MarksServed where
  benign h hs := hs.congr fun i hi => by rwa [h.same.toSameClaims.wait] at hi
  choose {i s} _ hs := hs.congr fun j hj => by
    rcases eq_or_ne j i with rfl | hne
    · rw [chooseAndClaim_freed_self] at hj
      cases hj
    · rwa [chooseAndClaim_wait_ne s hne] at hj
  unwait {i s} hs := hs.congr fun j hj => by
    rcases eq_or_ne j i with rfl | hne
    · simpa using hj
    · rwa [State.wait_modWait_ne _ _ _ hne] at hj
  request {i s} hw hs := marksServed_serveMarks fun j hj => by
    rcases eq_or_ne j i with rfl | hne
    · exact hw
    · rw [State.wait_modWait_ne _ _ _ hne, hs j] at hj
      cases hj
  peers _ hs := marksServed_serveMarks (hs.peerEvent _ _)
  collide _ hs := MarksServed.settle ((hs.loseToPeer 0 _ _).congr fun i hi => by rwa [pinnedUpdate_wait] at hi)
  restart hs := hs
  select _ _ _ hs := MarksServed.settle (hs.congr fun j hj => by rwa [selectAct_wait] at hj)
  fail _ hs := MarksServed.settle (hs.congr fun j hj => by rwa [failAct_wait] at hj)
  lose _ hs := MarksServed.settle (hs.congr fun j hj => by rwa [loseSource_wait] at hj)
  expire _ hs := MarksServed.settle (hs.congr fun j hj => by rwa [expireHoldover_wait] at hj)
  acquired _ hs := hs.congr fun j hj => by rwa [acquireAct_wait] at hj
  holdOff {k s} _ hs := hs.congr fun j hj => by
    rw [pinnedUpdate_wait] at hj
    simpa [State.wait, collisionTest] using hj
  silent {s} hs := by
    have hflags (t : State) (a b : Bool) (i : PathIx) :
        State.wait { t with silentRelease := a, pinnedCollision := b } i = t.wait i := rfl
    unfold silentReleaseAll
    refine MarksServed.congr (s := forSlots silentSlot s) (forSlots_keeps (fun k t ht => ?_) hs)
      (fun i hi => by rwa [hflags] at hi)
    rw [silentSlot_eq]
    split
    · exact ht
    · exact ht.congr fun j hj => by rwa [giveUp_wait] at hj
  regrade _ hs := hs
  remove hs := removeSources_keeps (fun _ _ hs => hs) marksServed_sourceLost hs
  takeFrame hl _ _ hs := takeSourceFrame_keeps (fun _ _ hs => hs)
    (fun {_ _} _ _ hs => hs.congr fun j hj => by simpa using hj) marksServed_sourceLost hl hs

theorem marksServed_coarse : CoarseKeep MarksServed where
  acts := marksServed_acts
  same h hs := hs.congr fun i hi => by rwa [h.wait] at hi
  notify {s} hs := marksServed_serveMarks fun i hi => by
    rw [noticeWaiting_wait] at hi
    split at hi
    · rename_i hw
      rw [noticeWaiting_path]
      exact hw
    · rw [hs i] at hi
      cases hi
  install _ _ hs := hs
  run _ _ _ hs := hs
  reject _ _ _ hs := hs
  retry _ _ hs := hs

theorem marksServed_keeps : CommandsKeep MarksServed :=
  marksServed_coarse.commands fun _ => resetMeetsInvariants.2.2.2.2.2.1

theorem ClaimsOk.install {s : State} (bs : List Byte) (hs : ClaimsOk s) : ClaimsOk (installImage bs s) := by
  refine hs.congr (fun k => ?_) (fun k => ?_) (fun i => ?_) (fun i => ?_)
  · rw [installImage_slot]; exact ⟨rfl, rfl, rfl, rfl⟩
  · rw [installImage_slot]; exact .inl rfl
  · rw [installImage_path]; exact (loadPath_keeps _ _ i _).2.2
  · rw [installImage_path, outputFits_iff, installImage_path, (loadPath_keeps _ _ i _).2.2]
    obtain h | ⟨hidle, h⟩ := loadPath_cases s.now (settleCarry bs i.val).enabled i (s.path i) <;> rw [h]
    · exact .inl rfl
    · exact .inr (.inl ⟨hs.output_eq_none (by rw [hidle]; decide), .inr (.inl rfl)⟩)

theorem claimsOk_coarse : CoarseKeep ClaimsOk where
  acts := claimsOk_acts
  same h hs := hs.same h
  notify hs := claimsOk_fine.notify hs
  install bs _ hs := hs.install bs
  run _ _ _ hs := hs
  reject _ _ _ hs := hs
  retry _ _ hs := hs

theorem claimsOk_keeps : CommandsKeep ClaimsOk := claimsOk_coarse.commands fun _ => resetMeetsInvariants.2.2.2.2.1

end Sys2Proof.Machine

namespace Sys2Proof

open Machine

/-- Settles O58: the agreement of claims with paths is kept act by act, and every act serves the marks it sets. -/
theorem claimsAgreeWithPaths : Obligations.ClaimsAgreeWithPaths :=
  fun _ _ hc hm hst => ⟨claimsOk_keeps.step hc hst, marksServed_keeps.step hm hst⟩

end Sys2Proof
end
section
/-! PROOFS. The order and the capacity of the source table, and the sources that paths have selected (O60). -/

namespace Sys2Proof.Machine

open Sys2Proof

/-! ### The order of the source table -/

theorem keyBefore_iff (a b : Source) :
    keyBefore a b = true ↔ a.slot < b.slot ∨ (a.slot = b.slot ∧ a.station < b.station) := by
  simp [keyBefore]

theorem keyBefore_trans (a b c : Source) (hab : keyBefore a b = true) (hbc : keyBefore b c = true) :
    keyBefore a c = true := by
  rw [keyBefore_iff] at *
  obtain h | ⟨h, h'⟩ := hab <;> obtain g | ⟨g, g'⟩ := hbc
  · exact .inl (h.trans g)
  · exact .inl (g ▸ h)
  · exact .inl (h ▸ g)
  · exact .inr ⟨h.trans g, BitVec.lt_trans h' g'⟩

theorem hasKey_iff (k : Slot) (st : StationId) (e : Source) : e.hasKey k st = true ↔ e.slot = k ∧ e.station = st := by
  simp [Source.hasKey]

theorem keyBefore_total {a b : Source} (h : b.hasKey a.slot a.station = false) :
    keyBefore a b = true ∨ keyBefore b a = true := by
  rw [← Bool.not_eq_true, hasKey_iff, not_and_or] at h
  simp only [keyBefore_iff]
  rcases lt_trichotomy a.slot b.slot with hs | hs | hs
  · exact .inl (.inl hs)
  · rcases h with h | h
    · exact absurd hs.symm h
    · rcases Nat.lt_or_gt_of_ne (fun he => h (BitVec.eq_of_toNat_eq he)) with h | h
      · exact .inr (.inr ⟨hs.symm, h⟩)
      · exact .inl (.inr ⟨hs, h⟩)
  · exact .inr (.inl hs)

theorem keyBefore_ne {a b : Source} (h : keyBefore a b = true) : b.hasKey a.slot a.station = false := by
  rw [keyBefore_iff] at h
  rw [← Bool.not_eq_true, hasKey_iff]
  rintro ⟨hs, ht⟩
  rw [hs, ht] at h
  simp at h

theorem placeSource_eq (e : Source) (es : List Source) :
    placeSource e es = es.orderedInsert (fun a b => keyBefore a b = true) e := by
  induction es with
  | nil => rfl
  | cons x es ih => simp only [placeSource, List.orderedInsert_cons, ih]

theorem SourcesOrdered.place {es : List Source} (h : SourcesOrdered es) {e : Source}
    (hnew : ∀ x ∈ es, x.hasKey e.slot e.station = false) : SourcesOrdered (placeSource e es) := by
  rw [placeSource_eq]
  exact pairwise_orderedInsert keyBefore_trans h fun x hx => keyBefore_total (hnew x hx)

/-- An ordered table holds one entry to a key. -/
theorem SourcesOrdered.findSource_mem {es : List Source} (h : SourcesOrdered es) {e : Source} (he : e ∈ es) :
    findSource e.slot e.station es = some e := by
  induction es with
  | nil => cases he
  | cons x es ih =>
    obtain ⟨hx, hes⟩ := List.pairwise_cons.mp h
    unfold findSource
    obtain rfl | hmem := List.mem_cons.mp he
    · simp [Source.hasKey]
    · have hne : x.hasKey e.slot e.station = false := by
        have := keyBefore_ne (hx e hmem)
        rw [← Bool.not_eq_true, hasKey_iff] at this ⊢
        exact fun hk => this ⟨hk.1.symm, hk.2.symm⟩
      rw [List.find?_cons, hne]
      exact ih hes hmem

theorem findSource_some {k : Slot} {st : StationId} {es : List Source} {e : Source} (h : findSource k st es = some e) :
    e ∈ es ∧ e.slot = k ∧ e.station = st :=
  ⟨List.mem_of_find?_eq_some h, (hasKey_iff k st e).mp (List.find?_some h)⟩

theorem findSource_none {k : Slot} {st : StationId} {es : List Source} (h : findSource k st es = none) :
    ∀ x ∈ es, x.hasKey k st = false := by
  simpa [findSource] using h

/-- The table under a change of entries that keeps their keys. -/
theorem findSource_map {g : Source → Source} (hg : ∀ e, (g e).slot = e.slot ∧ (g e).station = e.station) (k : Slot)
    (st : StationId) (es : List Source) : findSource k st (es.map g) = (findSource k st es).map g := by
  unfold findSource
  rw [List.find?_map]
  congr 1
  refine congrArg (List.find? · es) (funext fun e => ?_)
  simp [Source.hasKey, hg]

/-- Entries taken out that do not have the key. -/
theorem findSource_filter {k : Slot} {st : StationId} {p : Source → Bool} {es : List Source}
    (h : ∀ e ∈ es, e.hasKey k st = true → p e = true) : findSource k st (es.filter p) = findSource k st es := by
  induction es with
  | nil => rfl
  | cons x es ih =>
    have ih' := ih fun e he => h e (List.mem_cons_of_mem _ he)
    unfold findSource at *
    rw [List.filter_cons]
    by_cases hx : x.hasKey k st = true
    · rw [if_pos (h x (by simp) hx), List.find?_cons, List.find?_cons, hx]
    · split
      · rw [List.find?_cons, List.find?_cons, ih']
      · rw [ih', List.find?_cons, Bool.eq_false_of_not_eq_true hx]

/-! ### The victim of a full table -/

/-- What a search that keeps a best record finds is a record of the list. -/
theorem mem_of_foldl_choice {α : Type} {f : Option α → α → Option α} (h : ∀ b e, f b e = some e ∨ f b e = b)
    (es : List α) (best : Option α) {v : α} (hv : es.foldl f best = some v) : v ∈ es ∨ best = some v := by
  induction es generalizing best with
  | nil => exact .inr hv
  | cons x es ih =>
    obtain hmem | hbest := ih _ hv
    · exact .inl (List.mem_cons_of_mem _ hmem)
    · obtain he | he := h best x <;> rw [he] at hbest
      · exact .inl (by simp_all)
      · exact .inr hbest

theorem replacementVictim_mem {s : State} {v : Source} (h : replacementVictim s = some v) :
    v ∈ s.sources ∧ isSelected s v = false := by
  unfold replacementVictim at h
  refine (mem_of_foldl_choice (fun b e => ?_) _ _ h).elim (fun hv => by simpa using hv) (fun hv => by cases hv)
  · cases b with
    | none => exact .inl rfl
    | some a =>
      dsimp only
      split
      · exact .inl rfl
      · exact .inr rfl

/-- What an admission makes of the table: a new entry in its place, one that no path has selected given up for it, or
nothing. -/
theorem admitSource_cases (s : State) (e : Source) :
    (s.sources.length < sourceCapacity ∧ admitSource s e = placeSource e s.sources) ∨
    (∃ v ∈ s.sources, isSelected s v = false ∧
      admitSource s e = placeSource e (s.sources.filter fun x => !x.hasKey v.slot v.station)) ∨
    admitSource s e = s.sources := by
  unfold admitSource
  split
  · exact .inl ⟨by assumption, rfl⟩
  · split
    · rename_i v hv
      exact .inr (.inl ⟨v, (replacementVictim_mem hv).1, (replacementVictim_mem hv).2, rfl⟩)
    · exact .inr (.inr rfl)

/-! ### Order and capacity of the source table -/

/-- The source table within its capacity and in its order (R67). -/
abbrev SourcesOk (es : List Source) : Prop := es.length ≤ sourceCapacity ∧ SourcesOrdered es

theorem SourcesOk.filter {es : List Source} (h : SourcesOk es) (p : Source → Bool) : SourcesOk (es.filter p) :=
  ⟨(List.length_filter_le _ _).trans h.1, h.2.filter p⟩

theorem SourcesOk.map {es : List Source} (h : SourcesOk es) {g : Source → Source}
    (hg : ∀ e, (g e).slot = e.slot ∧ (g e).station = e.station) : SourcesOk (es.map g) :=
  ⟨by simpa using h.1, SourcesOrdered.map h.2 hg⟩

theorem length_placeSource (e : Source) (es : List Source) : (placeSource e es).length = es.length + 1 := by
  rw [placeSource_eq, List.orderedInsert_length]

theorem SourcesOk.newEntry {s : State} (h : SourcesOk s.sources) {e : Source}
    (hnew : ∀ x ∈ s.sources, x.hasKey e.slot e.station = false) : SourcesOk (admitSource s e) := by
  obtain ⟨hlt, he⟩ | ⟨v, hv, -, he⟩ | he := admitSource_cases s e <;> rw [he]
  · exact ⟨by rw [length_placeSource]; exact hlt, h.2.place hnew⟩
  · refine ⟨?_, SourcesOrdered.place (h.2.filter _) fun x hx => hnew x (List.mem_filter.mp hx).1⟩
    have hlt : (s.sources.filter fun x => !x.hasKey v.slot v.station).length < s.sources.length :=
      List.length_filter_lt_length_iff_exists.mpr ⟨v, hv, by simp [Source.hasKey]⟩
    rw [length_placeSource]
    exact hlt.trans_le h.1
  · exact h

theorem Acts.sourcesOk {s t : State} (h : Acts s t) (hs : SourcesOk s.sources) : SourcesOk t.sources :=
  h.sources_keep (Q := SourcesOk) (fun k st u es hes => hes.map fun e => by split <;> exact ⟨rfl, rfl⟩) hs

/-- Every update of the source table's entries keeps their keys. -/
theorem updateSource_key (s : State) (f : Frame) (noise : Nat) (latest : Option Nat) (e : Source) :
    (updateSource s f noise latest e).slot = e.slot ∧ (updateSource s f noise latest e).station = e.station := ⟨rfl, rfl⟩

theorem sourcesOk_fine : FineKeep fun s => SourcesOk s.sources where
  benign h hs := h.sources ▸ hs
  served h hs := h.sources ▸ hs
  waits _ hs := hs
  flags _ _ hs := hs
  peers _ hs := hs
  giveUp _ hs := (Acts.giveUp _ _ _ _).sourcesOk hs
  collision _ _ hs := hs
  select _ _ _ hs := (Acts.selectAct _ _ _ _).sourcesOk hs
  fail _ hs := (Acts.failAct _ _).sourcesOk hs
  lose _ hs := (Acts.loseSource _ _).sourcesOk hs
  expire _ hs := (Acts.expireHoldover _ _).sourcesOk hs
  acquired _ hs := (Acts.acquireAct _ _).sourcesOk hs
  won _ hs := (Acts.claimWon _ _).sourcesOk hs

theorem sourcesOk_remove {gone : Source → Bool} {s : State} (hs : SourcesOk s.sources) :
    SourcesOk (removeSources gone s).sources :=
  (Acts.noticesRemoved _ _).sourcesOk (hs.filter _)

theorem sourcesOk_takeFrame {f : Frame} {heard : Slot} {noise : Nat} {latest : Option Nat} {s : State}
    (hs : SourcesOk s.sources) : SourcesOk (takeSourceFrame f heard noise latest s).sources := by
  unfold takeSourceFrame
  split
  · rename_i hnone
    split
    · exact hs.newEntry (findSource_none hnone)
    · exact hs
  · split
    · refine (Acts.noticeChanged _ _).sourcesOk (hs.map fun e => ?_)
      split
      · exact updateSource_key s f noise latest e
      · exact ⟨rfl, rfl⟩
    · exact sourcesOk_remove hs

theorem sourcesOk_acts : ActsKeep fun s => SourcesOk s.sources :=
  sourcesOk_fine.acts (fun hg hs => hs.map fun e => ⟨(hg e).1, (hg e).2.1⟩) sourcesOk_remove
    (fun _ _ _ => sourcesOk_takeFrame)

theorem sourcesOk_coarse : CoarseKeep fun s => SourcesOk s.sources where
  acts := sourcesOk_acts
  same h hs := h.sources ▸ hs
  notify hs := sourcesOk_fine.notify hs
  install _ _ hs := hs
  run _ _ _ hs := hs
  reject _ _ _ hs := hs
  retry _ _ hs := hs

end Sys2Proof.Machine
end
section
/-! PROOFS. The sources that paths have selected stay in the table and safe to take (O60): through the notices of an event of
the table, the selections that are still to be given up are named apart (SelectedBut). -/

namespace Sys2Proof.Machine

open Sys2Proof

/-! ### Safe entries -/

/-- The selected source names an entry of the table that may be taken (R81). -/
theorem selectionSafe_iff (s : State) (x : Selected) : selectionSafe s x = true ↔
    ∃ e, findSource x.slot x.station s.sources = some e ∧ e.station ≠ s.params.stationId ∧
      e.upstream ≠ some s.params.stationId ∧ e.depth ≤ 14 := by
  unfold selectionSafe
  cases h : findSource x.slot x.station s.sources <;> simp [and_assoc]

/-- Whether a selection is safe reads the source table and the own station ID alone. -/
theorem selectionSafe_congr {s t : State} (hs : t.sources = s.sources) (hp : t.params = s.params) (x : Selected) :
    selectionSafe t x = selectionSafe s x := by
  simp only [selectionSafe, hs, hp]

/-- An update that keeps key, upstream and depth of every entry keeps selections safe. -/
theorem selectionSafe_map {s t : State} {g : Source → Source} (hsrc : t.sources = s.sources.map g)
    (hp : t.params = s.params) (hg : ∀ e, (g e).slot = e.slot ∧ (g e).station = e.station ∧
      (g e).upstream = e.upstream ∧ (g e).depth = e.depth) {x : Selected} (hx : selectionSafe s x = true) :
    selectionSafe t x = true := by
  rw [selectionSafe_iff] at hx ⊢
  obtain ⟨e, he, hst, hup, hd⟩ := hx
  refine ⟨g e, ?_, ?_, ?_, ?_⟩
  · rw [hsrc, findSource_map (fun e => ⟨(hg e).1, (hg e).2.1⟩), he]
    rfl
  · rw [(hg e).2.1, hp]; exact hst
  · rw [(hg e).2.2.1, hp]; exact hup
  · rw [(hg e).2.2.2]; exact hd

/-! ### Selections, but for those that are to be given up -/

/-- The source table is in order, every path has a source just in the states that have one, and each is safe but for those
that bad names. -/
structure SelectedBut (bad : PathIx → Slot → StationId → Prop) (s : State) : Prop where
  ordered : SourcesOk s.sources
  states : ∀ i : PathIx, (s.path i).selected.isSome = hasSource (s.path i).state
  safe : ∀ i x, (s.path i).selected = some x → selectionSafe s x = true ∨ bad i x.slot x.station

namespace SelectedBut

variable {bad : PathIx → Slot → StationId → Prop} {s t : State}

theorem mono {bad' : PathIx → Slot → StationId → Prop} (hs : SelectedBut bad s)
    (h : ∀ i x, (s.path i).selected = some x → bad i x.slot x.station → bad' i x.slot x.station) :
    SelectedBut bad' s :=
  ⟨hs.ordered, hs.states, fun i x hx => (hs.safe i x hx).imp_right (h i x hx)⟩

/-- Each path keeps its selection or gives it up, in a state that fits, and the table keeps safe what is safe. -/
theorem keep (hs : SelectedBut bad s) (hordered : SourcesOk t.sources)
    (hsafe : ∀ x, selectionSafe s x = true → selectionSafe t x = true)
    (hstates : ∀ i : PathIx, (t.path i).selected.isSome = hasSource (t.path i).state)
    (hsel : ∀ i : PathIx, (t.path i).selected = (s.path i).selected ∨ (t.path i).selected = none) :
    SelectedBut bad t where
  ordered := hordered
  states := hstates
  safe i x hx := by
    obtain h | h := hsel i
    · exact (hs.safe i x (h ▸ hx)).imp_left (hsafe x)
    · rw [h] at hx; cases hx

/-- An act on path i, which keeps its selection or gives it up; the table stands. -/
theorem act (hs : SelectedBut bad s) (i : PathIx) (hact : ActFrame s t) (hsrc : t.sources = s.sources)
    (hothers : ∀ j, j ≠ i → t.path j = s.path j)
    (hst : (t.path i).selected.isSome = hasSource (t.path i).state)
    (hsel : (t.path i).selected = (s.path i).selected ∨ (t.path i).selected = none) : SelectedBut bad t := by
  refine hs.keep (hsrc ▸ hs.ordered) (fun x hx => by rwa [selectionSafe_congr hsrc hact.params_eq]) (fun j => ?_)
    (fun j => ?_) <;> rcases eq_or_ne j i with rfl | hne
  · exact hst
  · rw [hothers j hne]; exact hs.states j
  · exact hsel
  · rw [hothers j hne]; exact .inl rfl

/-- The table and the selections stand, and so do the states. -/
theorem same (hs : SelectedBut bad s) (hsrc : t.sources = s.sources) (hp : t.params = s.params)
    (hpath : ∀ i : PathIx, (t.path i).state = (s.path i).state ∧ (t.path i).selected = (s.path i).selected) :
    SelectedBut bad t :=
  hs.keep (hsrc ▸ hs.ordered) (fun x hx => by rwa [selectionSafe_congr hsrc hp])
    (fun i => by rw [(hpath i).1, (hpath i).2, hs.states i]) fun i => .inl (hpath i).2

/-- Another source table in which every selection is safe or named. -/
theorem withSources {bad' : PathIx → Slot → StationId → Prop} (hs : SelectedBut bad s) {es : List Source}
    (hordered : SourcesOk es) (hsafe : ∀ i x, (s.path i).selected = some x →
      selectionSafe { s with sources := es } x = true ∨ bad' i x.slot x.station) :
    SelectedBut bad' { s with sources := es } where
  ordered := hordered
  states i := hs.states i
  safe i x hx := hsafe i x hx

theorem hasSource_slotLostState (st : PathState) : hasSource (slotLostState st) = hasSource st := by
  cases st <;> rfl

theorem giveUp (hs : SelectedBut bad s) (c : Nat) (k : Slot) (e : PathEvent) : SelectedBut bad (giveUp c k e s) := by
  have hact := (Acts.giveUp s c k e).frame
  cases hk : (s.slot k).ownPath with
  | none =>
    refine hs.same (giveUp_sources s c k e) hact.params_eq fun i => ?_
    rw [giveUp_path_ne (by simp [hk])]
    exact ⟨rfl, rfl⟩
  | some i =>
    have hself := giveUp_path_self hk c e
    rw [slotLost_path_self] at hself
    refine hs.act i hact (giveUp_sources s c k e) (fun j hne => giveUp_path_ne (by simpa [hk] using Ne.symm hne) c e) ?_ ?_
    · rw [hself, hasSource_slotLostState]; exact hs.states i
    · rw [hself]; exact .inl rfl

theorem select (hs : SelectedBut bad s) {i : PathIx} {e : Source} {st : PathState} (he : e ∈ s.sources)
    (hel : sourceEligible s i e = true) (hst : st = .acquiring ∨ st = .switching) :
    SelectedBut bad (selectAct i e st s) := by
  have hact := (Acts.selectAct s i e st).frame
  have hsrc := selectAct_sources s i e st
  have hself := selectAct_path_self s i e st
  refine ⟨hsrc ▸ hs.ordered, fun j => ?_, fun j x hx => ?_⟩ <;> rcases eq_or_ne j i with rfl | hne
  · rw [hself]
    rcases hst with rfl | rfl <;> rfl
  · rw [selectAct_path_ne s e st hne]; exact hs.states j
  · rw [hself] at hx
    obtain rfl : x = { slot := e.slot, station := e.station, depth := e.depth } := by
      simpa [selectedRecord] using hx.symm
    obtain ⟨-, -, hown, hup, hd, -⟩ := (sourceEligible_iff s j e).mp hel
    refine .inl ((selectionSafe_iff _ _).mpr ⟨e, ?_, ?_⟩)
    · rw [hsrc]; exact hs.ordered.2.findSource_mem he
    · rw [hact.params_eq]; exact ⟨hown, bne_iff_ne.mp ((upstream_ne_iff e _).mpr hup), hd⟩
  · rw [selectAct_path_ne s e st hne] at hx
    rw [selectionSafe_congr hsrc hact.params_eq]
    exact hs.safe j x hx

theorem safe_penaliseSelected (s : State) (i : PathIx) {t : State} (hsrc : t.sources = (penaliseSelected i s).sources)
    (hp : t.params = s.params) (x : Selected) (hx : selectionSafe s x = true) : selectionSafe t x = true := by
  unfold penaliseSelected at hsrc
  split at hsrc
  · rwa [selectionSafe_congr hsrc hp]
  · exact selectionSafe_map hsrc hp (fun e => by split <;> exact ⟨rfl, rfl, rfl, rfl⟩) hx

theorem fail (hs : SelectedBut bad s) {i : PathIx} (ha : acquiring (s.path i).state = true) :
    SelectedBut bad (failAct i s) := by
  have hact := Acts.failAct s i
  have hself := failAct_path_self ha
  refine hs.keep (hact.sourcesOk hs.ordered) (safe_penaliseSelected s i (failAct_sources s i) hact.frame.params_eq)
    (fun j => ?_) (fun j => ?_) <;> rcases eq_or_ne j i with rfl | hne
  · rw [hself]
    obtain h | h := (acquiring_iff _).mp ha <;> simp [h, failedState, PathRec.sourceCleared, hasSource, acquiring, watching]
  · rw [failAct_path_ne s hne]; exact hs.states j
  · rw [hself]; exact .inr rfl
  · rw [failAct_path_ne s hne]; exact .inl rfl

theorem lose (hs : SelectedBut bad s) {i : PathIx} (hw : watching (s.path i).state = true) :
    SelectedBut bad (loseSource i s) := by
  have hself := loseSource_path_self hw
  refine hs.act i (Acts.loseSource s i).frame (loseSource_sources s i) (fun j hne => loseSource_path_ne s hne) ?_ ?_
  · rw [hself]
    obtain h | h | h := (watching_iff _).mp hw <;>
      simp [h, lostState, PathRec.lost, PathRec.sourceCleared, hasSource, acquiring, watching]
  · rw [hself]; exact .inr rfl

theorem expire (hs : SelectedBut bad s) {i : PathIx}
    (hst : (s.path i).state = .holdover ∨ (s.path i).state = .switching) : SelectedBut bad (expireHoldover i s) := by
  have hself := expireHoldover_path_self (s := s) (i := i) (by rcases hst with h | h <;> simp [h])
  refine hs.act i (Acts.expireHoldover s i).frame (expireHoldover_sources s i) (fun j hne => expireHoldover_path_ne s hne) ?_ ?_
  · have h := hs.states i
    rw [hself]
    rcases hst with hst | hst <;> rw [hst] at h <;> simp only [expiredState, hst] <;> exact h
  · rw [hself]; exact .inl rfl

theorem acquired (hs : SelectedBut bad s) {i : PathIx} (ha : acquiring (s.path i).state = true) :
    SelectedBut bad (acquireAct i s) := by
  have hself := acquireAct_path_self (s := s) (i := i) (by rintro h; simp [h, acquiring] at ha)
  refine hs.act i (Acts.acquireAct s i).frame (acquireAct_sources s i) (fun j hne => acquireAct_path_ne s hne) ?_ ?_
  · have h := hs.states i
    rw [hself]
    obtain hst | hst := (acquiring_iff _).mp ha <;> rw [hst] at h <;> simp only [hst] <;> exact h
  · rw [hself]; exact .inl rfl

theorem won (hs : SelectedBut bad s) (k : Slot) : SelectedBut bad (claimWon k (s.modSlot k SlotEntry.wonHeld)) := by
  have hact := (modSlot_act s k SlotEntry.wonHeld).trans (Acts.claimWon _ k).frame
  refine hs.keep (by simpa using hs.ordered) (fun x hx => by
    rwa [selectionSafe_congr (by simp) hact.params_eq]) (fun i => ?_)
    fun i => .inl (claimWon_path_keeps _ k i).2.1
  rw [(claimWon_path_keeps _ k i).2.1]
  by_cases h : ((s.modSlot k SlotEntry.wonHeld).slot k).ownPath = some i ∧ (s.path i).state = .claiming
  · rw [claimWon_path_self h.1 h.2]
    exact (hs.states i).trans (by rw [h.2]; rfl)
  · rw [claimWon_path_ne (not_and_or.mp h)]
    exact hs.states i

theorem served (hs : SelectedBut bad s) (h : Served s t) : SelectedBut bad t := by
  refine hs.keep (h.sources ▸ hs.ordered) (fun x hx => by
    rwa [selectionSafe_congr h.sources h.acts.frame.params_eq]) (fun i => ?_) fun i => .inl (h.selected_eq i)
  rw [h.selected_eq, hs.states i]
  obtain hi | ⟨k, hi⟩ := h.path i
  · rw [hi]
  · rw [hi.waited]
    obtain hst | hst := hi.state_cases <;> rw [hst] <;> rfl

theorem fine (bad : PathIx → Slot → StationId → Prop) : FineKeep (SelectedBut bad) where
  benign h hs := hs.same h.sources h.params fun i => ⟨(h.path i).1, (h.path i).2.2.2.1⟩
  served h hs := hs.served h
  waits _ hs := hs.same rfl rfl fun _ => ⟨rfl, rfl⟩
  flags _ _ hs := hs.same rfl rfl fun _ => ⟨rfl, rfl⟩
  peers _ hs := hs.same rfl rfl fun _ => by simp [State.path]
  giveUp _ hs := hs.giveUp _ _ _
  collision _ _ hs := hs.same rfl rfl fun _ => ⟨rfl, rfl⟩
  select he hel hst hs := hs.select he hel (by tauto)
  fail ha hs := hs.fail ha
  lose hw hs := hs.lose hw
  expire hst hs := hs.expire hst
  acquired ha hs := hs.acquired ha
  won _ hs := hs.won _

/-! ### Notices of the table -/

/-- A path whose source is lost has none. -/
theorem sourceLost_selected (hs : SelectedBut bad s) (i : PathIx) : ((sourceLost i s).path i).selected = none := by
  obtain he | ⟨-, ha, he⟩ | ⟨-, hw, he⟩ := sourceLost_cases s i
  · cases hsel : (s.path i).selected with
    | none => rw [he, hsel]
    | some x =>
      have hst := hs.states i
      rw [hsel] at hst
      obtain ha | hw : acquiring (s.path i).state = true ∨ watching (s.path i).state = true := by
        simpa [hasSource] using hst.symm
      · simp only [sourceLost, hsel, ha, Option.isNone_some, Bool.false_eq_true, if_false, if_true]
        rw [acquireFail_eq, (settleNotices_served s _).selected_eq, failAct_path_self ha]
        rfl
      · by_cases ha : acquiring (s.path i).state = true
        · simp only [sourceLost, hsel, ha, Option.isNone_some, Bool.false_eq_true, if_false, if_true]
          rw [acquireFail_eq, (settleNotices_served s _).selected_eq, failAct_path_self ha]
          rfl
        · simp only [sourceLost, hsel, ha, hw, Option.isNone_some, Bool.false_eq_true, if_false, if_true]
          rw [← settleNotices, (settleNotices_served s _).selected_eq, loseSource_path_self hw]
          rfl
  · rw [he, (settleNotices_served s _).selected_eq, failAct_path_self ha]
    rfl
  · rw [he, (settleNotices_served s _).selected_eq, loseSource_path_self hw]
    rfl

/-- With its source lost, path i is named no more. -/
theorem sourceLost {q : Slot → StationId → Prop} {i : PathIx}
    (hs : SelectedBut (fun j k st => bad j k st ∨ (j = i ∧ q k st)) s) : SelectedBut bad (sourceLost i s) := by
  refine ((fine _).sourceLost i hs).mono fun j x hx hbad => hbad.resolve_right ?_
  rintro ⟨rfl, -⟩
  rw [hs.sourceLost_selected] at hx
  cases hx

/-- A notice taken by one path after another, each of which is then named no more; r is what the notice relies on. -/
theorem forPaths {r : State → Prop} {q : Slot → StationId → Prop} {f : PathIx → State → State}
    (hf : ∀ i bad s, r s → SelectedBut (fun j k st => bad j k st ∨ (j = i ∧ q k st)) s →
      r (f i s) ∧ SelectedBut bad (f i s)) (hr : r s) (hs : SelectedBut (fun j k st => bad j k st ∨ q k st) s) :
    SelectedBut bad (forPaths f s) := by
  have h (is : List PathIx) : ∀ s, r s → SelectedBut (fun j k st => bad j k st ∨ (j ∈ is ∧ q k st)) s →
      SelectedBut bad (is.foldl (fun t i => f i t) s) := by
    induction is with
    | nil => exact fun s _ hs => hs.mono fun j x _ h => h.resolve_right (by simp)
    | cons i is ih =>
      intro s hr hs
      obtain ⟨hr', hs'⟩ := hf i (fun j k st => bad j k st ∨ (j ∈ is ∧ q k st)) s hr (hs.mono fun j x _ h => by
        simp only [List.mem_cons] at h
        tauto)
      exact ih _ hr' hs'
  exact h _ s hr (hs.mono fun j x _ => Or.imp_right fun h => ⟨mem_indices j, h⟩)

theorem selects_iff (p : PathRec) (k : Slot) (st : StationId) :
    p.selects k st = true ↔ ∃ x, p.selected = some x ∧ x.slot = k ∧ x.station = st := by
  cases h : p.selected <;> simp [PathRec.selects, h]

theorem noticeRemoved {e : Source} (hs : SelectedBut (fun j k st => bad j k st ∨ (k = e.slot ∧ st = e.station)) s) :
    SelectedBut bad (noticeRemoved s e) := by
  refine forPaths (r := fun _ => True) (fun i bad s _ hs => ⟨trivial, ?_⟩) trivial hs
  unfold takeRemoved
  split
  · exact hs.sourceLost
  · rename_i hsel
    refine hs.mono fun j x hx h => h.resolve_right ?_
    rintro ⟨rfl, hk, hst⟩
    exact hsel ((selects_iff _ _ _).mpr ⟨x, hx, hk, hst⟩)

theorem noticesRemoved (es : List Source)
    (hs : SelectedBut (fun j k st => bad j k st ∨ ∃ e ∈ es, k = e.slot ∧ st = e.station) s) :
    SelectedBut bad (es.foldl Machine.noticeRemoved s) := by
  induction es generalizing s with
  | nil => exact hs.mono fun j x _ h => h.resolve_right (by simp)
  | cons e es ih =>
    rw [List.foldl_cons]
    refine ih (SelectedBut.noticeRemoved (bad := fun j k st => bad j k st ∨ ∃ e ∈ es, k = e.slot ∧ st = e.station)
      (hs.mono fun j x _ h => ?_))
    obtain h | ⟨e', he', h⟩ := h
    · exact .inl (.inl h)
    · obtain rfl | hmem := List.mem_cons.mp he'
      · exact .inr h
      · exact .inl (.inr ⟨e', hmem, h⟩)

theorem removeSources (hs : SelectedBut bad s) (gone : Source → Bool) : SelectedBut bad (removeSources gone s) := by
  have h : SelectedBut (fun j k st => bad j k st ∨ ∃ e ∈ s.sources.filter gone, k = e.slot ∧ st = e.station)
      { s with sources := s.sources.filter fun e => !gone e } := by
    refine hs.withSources (hs.ordered.filter _) fun i x hx => ?_
    obtain hsafe | hbad := hs.safe i x hx
    · obtain ⟨e, he, hrest⟩ := (selectionSafe_iff s x).mp hsafe
      obtain ⟨hmem, hk, hst⟩ := findSource_some he
      by_cases hg : gone e = true
      · exact .inr (.inr ⟨e, by simp [hmem, hg], hk.symm, hst.symm⟩)
      · refine .inl ((selectionSafe_iff _ x).mpr ⟨e, ?_, hrest⟩)
        rw [← hk, ← hst]
        exact (hs.ordered.filter _).2.findSource_mem (List.mem_filter.mpr ⟨hmem, by simp [hg]⟩)
    · exact .inr (.inl hbad)
  exact noticesRemoved _ h

/-! ### A frame at the source table -/

theorem selectionSafe_place {es : List Source} {e : Source} {x : Selected} (hne : e.hasKey x.slot x.station = false)
    {s t : State} (hsrc : s.sources = es) (htrc : t.sources = placeSource e es) (hp : t.params = s.params)
    (hx : selectionSafe s x = true) : selectionSafe t x = true := by
  rw [selectionSafe_iff] at hx ⊢
  rwa [htrc, placeSource_eq, findSource, find?_orderedInsert_of_not hne, ← hsrc, hp]

/-- An admission leaves every selected entry in the table. -/
theorem newEntry (hs : SelectedBut bad s) {e : Source} (hnew : ∀ x ∈ s.sources, x.hasKey e.slot e.station = false) :
    SelectedBut bad { s with sources := admitSource s e } := by
  refine hs.withSources (hs.ordered.newEntry hnew) fun i x hx => ?_
  refine (hs.safe i x hx).imp_left fun hsafe => ?_
  obtain ⟨e0, he0, hrest⟩ := (selectionSafe_iff s x).mp hsafe
  obtain ⟨hmem, hk, hst⟩ := findSource_some he0
  have hne : e.hasKey x.slot x.station = false := by
    have := hnew e0 hmem
    rw [← Bool.not_eq_true, hasKey_iff] at this ⊢
    rintro ⟨h1, h2⟩
    exact this ⟨hk.trans h1.symm, hst.trans h2.symm⟩
  obtain ⟨-, he⟩ | ⟨v, -, hv, he⟩ | he := admitSource_cases s e
  · exact selectionSafe_place hne rfl he rfl hsafe
  · refine selectionSafe_place (s := { s with sources := s.sources.filter fun x => !x.hasKey v.slot v.station }) hne rfl he
      rfl ?_
    rw [selectionSafe_iff]
    refine ⟨e0, ?_, hrest⟩
    rw [← he0]
    refine findSource_filter fun y _ hy => ?_
    rw [Bool.not_eq_true', ← Bool.not_eq_true, hasKey_iff]
    rintro ⟨h1, h2⟩
    obtain ⟨hy1, hy2⟩ := (hasKey_iff _ _ _).mp hy
    have hsel : isSelected s v = true := by
      simp only [isSelected, List.any_eq_true]
      exact ⟨i, mem_indices i, (selects_iff _ _ _).mpr ⟨x, hx, hy1.symm.trans h1, hy2.symm.trans h2⟩⟩
    rw [hv] at hsel
    cases hsel
  · rw [he]
    exact hsafe

/-- What the notice of a changed entry e relies on: the table holds an entry of its key, with its upstream and depth, and
that is not of the own station. -/
structure Changed (e : Source) (s : State) : Prop where
  entry : ∃ e0, findSource e.slot e.station s.sources = some e0 ∧ e0.upstream = e.upstream ∧ e0.depth = e.depth
  other : e.station ≠ s.params.stationId
  depth : e.depth ≤ 15

theorem Changed.act {e : Source} (h : Changed e s) (hact : Acts s t) : Changed e t where
  entry := hact.sources_keep (Q := fun es => ∃ e0, findSource e.slot e.station es = some e0 ∧ e0.upstream = e.upstream ∧
      e0.depth = e.depth) (fun k st u es => by
    rintro ⟨e0, he0, hup, hd⟩
    refine ⟨_, by rw [findSource_map (fun e => by split <;> exact ⟨rfl, rfl⟩), he0]; rfl, ?_⟩
    dsimp only
    split <;> exact ⟨hup, hd⟩) h.entry
  other := by rw [hact.frame.params_eq]; exact h.other
  depth := h.depth

theorem takeChanged {e : Source} {i : PathIx} (hc : Changed e s)
    (hs : SelectedBut (fun j k st => bad j k st ∨ (j = i ∧ k = e.slot ∧ st = e.station)) s) :
    SelectedBut bad (takeChanged e i s) := by
  unfold Machine.takeChanged
  split
  · split
    · exact hs.sourceLost
    · rename_i hlost
      simp only [lostByChange, Bool.or_eq_true, beq_iff_eq, not_or] at hlost
      obtain ⟨⟨-, hd⟩, hup⟩ := hlost
      refine ⟨hs.ordered, fun j => ?_, fun j x hx => ?_⟩ <;> rcases eq_or_ne j i with rfl | hne
      · rw [State.path_modPath_self]; simpa using hs.states j
      · rw [State.path_modPath_ne _ _ _ hne]; exact hs.states j
      · rw [State.path_modPath_self] at hx
        obtain ⟨y, hy, rfl⟩ := Option.map_eq_some_iff.mp hx
        obtain hsafe | hbad | ⟨-, hk, hst⟩ := hs.safe j y hy
        · exact .inl ((selectionSafe_iff _ _).mpr ((selectionSafe_iff s y).mp hsafe))
        · exact .inr hbad
        · obtain ⟨e0, he0, hup0, hd0⟩ := hc.entry
          refine .inl ((selectionSafe_iff _ _).mpr ⟨e0, ?_, ?_, ?_, ?_⟩)
          · rw [← hk, ← hst] at he0; exact he0
          · rw [(findSource_some he0).2.2]; exact hc.other
          · rw [hup0]; exact hup
          · have := hc.depth; omega
      · rw [State.path_modPath_ne _ _ _ hne] at hx
        refine (hs.safe j x hx).imp (fun h => (selectionSafe_iff _ _).mpr ((selectionSafe_iff s x).mp h)) fun h => ?_
        exact h.resolve_right fun h => hne h.1
  · rename_i hsel
    refine hs.mono fun j x hx h => h.resolve_right ?_
    rintro ⟨rfl, hk, hst⟩
    exact hsel ((selects_iff _ _ _).mpr ⟨x, hx, hk, hst⟩)

theorem noticeChanged {e : Source} (hc : Changed e s)
    (hs : SelectedBut (fun j k st => bad j k st ∨ (k = e.slot ∧ st = e.station)) s) :
    SelectedBut bad (noticeChanged e s) :=
  forPaths (r := Changed e) (fun i _ s hc hs => ⟨hc.act (Acts.takeChanged s e i), hs.takeChanged hc⟩) hc hs

theorem takeSourceFrame (hs : SelectedBut bad s) {f : Frame} {heard : Slot} {noise : Nat} {latest : Option Nat}
    (hown : f.station ≠ s.params.stationId) (hd : f.depth ≤ 15) :
    SelectedBut bad (takeSourceFrame f heard noise latest s) := by
  unfold Machine.takeSourceFrame
  split
  · rename_i hnone
    split
    · exact hs.newEntry (findSource_none hnone)
    · exact hs
  · rename_i e he
    obtain ⟨hmem, hk, hst⟩ := findSource_some he
    split
    · have hkey (x : Source) : ((if x.hasKey heard f.station then updateSource s f noise latest x else x).slot = x.slot) ∧
          ((if x.hasKey heard f.station then updateSource s f noise latest x else x).station = x.station) := by
        split <;> exact ⟨rfl, rfl⟩
      refine noticeChanged ⟨⟨updateSource s f noise latest e, ?_, rfl, rfl⟩, ?_, hd⟩
        (hs.withSources (hs.ordered.map hkey) fun i x hx => ?_)
      · simp only [modSource, updateSource_key]
        rw [findSource_map hkey, hk, hst, he]
        simp [(hasKey_iff _ _ _).mpr ⟨hk, hst⟩]
      · simpa [modSource, updateSource_key, hst] using hown
      · by_cases hx' : x.slot = e.slot ∧ x.station = e.station
        · exact .inr (.inr hx')
        · refine (hs.safe i x hx).imp (fun hsafe => ?_) .inl
          rw [selectionSafe_iff] at hsafe ⊢
          obtain ⟨e0, he0, hrest⟩ := hsafe
          obtain ⟨-, hk0, hst0⟩ := findSource_some he0
          refine ⟨e0, ?_, hrest⟩
          rw [findSource_map hkey, he0]
          have : e0.hasKey heard f.station = false := by
            rw [← Bool.not_eq_true, hasKey_iff]
            rintro ⟨h1, h2⟩
            exact hx' ⟨by rw [← hk0, h1, hk], by rw [← hst0, h2, hst]⟩
          simp [this]
    · exact hs.removeSources _

end SelectedBut

/-! ### Every step keeps them -/

/-- Every path has a selected source just in the states that have one, and each is safe; with the table in order. -/
abbrev Selections (s : State) : Prop := SelectedBut (fun _ _ _ => False) s

theorem selections_iff (s : State) : Selections s ↔ SourcesOk s.sources ∧ SelectionsOk s := by
  constructor
  · exact fun h => ⟨h.ordered, fun i => ⟨h.states i, fun x hx => (h.safe i x hx).resolve_right id⟩⟩
  · rintro ⟨ho, hs⟩
    exact ⟨ho, fun i => (hs i).1, fun i x hx => .inl ((hs i).2 x hx)⟩

theorem selections_acts : ActsKeep Selections :=
  (SelectedBut.fine _).acts
    (fun {g s} hg hs => hs.withSources (hs.ordered.map fun e => ⟨(hg e).1, (hg e).2.1⟩) fun i x hx =>
      (hs.safe i x hx).imp_left (selectionSafe_map (s := s) (t := { s with sources := s.sources.map g }) rfl rfl
        fun e => ⟨(hg e).1, (hg e).2.1, (hg e).2.2.1, (hg e).2.2.2.1⟩))
    (fun hs => hs.removeSources _) (fun _ hown hd hs => hs.takeSourceFrame hown hd)

/-- The selections, with what a load relies on. -/
abbrev SelectionsLoaded (s : State) : Prop := Selections s ∧ LoadingOk s

theorem selectionsLoaded_coarse : CoarseKeep SelectionsLoaded where
  acts := selections_acts.and loadingOk_acts
  same h hs := ⟨hs.1.same h.sources h.params fun i => ⟨(h.path i).1, (h.path i).2.2.2⟩, loadingOk_coarse.same h hs.2⟩
  notify hs := ⟨(SelectedBut.fine _).notify hs.1, loadingOk_coarse.notify hs.2⟩
  install {s} bs hread hs := by
    have hnone (i : PathIx) := ((hs.2.2 (hs.2.1 hread)).2 i).2
    have hsel (i : PathIx) : ((installImage bs s).path i).selected = none := by
      rw [installImage_path, (loadPath_keeps _ _ i _).2.1, hnone]
    refine ⟨⟨hs.1.ordered, fun i => ?_, fun i x hx => ?_⟩, .install bs⟩
    · have hst := hs.1.states i
      rw [hsel, ← hnone i, hst, installImage_path]
      obtain h | ⟨hidle, h⟩ := loadPath_cases s.now (settleCarry bs i.val).enabled i (s.path i) <;> rw [h]
      rw [hidle]
      rfl
    · rw [hsel] at hx; cases hx
  run l hst hl hs := ⟨hs.1.same rfl rfl fun _ => ⟨rfl, rfl⟩, LoadingOk.run hst hl hs.2⟩
  reject l hread hl hs := ⟨hs.1.same rfl rfl fun _ => ⟨rfl, rfl⟩, LoadingOk.unread hread hl hs.2⟩
  retry l hst hs := ⟨hs.1.same rfl rfl fun _ => ⟨rfl, rfl⟩, LoadingOk.quiet hst hs.2⟩

theorem selectionsLoaded_keeps : CommandsKeep SelectionsLoaded :=
  selectionsLoaded_coarse.commands fun _ =>
    ⟨((selections_iff State.reset).mpr ⟨by decide, resetMeetsInvariants.2.2.2.2.2.2.2.2.1⟩).same rfl rfl
        fun _ => ⟨rfl, rfl⟩,
      resetMeetsInvariants.2.2.2.2.2.2.1⟩

end Sys2Proof.Machine

namespace Sys2Proof

open Machine

/-- Settles O60: the selections are kept through every notice of the source table, those still to be given up named apart. -/
theorem selectionsStaySafe : Obligations.SelectionsStaySafe := by
  intro s t hsel hload htables hst
  obtain ⟨-, -, -, hsources, -⟩ := htables
  have hs : SelectionsLoaded s := ⟨(selections_iff s).mpr ⟨hsources, hsel⟩, hload⟩
  exact ((selections_iff t).mp (selectionsLoaded_keeps.step hs hst).1).2

end Sys2Proof
end
section
/-! PROOFS. The levels that follow from others: site state, conditions, ALARM, TXKEY, PINNED_COLLISION and the channels (O57). -/

namespace Sys2Proof.Machine

open Sys2Proof

/-! ### Conditions -/

/-- Every path's transmit condition is the derived one (R126). -/
abbrev CondsOk (s : State) : Prop := ∀ i : PathIx, (s.path i).cond = condOf s.gov.site (s.path i)

theorem derivedSite_congr {s t : State} (hst : t.station = s.station)
    (hlock : t.gov.lockoutDeadline = s.gov.lockoutDeadline) (hmute : t.gov.muteDeadline = s.gov.muteDeadline)
    (hpermit : t.lines.permit = s.lines.permit) : t.derivedSite = s.derivedSite := by
  simp only [State.derivedSite, hst, hlock, hmute, hpermit]

theorem alarmOf_congr {s t : State} (hst : t.station = s.station) (hsite : t.gov.site = s.gov.site)
    (hchain : t.mon.chainFault = s.mon.chainFault) (hinhibit : t.lines.inhibitAlarm = s.lines.inhibitAlarm) :
    alarmOf t = alarmOf s := by
  simp only [alarmOf, hst, hsite, hchain, hinhibit]

namespace LevelsOk

variable {s t : State}

theorem site (h : LevelsOk s) : s.gov.site = s.derivedSite := h.1

theorem conds (h : LevelsOk s) : CondsOk s := h.2.1

theorem alarm (h : LevelsOk s) : s.lines.alarm = alarmOf s := h.2.2.1

theorem key (h : LevelsOk s) : KeyOk s := h.2.2.2

/-- An act that derives the condition of every path it changes. -/
theorem act (hs : LevelsOk s) (h : Acts s t) (hcond : ∀ i : PathIx, (t.path i).cond = condOf s.gov.site (t.path i)) :
    LevelsOk t := by
  have hf := h.frame
  refine ⟨?_, fun i => ?_, ?_, h.keyOk (key hs)⟩
  · rw [hf.gov_eq, derivedSite_congr hf.station_eq (by rw [hf.gov_eq]) (by rw [hf.gov_eq]) hf.lines_permit_eq]
    exact site hs
  · rw [hf.gov_eq]; exact hcond i
  · rw [hf.lines_alarm_eq, alarmOf_congr hf.station_eq (by rw [hf.gov_eq]) hf.mon_chainFault_eq hf.lines_inhibitAlarm_eq]
    exact alarm hs

/-- An act on path i. -/
theorem actOn (hs : LevelsOk s) (i : PathIx) (h : Acts s t) (hothers : ∀ j, j ≠ i → t.path j = s.path j)
    (hi : (t.path i).cond = condOf s.gov.site (t.path i)) : LevelsOk t :=
  act hs h fun j => by
    rcases eq_or_ne j i with rfl | hne
    · exact hi
    · rw [hothers j hne]; exact conds hs j

/-- What no level reads may change. -/
theorem congr (hs : LevelsOk s) (hst : t.station = s.station) (hsite : t.gov.site = s.gov.site)
    (hlock : t.gov.lockoutDeadline = s.gov.lockoutDeadline) (hmute : t.gov.muteDeadline = s.gov.muteDeadline)
    (hlines : t.lines = s.lines) (hchain : t.mon.chainFault = s.mon.chainFault)
    (hpath : ∀ i : PathIx, (t.path i).state = (s.path i).state ∧
      (t.path i).txFaultDeadline = (s.path i).txFaultDeadline ∧
      ((t.path i).shed = (s.path i).shed ∨ (s.path i).state ≠ .on) ∧ (t.path i).cond = (s.path i).cond) : LevelsOk t := by
  refine ⟨?_, fun i => ?_, ?_, (key hs).congr (fun i => (hpath i).2.2.2) (by rw [hlines]) (by rw [hlines])⟩
  · rw [hsite, derivedSite_congr hst hlock hmute (by rw [hlines])]
    exact site hs
  · obtain ⟨hstate, hfault, hshed, hcond⟩ := hpath i
    rw [hsite, hcond, conds hs i]
    obtain hshed | hne := hshed
    · exact (condOf_congr hfault hstate hshed).symm
    · simp only [condOf, hfault, hstate]
      split
      · rfl
      · split <;> first | rfl | contradiction
  · rw [hlines, alarmOf_congr hst hsite hchain (by rw [hlines])]
    exact alarm hs

theorem benign (hs : LevelsOk s) (h : Benign s t) : LevelsOk t :=
  congr hs h.station (by rw [h.gov]) (by rw [h.gov]) (by rw [h.gov]) h.lines h.chainFault fun i => by
    obtain ⟨hst, -, -, -, hfault, hshed, hcond⟩ := h.path i
    exact ⟨hst, hfault, .inl hshed, hcond⟩

theorem served (hs : LevelsOk s) (h : Served s t) : LevelsOk t :=
  act hs h.acts fun i => by
    obtain hi | ⟨k, hi⟩ := h.path i
    · rw [hi]; exact conds hs i
    · exact hi.cond_eq

theorem withWaits (hs : LevelsOk s) (v : Vector PathWait 12) : LevelsOk { s with waits := v } :=
  congr hs rfl rfl rfl rfl rfl rfl fun _ => ⟨rfl, rfl, .inl rfl, rfl⟩

theorem withSlots (hs : LevelsOk s) (v : Vector SlotEntry 64) : LevelsOk { s with slots := v } :=
  congr hs rfl rfl rfl rfl rfl rfl fun _ => ⟨rfl, rfl, .inl rfl, rfl⟩

theorem withSources (hs : LevelsOk s) (v : List Source) : LevelsOk { s with sources := v } :=
  congr hs rfl rfl rfl rfl rfl rfl fun _ => ⟨rfl, rfl, .inl rfl, rfl⟩

theorem withFlags (hs : LevelsOk s) (a b : Bool) : LevelsOk { s with silentRelease := a, pinnedCollision := b } :=
  congr hs rfl rfl rfl rfl rfl rfl fun _ => ⟨rfl, rfl, .inl rfl, rfl⟩

theorem giveUp (hs : LevelsOk s) (c : Nat) (k : Slot) (e : PathEvent) : LevelsOk (giveUp c k e s) := by
  cases hk : (s.slot k).ownPath with
  | none =>
    refine act hs (Acts.giveUp s c k e) fun i => ?_
    rw [giveUp_path_ne (by simp [hk])]
    exact conds hs i
  | some i =>
    refine actOn hs i (Acts.giveUp s c k e) (fun j hne => giveUp_path_ne (by simpa [hk] using Ne.symm hne) c e) ?_
    rw [giveUp_path_self hk, slotLost_path_self]
    exact condOf_congr rfl rfl rfl

theorem won (hs : LevelsOk s) (k : Slot) : LevelsOk (claimWon k (s.modSlot k SlotEntry.wonHeld)) := by
  refine act hs ((Acts.modSlot s k SlotEntry.wonHeld).trans (Acts.claimWon _ k)) fun i => ?_
  by_cases h : ((s.modSlot k SlotEntry.wonHeld).slot k).ownPath = some i ∧ (s.path i).state = .claiming
  · rw [claimWon_path_self h.1 h.2]
    exact condOf_congr rfl rfl rfl
  · rw [claimWon_path_ne (not_and_or.mp h)]
    exact conds hs i

theorem selectAct (hs : LevelsOk s) (i : PathIx) (e : Source) (st : PathState) : LevelsOk (selectAct i e st s) := by
  refine actOn hs i (Acts.selectAct s i e st) (fun j hne => selectAct_path_ne s e st hne) ?_
  rw [selectAct_path_self]
  exact condOf_congr rfl rfl rfl

theorem failAct (hs : LevelsOk s) {i : PathIx} (ha : acquiring (s.path i).state = true) : LevelsOk (failAct i s) := by
  refine actOn hs i (Acts.failAct s i) (fun j hne => failAct_path_ne s hne) ?_
  rw [failAct_path_self ha]
  exact condOf_congr rfl rfl rfl

theorem loseSource (hs : LevelsOk s) {i : PathIx} (hw : watching (s.path i).state = true) : LevelsOk (loseSource i s) := by
  refine actOn hs i (Acts.loseSource s i) (fun j hne => loseSource_path_ne s hne) ?_
  rw [loseSource_path_self hw]
  exact condOf_congr rfl rfl rfl

theorem expireHoldover (hs : LevelsOk s) {i : PathIx} (hst : (s.path i).state ≠ .on) : LevelsOk (expireHoldover i s) := by
  refine actOn hs i (Acts.expireHoldover s i) (fun j hne => expireHoldover_path_ne s hne) ?_
  rw [expireHoldover_path_self hst]
  exact condOf_congr rfl rfl rfl

theorem acquireAct (hs : LevelsOk s) {i : PathIx} (hst : (s.path i).state ≠ .on) : LevelsOk (acquireAct i s) := by
  refine actOn hs i (Acts.acquireAct s i) (fun j hne => acquireAct_path_ne s hne) ?_
  rw [acquireAct_path_self hst]
  exact condOf_congr rfl rfl rfl

end LevelsOk

theorem levelsOk_fine : FineKeep LevelsOk where
  benign h hs := LevelsOk.benign hs h
  served h hs := LevelsOk.served hs h
  waits v hs := LevelsOk.withWaits hs v
  flags a b hs := LevelsOk.withFlags hs a b
  peers _ hs := LevelsOk.withSlots hs _
  giveUp _ hs := LevelsOk.giveUp hs _ _ _
  collision _ _ hs := LevelsOk.withSlots hs _
  select _ _ _ hs := LevelsOk.selectAct hs _ _ _
  fail ha hs := LevelsOk.failAct hs ha
  lose hw hs := LevelsOk.loseSource hs hw
  expire hst hs := LevelsOk.expireHoldover hs (by rcases hst with h | h <;> simp [h])
  acquired ha hs := LevelsOk.acquireAct hs (by rintro h; simp [h, acquiring] at ha)
  won _ hs := LevelsOk.won hs _

theorem levelsOk_acts : ActsKeep LevelsOk :=
  levelsOk_fine.acts_of_sources (fun _ _ hs => LevelsOk.withSources hs _) fun {s i} f hf hs => by
    refine LevelsOk.actOn hs i (Acts.modPath s i f fun p => by rw [(hf p).1]) (fun j hne => State.path_modPath_ne _ _ _ hne) ?_
    rw [State.path_modPath_self, (hf _).1]
    exact (LevelsOk.conds hs i).trans (condOf_congr rfl rfl rfl)

/-! ### A change of the site transmit state -/

theorem keyOk_alarmUpdate {s : State} (hs : KeyOk s) : KeyOk (alarmUpdate s) :=
  hs.congr (fun i => by simp only [alarmUpdate, State.path]) rfl rfl

/-- The lines after a change of the site transmit state, but for the inhibit alarm. -/
theorem writeSite_lines (new : Site) (s : State) : (writeSite new s).lines.txkey = s.lines.txkey ∧
    (writeSite new s).lines.keyHoldDeadline = s.lines.keyHoldDeadline ∧
    (writeSite new s).lines.permit = s.lines.permit := by
  simp only [writeSite, linesAfter]
  split
  · exact ⟨rfl, rfl, rfl⟩
  · split <;> exact ⟨rfl, rfl, rfl⟩

/-- The state with every level of a new site transmit state derived, before freed notices (R139). -/
def siteLevels (new : Site) (s : State) : State :=
  alarmUpdate (refreshAll (if s.gov.site == .transmitting then cutVisit (writeSite new s) else writeSite new s))

theorem enterSite_eq (new : Site) (s : State) : enterSite new s =
    if (siteLevels new s).claimingPermitted then serveMarks (noticeWaiting (siteLevels new s)) else siteLevels new s := by
  rfl

theorem siteLevels_frame (new : Site) (s : State) : SiteFrame s (siteLevels new s) := by
  unfold siteLevels
  have hcut : SiteFrame s (if s.gov.site == .transmitting then cutVisit (writeSite new s) else writeSite new s) := by
    split
    · exact (writeSite_frame new s).trans (cutVisit_frame _)
    · exact writeSite_frame new s
  exact (hcut.trans (Acts.refreshAll _).frame.siteFrame).trans (alarmUpdate_frame _)

/-- What the site's visit, when it is cut, leaves of the written state. -/
theorem cutWrite_gov (new : Site) (s : State) :
    (if s.gov.site == .transmitting then cutVisit (writeSite new s) else writeSite new s).gov = (writeSite new s).gov := by
  split <;> rfl

theorem cutWrite_path (new : Site) (s : State) (i : PathIx) :
    (if s.gov.site == .transmitting then cutVisit (writeSite new s) else writeSite new s).path i = s.path i := by
  split <;> simp only [cutVisit, writeSite, State.path]

theorem alarmUpdate_gov (s : State) : (alarmUpdate s).gov = s.gov := rfl

theorem alarmUpdate_path (s : State) (i : PathIx) : (alarmUpdate s).path i = s.path i := by
  simp only [alarmUpdate, State.path]

theorem siteLevels_gov (new : Site) (s : State) : (siteLevels new s).gov = (writeSite new s).gov := by
  unfold siteLevels
  rw [alarmUpdate_gov, (Acts.refreshAll _).frame.gov_eq, cutWrite_gov]

theorem siteLevels_site (new : Site) (s : State) : (siteLevels new s).gov.site = new := by
  rw [siteLevels_gov]; rfl

theorem siteLevels_path (new : Site) (s : State) (i : PathIx) :
    (siteLevels new s).path i = { s.path i with cond := condOf new (s.path i) } := by
  unfold siteLevels
  rw [alarmUpdate_path, refreshAll_path, cutWrite_path, cutWrite_gov]
  simp only [writeSite]

theorem siteLevels_key {s : State} (hs : KeyOk s) (new : Site) : KeyOk (siteLevels new s) := by
  obtain ⟨hkey, hhold, -⟩ := writeSite_lines new s
  have hwrite : KeyOk (if s.gov.site == .transmitting then cutVisit (writeSite new s) else writeSite new s) := by
    refine hs.congr (fun i => by rw [cutWrite_path]) ?_ ?_
    · split
      · exact hkey
      · exact hkey
    · split
      · exact hhold
      · exact hhold
  unfold siteLevels
  exact keyOk_alarmUpdate (Acts.keyOk (Acts.refreshAll _) hwrite)

theorem SiteFrame.derivedSite_eq {s t : State} (h : SiteFrame s t) : t.derivedSite = s.derivedSite := by
  unfold SiteFrame at h
  exact derivedSite_congr (by rw [h]) (by rw [h]) (by rw [h]) (by rw [h])

theorem alarmUpdate_alarm (s : State) : (alarmUpdate s).lines.alarm = alarmOf (alarmUpdate s) := rfl

theorem levelsOk_alarmUpdate {s : State} (hsite : s.gov.site = s.derivedSite) (hcond : CondsOk s) (hkey : KeyOk s) :
    LevelsOk (alarmUpdate s) :=
  ⟨hsite, fun i => by rw [alarmUpdate_path]; exact hcond i, alarmUpdate_alarm s, keyOk_alarmUpdate hkey⟩

theorem levelsOk_siteLevels {s : State} (hs : KeyOk s) : LevelsOk (siteLevels s.derivedSite s) := by
  refine ⟨?_, fun i => ?_, ?_, siteLevels_key hs _⟩
  · rw [siteLevels_site, (siteLevels_frame _ s).derivedSite_eq]
  · rw [siteLevels_path, siteLevels_site]
    exact condOf_congr rfl rfl rfl
  · exact alarmUpdate_alarm _

theorem levelsOk_enterSite {s : State} (hs : KeyOk s) : LevelsOk (enterSite s.derivedSite s) := by
  rw [enterSite_eq]
  split
  · exact levelsOk_fine.notify (levelsOk_siteLevels hs)
  · exact levelsOk_siteLevels hs

/-- The site transmit state derived again, on a state whose conditions, key and ALARM fit the state it had. -/
theorem levelsOk_rederiveSite {s : State} (hcond : CondsOk s) (hkey : KeyOk s) (halarm : s.lines.alarm = alarmOf s) :
    LevelsOk (rederiveSite s) := by
  unfold rederiveSite
  split
  · rename_i h
    exact ⟨(beq_iff_eq.mp h).symm, hcond, halarm, hkey⟩
  · exact levelsOk_enterSite hkey

/-- The same, when ALARM is derived after it. -/
theorem levelsOk_alarmUpdate_rederiveSite {s : State} (hcond : CondsOk s) (hkey : KeyOk s) :
    LevelsOk (alarmUpdate (rederiveSite s)) := by
  have h : LevelsOk (rederiveSite s) ∨ s.derivedSite = s.gov.site := by
    by_cases he : s.derivedSite = s.gov.site
    · exact .inr he
    · left
      unfold rederiveSite
      rw [if_neg (by simpa using he)]
      exact levelsOk_enterSite hkey
  obtain h | h := h
  · exact levelsOk_alarmUpdate (LevelsOk.site h) (LevelsOk.conds h) (LevelsOk.key h)
  · have he : rederiveSite s = s := by unfold rederiveSite; rw [if_pos (by simpa using h)]
    rw [he]
    exact levelsOk_alarmUpdate h.symm hcond hkey

/-! ### The governor's and the lines' own steps -/

section

variable {s : State}

theorem levelsOk_rederive_gov (hs : LevelsOk s) {g : Governor} (hsite : g.site = s.gov.site) :
    LevelsOk (rederiveSite { s with gov := g }) :=
  levelsOk_rederiveSite (fun i => by rw [hsite]; exact LevelsOk.conds hs i)
    ((LevelsOk.key hs).congr (fun _ => rfl) rfl rfl)
    ((LevelsOk.alarm hs).trans (alarmOf_congr (s := s) (t := { s with gov := g }) rfl hsite rfl rfl).symm)

theorem levelsOk_withGov (hs : LevelsOk s) {g : Governor} (hsite : g.site = s.gov.site)
    (hlock : g.lockoutDeadline = s.gov.lockoutDeadline) (hmute : g.muteDeadline = s.gov.muteDeadline) :
    LevelsOk { s with gov := g } :=
  LevelsOk.congr hs rfl hsite hlock hmute rfl rfl fun _ => ⟨rfl, rfl, .inl rfl, rfl⟩

theorem recordFault_site (now : Time) (g : Governor) : (g.recordFault now).site = g.site := by
  unfold Governor.recordFault
  dsimp only
  split <;> rfl

theorem levelsOk_takeClipCount (hs : LevelsOk s) (n : Nat) : LevelsOk (takeClipCount n s) := by
  unfold takeClipCount
  split
  · exact LevelsOk.benign (levelsOk_rederive_gov hs (recordFault_site _ _)) (Benign.silencePending _)
  · exact hs

theorem levelsOk_muteEnd (hs : LevelsOk s) : LevelsOk (muteEnd s) := by
  unfold muteEnd
  split
  · exact levelsOk_rederive_gov hs rfl
  · exact hs

theorem levelsOk_lockoutEnd (hs : LevelsOk s) : LevelsOk (lockoutEnd s) := by
  unfold lockoutEnd
  split
  · exact levelsOk_rederive_gov hs rfl
  · exact hs

theorem levelsOk_txpermitChange (hs : LevelsOk s) (level : Bool) : LevelsOk (txpermitChange level s) := by
  unfold txpermitChange
  split
  · exact hs
  · have hcond := LevelsOk.conds hs
    have halarm := LevelsOk.alarm hs
    exact levelsOk_rederiveSite (fun i => hcond i) ((LevelsOk.key hs).congr (fun _ => rfl) rfl rfl) halarm

theorem levelsOk_graceDeadline (hs : LevelsOk s) : LevelsOk (graceDeadline s) := by
  unfold graceDeadline
  split
  · exact levelsOk_acts.silent (levelsOk_withGov hs rfl rfl rfl)
  · exact hs

theorem levelsOk_keyHoldExpiry (hs : LevelsOk s) : LevelsOk (keyHoldExpiry s) := by
  unfold keyHoldExpiry
  split
  · rename_i hdue
    obtain ⟨hsite, hcond, halarm, hkey, hhold⟩ := hs
    have hsome : s.lines.keyHoldDeadline.isSome = true := by
      cases h : s.lines.keyHoldDeadline with
      | none => rw [h] at hdue; cases hdue
      | some d => rfl
    have hair : s.anyOnAir = false := by
      rw [hsome] at hhold
      simpa using (Bool.and_eq_true_iff.mp hhold.symm).2
    exact ⟨hsite, hcond, halarm, fun h => absurd (hair.symm.trans h) (by decide), rfl⟩
  · exact hs

theorem levelsOk_inhibitAlarm (hs : LevelsOk s) : LevelsOk (inhibitAlarm s) := by
  unfold inhibitAlarm
  split
  · have hsite := LevelsOk.site hs
    have hcond := LevelsOk.conds hs
    exact levelsOk_alarmUpdate hsite (fun i => hcond i) ((LevelsOk.key hs).congr (fun _ => rfl) rfl rfl)
  · exact hs

/-! ### Loads -/

theorem levelsOk_enterRunning (hs : LevelsOk s) (hst : s.station = .listen) : LevelsOk (enterRunning s) := by
  have hcond := LevelsOk.conds hs
  refine levelsOk_rederiveSite (fun i => hcond i) ((LevelsOk.key hs).congr (fun _ => rfl) rfl rfl)
    ((LevelsOk.alarm hs).trans ?_)
  simp only [alarmOf, hst]
  rfl

theorem levelsOk_endOfListening (hs : LevelsOk s) : LevelsOk (endOfListening s) := by
  unfold endOfListening
  split
  · rename_i hc
    exact levelsOk_enterRunning hs (by simpa using (Bool.and_eq_true_iff.mp hc).1)
  · exact hs

theorem installImage_gov (s : State) (bs : List Byte) : (installImage bs s).gov = s.gov := rfl

theorem condsOk_install (hs : CondsOk s) (bs : List Byte) : CondsOk (installImage bs s) := fun i => by
  rw [installImage_path, installImage_gov]
  obtain h | ⟨hidle, h⟩ := loadPath_cases s.now (settleCarry bs i.val).enabled i (s.path i) <;> rw [h]
  · exact hs i
  · refine (hs i).trans ?_
    simp [condOf, hidle]

theorem keyOk_install (hs : KeyOk s) (bs : List Byte) : KeyOk (installImage bs s) := by
  refine hs.congr (fun i => ?_) rfl rfl
  rw [installImage_path]
  obtain h | ⟨-, h⟩ := loadPath_cases s.now (settleCarry bs i.val).enabled i (s.path i) <;> rw [h]

theorem levelsOk_loadEnd (hs : LevelsOk s) : LevelsOk (loadEnd s) := by
  unfold loadEnd
  split
  · split
    · have hup := levelsOk_alarmUpdate_rederiveSite (condsOk_install (LevelsOk.conds hs) s.loader.image)
        (keyOk_install (LevelsOk.key hs) s.loader.image)
      unfold acceptImage
      dsimp only
      split
      · exact levelsOk_endOfListening hup
      · exact hup
    · have hcond := LevelsOk.conds hs
      exact levelsOk_alarmUpdate_rederiveSite (fun i => hcond i) ((LevelsOk.key hs).congr (fun _ => rfl) rfl rfl)
  · exact hs

theorem levelsOk_withLoader (hs : LevelsOk s) (l : Loader) : LevelsOk { s with loader := l } :=
  LevelsOk.congr hs rfl rfl rfl rfl rfl rfl fun _ => ⟨rfl, rfl, .inl rfl, rfl⟩

/-! ### Verdicts -/

theorem levelsOk_enterTxFault (hs : LevelsOk s) (i : PathIx) : LevelsOk (enterTxFault i s) := by
  refine LevelsOk.actOn hs i (Acts.enterTxFault s i) (fun j hne => ?_) ?_
  · unfold enterTxFault
    rw [refreshPath_path_ne _ hne, recordEvent_path_ne _ _ hne, State.path_modPath_ne _ _ _ hne]
  · unfold enterTxFault
    rw [refreshPath_path_self]
    exact condOf_congr rfl rfl rfl

theorem levelsOk_endTxFault (hs : LevelsOk s) (i : PathIx) : LevelsOk (endTxFault i s) := by
  refine LevelsOk.actOn hs i (Acts.endTxFault s i) (fun j hne => ?_) ?_
  · unfold endTxFault
    rw [refreshPath_path_ne _ hne, recordEvent_path_ne _ _ hne, State.path_modPath_ne _ _ _ hne]
  · unfold endTxFault
    rw [refreshPath_path_self]
    exact condOf_congr rfl rfl rfl

/-- CHAIN_FAULT written, with ALARM derived again (R152). -/
theorem levelsOk_chainFault (hs : LevelsOk s) (b : Bool) :
    LevelsOk (alarmUpdate { s with mon := { s.mon with chainFault := b } }) :=
  have hsite := LevelsOk.site hs
  have hcond := LevelsOk.conds hs
  levelsOk_alarmUpdate hsite (fun i => hcond i) ((LevelsOk.key hs).congr (fun _ => rfl) rfl rfl)

theorem Benign.recordFail (s : State) (i : PathIx) : Benign s (recordFail i s) := by
  have h (t : State) : Benign t (State.setVerdict { (cutVisit t) with mon := { (cutVisit t).mon with
    failureLog := logFailure s.now (cutVisit t).mon.failureLog } } i (some .fail)) :=
    { lists := fun h => ⟨h.tuning, h.requests, length_logFailure_le _ _, h.history⟩ }
  exact (Benign.modPath s i (f := fun p => { p with monitorFails := min 2 (p.monitorFails + 1) })).trans (h _)

theorem levelsOk_failVerdict (hs : LevelsOk s) (i : PathIx) : LevelsOk (failVerdict i s) := by
  have hrecord := LevelsOk.benign hs (Benign.recordFail s i)
  unfold failVerdict
  dsimp only
  generalize recordFail i s = u at hrecord ⊢
  split
  · exact levelsOk_chainFault hrecord true
  · split
    · exact levelsOk_enterTxFault hrecord i
    · exact hrecord

theorem levelsOk_passVerdict (hs : LevelsOk s) (i : PathIx) : LevelsOk (passVerdict i s) := by
  have hv (t : State) : Benign t (State.setVerdict (cutVisit t) i (some .pass)) := {}
  have hpass := LevelsOk.benign hs
    ((Benign.modPath s i (f := fun p => { p with monitorFails := 0 })).trans (hv _))
  unfold passVerdict
  dsimp only
  generalize (cutVisit (s.modPath i _)).setVerdict i (some .pass) = u at hpass ⊢
  split
  · have hclear := LevelsOk.benign hpass (Benign.updPaths u
      (f := fun _ p => if p.txFaultDeadline.isSome then p else { p with monitorFails := 0 })
      fun _ p => by split <;> simp)
    exact levelsOk_chainFault hclear false
  · exact hpass

theorem levelsOk_ownTagCheck (hs : LevelsOk s) (f : Frame) : LevelsOk (ownTagCheck f s) := by
  unfold ownTagCheck
  split
  · exact hs
  · split
    · split
      · exact levelsOk_passVerdict hs _
      · exact levelsOk_failVerdict hs _
    · exact hs

theorem levelsOk_visitTimeout (hs : LevelsOk s) : LevelsOk (visitTimeout s) := by
  unfold visitTimeout
  split
  · exact hs
  · split
    · exact levelsOk_failVerdict hs _
    · exact hs

theorem levelsOk_txRestored (hs : LevelsOk s) (i : PathIx) : LevelsOk (txRestored i s) := by
  unfold txRestored
  split
  · exact levelsOk_endTxFault hs i
  · exact hs

/-! ### The evaluation -/

theorem levelsOk_shedOne (hs : LevelsOk s) (i : PathIx) : LevelsOk (shedOne i s) := by
  refine LevelsOk.actOn hs i (Acts.shedOne s i) (fun j hne => ?_) ?_
  · unfold shedOne
    rw [refreshPath_path_ne _ hne, recordEvent_path_ne _ _ hne, State.path_modPath_ne _ _ _ hne]
  · unfold shedOne
    rw [refreshPath_path_self]
    exact condOf_congr rfl rfl rfl

theorem levelsOk_shedLoop (n : Nat) {s : State} (hs : LevelsOk s) : LevelsOk (shedLoop n s) := by
  induction n generalizing s with
  | zero => exact hs
  | succ n ih =>
    unfold shedLoop
    split
    · split
      · exact hs
      · exact ih (levelsOk_shedOne hs _)
    · exact hs

theorem levelsOk_clearShedFlags (hs : LevelsOk s) : LevelsOk (clearShedFlags s) := by
  refine LevelsOk.congr hs rfl rfl rfl rfl rfl rfl fun i => ?_
  have h : (clearShedFlags s).path i =
      if (s.path i).state == .on then s.path i else { s.path i with shed := false } := by
    simp [clearShedFlags, State.path]
  rw [h]
  split
  · exact ⟨rfl, rfl, .inl rfl, rfl⟩
  · rename_i hne
    exact ⟨rfl, rfl, .inr (by simpa using hne), rfl⟩

theorem levelsOk_restoreTest (hs : LevelsOk s) : LevelsOk (restoreTest s) := by
  unfold restoreTest
  split
  · exact levelsOk_withGov hs rfl rfl rfl
  · split
    · split <;> exact levelsOk_withGov hs rfl rfl rfl
    · exact levelsOk_withGov hs rfl rfl rfl

theorem levelsOk_applyBackoff (hs : LevelsOk s) (cap : Nat) : LevelsOk (applyBackoff cap s) := by
  obtain ⟨b, a, h⟩ := applyBackoff_shape cap s
  rw [h]
  have hg := levelsOk_withGov hs (g := { s.gov with backoff := b, evaluationCap := cap, amplitudes := a }) rfl rfl rfl
  exact LevelsOk.benign hg (Benign.writePending b _)

theorem levelsOk_raiseCap (hs : LevelsOk s) : LevelsOk (raiseCap s) := levelsOk_withGov hs rfl rfl rfl

theorem levelsOk_compositeEvaluation (hs : LevelsOk s) : LevelsOk (compositeEvaluation s) := by
  unfold compositeEvaluation
  exact levelsOk_raiseCap (levelsOk_applyBackoff (levelsOk_restoreTest (levelsOk_shedLoop 12 (levelsOk_clearShedFlags hs))) _)

theorem levelsOk_restoreOne (hs : LevelsOk s) (i : PathIx) : LevelsOk (restoreOne i s) := by
  have hg := levelsOk_withGov hs (g := { s.gov with restoreCandidate := none, restoreCount := 0 }) rfl rfl rfl
  refine LevelsOk.actOn hg i (((Acts.modPath _ i fun p => { p with shed := false }).trans
    (Acts.recordEvent _ i .restored)).trans (Acts.refreshPath _ i)) (t := restoreOne i s) (fun j hne => ?_) ?_
  · unfold restoreOne
    dsimp only
    rw [refreshPath_path_ne _ hne]
    exact (recordEvent_path_ne _ .restored hne).trans (State.path_modPath_ne _ _ _ hne)
  · unfold restoreOne
    dsimp only
    rw [refreshPath_path_self]
    exact condOf_congr rfl rfl rfl

theorem levelsOk_restore (hs : LevelsOk s) : LevelsOk (restore s) := by
  obtain h | ⟨i, -, -, h⟩ := restore_cases s <;> rw [h]
  · exact hs
  · exact levelsOk_applyBackoff (levelsOk_restoreOne hs i) _

end

end Sys2Proof.Machine
end
section
/-! PROOFS. Every command keeps the levels derived, PINNED_COLLISION true and the channels clear (O57), and touches no
waiting command (O2). -/

namespace Sys2Proof.Machine

open Sys2Proof

/-! ### LevelsOk through every command -/

theorem LevelsOk.opening {s : State} (hs : LevelsOk s) : LevelsOk (openBoundary s) := by
  refine LevelsOk.congr hs rfl rfl rfl rfl rfl rfl fun i => ?_
  rw [openBoundary_path]
  exact ⟨rfl, rfl, .inl rfl, rfl⟩

theorem levelsOk_dwellCheckClose {s : State} (hs : LevelsOk s) : LevelsOk (dwellCheckClose s) := by
  have hend (t : State) : Benign t (endDwell t) := {}
  unfold dwellCheckClose
  split
  · exact hs
  · split
    · split
      · exact LevelsOk.benign hs {}
      · exact LevelsOk.benign (LevelsOk.withSources hs _) (hend _)
    · exact hs

theorem levelsOk_takeStep (ahead : PathIx → Bool) (b : BoundaryStep) {s : State} (hs : LevelsOk s) :
    LevelsOk (takeStep ahead b s) := by
  have h := levelsOk_acts
  cases b
  case loadEnd => exact levelsOk_loadEnd hs
  case configRetry => simp only [takeStep, configRetry]; split <;> [exact levelsOk_withLoader hs _; exact hs]
  case endOfListening => exact levelsOk_endOfListening hs
  case tuningEntryApplied => exact LevelsOk.benign hs (Benign.tuningEntryApplied s)
  case framerOutcome ix order => exact h.framerOutcome (fun f _ ht => levelsOk_ownTagCheck ht f) ix order hs
  case frameStart => exact LevelsOk.benign hs (Benign.frameStartAmong s ahead)
  case neighbourSweep order => exact h.neighbourSweep order hs
  case sourceSweep => exact h.sourceSweep hs
  case peerClaimExpiry =>
    have hp := h.peerClaimExpiry hs
    simpa only [takeStep] using hp
  case holdOffEnd k => exact h.holdOffEnd k hs
  case collisionExpiry k => exact h.collisionExpiry k hs
  case claimRetryDeadline i => exact h.claimRetryDeadline i hs
  case pathEvaluation i => exact h.pathEvaluation i hs
  case acquireTimeout i => exact h.acquireTimeout i hs
  case carrierCheckFail i => exact h.carrierCheckFail i hs
  case lowCarrierLoss i => exact h.lowCarrierLoss i hs
  case tagLoss i => exact h.tagLoss i hs
  case holdoverExpired i => exact h.holdoverExpired i hs
  case txpermitChange level => exact levelsOk_txpermitChange hs level
  case muteEnd => exact levelsOk_muteEnd hs
  case lockoutEnd => exact levelsOk_lockoutEnd hs
  case faultHistoryExpiry => exact levelsOk_withGov hs rfl rfl rfl
  case graceDeadline => exact levelsOk_graceDeadline hs
  case txRestored i => exact levelsOk_txRestored hs i
  case keyHoldExpiry => exact levelsOk_keyHoldExpiry hs
  case inhibitAlarm => exact levelsOk_inhibitAlarm hs
  case failureLogExpiry => exact LevelsOk.benign hs (Benign.failureLogExpiry s)
  case visitStart => exact LevelsOk.benign hs (Benign.visitStart s)
  case visitTimeout => exact levelsOk_visitTimeout hs
  case dwellStart => exact LevelsOk.benign hs (Benign.dwellStart s)
  case dwellCheckClose => exact levelsOk_dwellCheckClose hs
  case dwellDeadline => exact LevelsOk.benign hs (Benign.dwellDeadline s)
  case statusRecord => exact LevelsOk.benign hs (Benign.statusRecord s)

/-- A sample writes no field that a level reads. -/
theorem LevelsOk.sample {s t : State} (hs : LevelsOk s) (hst : t.station = s.station) (hgov : t.gov = s.gov)
    (hlines : t.lines = s.lines) (hchain : t.mon.chainFault = s.mon.chainFault) (hpaths : t.paths = s.paths) : LevelsOk t :=
  LevelsOk.congr hs hst (by rw [hgov]) (by rw [hgov]) (by rw [hgov]) hlines hchain fun i => by
    rw [State.path, hpaths]
    exact ⟨rfl, rfl, .inl rfl, rfl⟩

theorem levelsOk_keeps : CommandsKeep LevelsOk where
  pending _ _ hs := LevelsOk.sample hs rfl rfl rfl rfl rfl
  reset s _ := LevelsOk.sample (s := State.reset) resetMeetsInvariants.2.2.1 rfl rfl rfl rfl rfl
  opening _ hs := LevelsOk.opening hs
  level reports i s hs := LevelsOk.benign hs (Benign.levelPath s reports i)
  clips n _ hs := levelsOk_takeClipCount hs n
  evaluation _ hs := levelsOk_compositeEvaluation hs
  restore _ hs := levelsOk_restore hs
  bit i s hs := LevelsOk.benign hs (Benign.handBit s i)
  takeStep ahead b _ hs := levelsOk_takeStep ahead b hs
  framer ix _ s _ hs := LevelsOk.benign hs (Benign.modFramer s ix _)
  feed ix _ s hs := LevelsOk.benign hs (Benign.modFramer s ix _)
  band _ _ _ _ hs := LevelsOk.sample hs rfl rfl rfl rfl rfl
  coupler _ _ _ hs := LevelsOk.sample hs rfl rfl rfl rfl rfl
  composite _ _ hs := LevelsOk.sample hs rfl rfl rfl rfl rfl
  byteRead b s hs := by
    unfold configByteRead
    split
    · exact levelsOk_withLoader hs _
    · exact hs
  bitSent s hs := LevelsOk.benign hs (Benign.statusBitSent s)

/-! ### PINNED_COLLISION (R102) -/

theorem SlotEntry.pinnedClash_iff (e : SlotEntry) :
    e.pinnedClash = true ↔ e.own = .held ∧ e.ownPinned = true ∧ ∃ p ∈ e.peers, p.pinned = true := by
  simp [SlotEntry.pinnedClash, and_assoc]

theorem SlotEntry.pinnedClash_attr (e : SlotEntry) (a : SlotAttr) : SlotEntry.pinnedClash { e with attr := a } = e.pinnedClash :=
  rfl

theorem installImage_pinned (s : State) (bs : List Byte) : (installImage bs s).pinnedCollision = s.pinnedCollision := rfl

theorem pinnedFlagOk_iff (s : State) :
    PinnedFlagOk s ↔ (s.pinnedCollision = true ↔ ∃ k : Slot, (s.slot k).pinnedClash = true) := by
  simp only [PinnedFlagOk, SlotEntry.pinnedClash_iff]

namespace PinnedFlagOk

variable {s t : State}

theorem congr (hs : PinnedFlagOk s) (hslot : ∀ k : Slot, t.slot k = s.slot k)
    (hflag : t.pinnedCollision = s.pinnedCollision) : PinnedFlagOk t := by
  unfold PinnedFlagOk
  simp only [hslot, hflag]
  exact hs

theorem withWaits (hs : PinnedFlagOk s) (v : Vector PathWait 12) : PinnedFlagOk { s with waits := v } :=
  congr hs (fun _ => rfl) rfl

theorem congrClash (hs : PinnedFlagOk s) (hslot : ∀ k : Slot, (t.slot k).pinnedClash = (s.slot k).pinnedClash)
    (hflag : t.pinnedCollision = s.pinnedCollision) : PinnedFlagOk t := by
  simp only [pinnedFlagOk_iff, hslot, hflag] at hs ⊢
  exact hs

/-- A write of one slot that leaves its pinned clash as it is. -/
theorem modSlot (hs : PinnedFlagOk s) (k : Slot) {f : SlotEntry → SlotEntry}
    (hf : (f (s.slot k)).pinnedClash = (s.slot k).pinnedClash) : PinnedFlagOk (s.modSlot k f) := by
  simp only [pinnedFlagOk_iff] at hs ⊢
  rw [State.modSlot_pinnedCollision, hs]
  refine exists_congr fun j => ?_
  rcases eq_or_ne j k with rfl | hne
  · rw [State.slot_modSlot_self, hf]
  · rw [State.slot_modSlot_ne _ _ _ hne]

/-- The flag derived again is true of any state. -/
theorem updated (s : State) : PinnedFlagOk (pinnedUpdate s) := by
  rw [pinnedFlagOk_iff]
  simp [pinnedUpdate, State.slot, mem_indices]

theorem moved (hs : PinnedFlagOk s) (i : PathIx) (st : PathState) : PinnedFlagOk (movePath i st s) :=
  hs.congr (fun k => movePath_slot s i st k) (movePath_pinnedCollision s i st)

theorem modPath (hs : PinnedFlagOk s) (i : PathIx) (f : PathRec → PathRec) : PinnedFlagOk (s.modPath i f) :=
  hs.congr (fun _ => rfl) rfl

theorem event (hs : PinnedFlagOk s) (i : PathIx) (e : PathEvent) : PinnedFlagOk (recordEvent i e s) :=
  hs.congr (fun _ => rfl) rfl

theorem chosen (hs : PinnedFlagOk s) (i : PathIx) : PinnedFlagOk (chooseAndClaim i s) := by
  obtain h | ⟨-, -, -, -, h⟩ | ⟨-, -, k, -, h⟩ := chooseAndClaim_cases s i <;> rw [h]
  · exact hs.congr (fun _ => rfl) rfl
  · exact updated _
  · exact updated _

theorem marks (hs : PinnedFlagOk s) : PinnedFlagOk (serveMarks s) :=
  forPaths_keeps (fun i t ht => by
    split
    · exact ht.chosen i
    · exact ht) hs

theorem settled (hs : PinnedFlagOk t) (s : State) : PinnedFlagOk (settleNotices s t) := by
  unfold settleNotices
  refine marks ?_
  rw [noticeFreed_eq]
  exact hs.congr (fun _ => rfl) rfl

theorem selected (hs : PinnedFlagOk s) (i : PathIx) (e : Source) (st : PathState) : PinnedFlagOk (selectAct i e st s) := by
  unfold selectAct
  refine moved (event (s := tuneRequest i .receive e.slot _) ?_ i _) i st
  exact hs.congr (fun _ => rfl) rfl

theorem penalised (hs : PinnedFlagOk s) (i : PathIx) : PinnedFlagOk (penaliseSelected i s) := by
  refine hs.congr (fun k => penaliseSelected_slot s i k) ?_
  unfold penaliseSelected
  split <;> rfl

theorem cleared (hs : PinnedFlagOk s) (i : PathIx) : PinnedFlagOk (clearSource i s) := hs.congr (fun _ => rfl) rfl

theorem dropped (hs : PinnedFlagOk s) (i : PathIx) : PinnedFlagOk (dropOutput i s) := by
  refine hs.congr (fun k => dropOutput_slot s i k) ?_
  simp [dropOutput, clearOutput, tuneCancel]

theorem failed (hs : PinnedFlagOk s) (i : PathIx) : PinnedFlagOk (failAct i s) := by
  have hclear := ((hs.penalised i).cleared i).event i .acquireFailed
  unfold failAct
  dsimp only
  split
  · exact moved (hclear.modPath i _) i _
  · exact moved hclear i _

theorem lost (hs : PinnedFlagOk s) (i : PathIx) : PinnedFlagOk (loseSource i s) := by
  have hclear := (hs.cleared i).event i .sourceLost
  unfold loseSource
  dsimp only
  split
  · exact hclear.moved i _
  · exact ((updated _).dropped i).moved i _
  · exact (hclear.modPath i _).moved i _
  all_goals exact hs

theorem expired (i : PathIx) (s : State) : PinnedFlagOk (expireHoldover i s) :=
  (((updated _).dropped i).event i _).moved i _

theorem acquired (hs : PinnedFlagOk s) (i : PathIx) : PinnedFlagOk (acquireAct i s) := by
  unfold acquireAct
  split
  · exact (((hs.modPath i _).modPath i _).event i _).moved i _
  · exact ((hs.modPath i _).event i _).moved i _

theorem restarted (hs : PinnedFlagOk s) (k : Slot) : PinnedFlagOk (restartCollision k s) := by
  refine hs.modSlot k ?_
  split <;> rfl

end PinnedFlagOk

theorem pinnedFlagOk_sourceLost (i : PathIx) (s : State) (hs : PinnedFlagOk s) : PinnedFlagOk (sourceLost i s) := by
  obtain h | ⟨-, -, h⟩ | ⟨-, -, h⟩ := sourceLost_cases s i <;> rw [h]
  · exact hs
  · exact (hs.failed i).settled s
  · exact (hs.lost i).settled s

theorem silentSlot_slot_self (s : State) (k : Slot) :
    (silentSlot k s).slot k = if (s.slot k).own = .none then s.slot k else (s.slot k).cleared := by
  rw [silentSlot_eq]
  split
  · rfl
  · rw [giveUp_slot_self]

theorem silentSlot_slot_ne (s : State) {j k : Slot} (h : j ≠ k) : (silentSlot k s).slot j = s.slot j := by
  rw [silentSlot_eq]
  split
  · rfl
  · rw [giveUp_slot_ne _ _ _ h]

theorem silentReleaseAll_slot (s : State) (k : Slot) :
    (silentReleaseAll s).slot k = if (s.slot k).own = .none then s.slot k else (s.slot k).cleared := by
  have hflags (t : State) (a b : Bool) : State.slot { t with silentRelease := a, pinnedCollision := b } k = t.slot k := rfl
  unfold silentReleaseAll
  rw [hflags]
  exact forSlots_pointwise State.slot silentSlot (fun _ e => if e.own = .none then e else e.cleared)
    (fun k s => silentSlot_slot_self s k) (fun _ _ s h => silentSlot_slot_ne s h) s k

theorem silentReleaseAll_own (s : State) (k : Slot) : ((silentReleaseAll s).slot k).own = .none := by
  rw [silentReleaseAll_slot]
  split
  · assumption
  · rfl

theorem pinnedFlagOk_silent (s : State) : PinnedFlagOk (silentReleaseAll s) := by
  have hflag : (silentReleaseAll s).pinnedCollision = false := rfl
  rw [PinnedFlagOk, hflag]
  simp [silentReleaseAll_own]

theorem pinnedFlagOk_peers {c : Nat} {f : Slot → List Peer → List Peer} {s : State} :
    PinnedFlagOk (serveMarks (peerEvent c f s)) := by
  unfold peerEvent
  exact (PinnedFlagOk.updated _).settled s

theorem pinnedFlagOk_acts : ActsKeep PinnedFlagOk where
  benign h hs := hs.congr (fun k => by rw [State.slot, h.slots]; rfl) h.pinned
  choose _ hs := hs.chosen _
  unwait hs := hs.congr (fun _ => rfl) rfl
  request _ hs := PinnedFlagOk.marks (hs.congr (fun _ => rfl) rfl)
  peers _ _ := pinnedFlagOk_peers
  collide _ _ := (PinnedFlagOk.updated _).settled _
  restart hs := hs.restarted _
  select _ _ _ hs := (hs.selected _ _ _).settled _
  fail _ hs := (hs.failed _).settled _
  lose _ hs := (hs.lost _).settled _
  expire _ _ := (PinnedFlagOk.expired _ _).settled _
  acquired _ hs := hs.acquired _
  holdOff _ _ := PinnedFlagOk.updated _
  silent _ := pinnedFlagOk_silent _
  regrade _ hs := hs
  remove hs := removeSources_keeps (fun _ _ hs => PinnedFlagOk.congr hs (fun _ => rfl) rfl) pinnedFlagOk_sourceLost hs
  takeFrame hl _ _ hs := takeSourceFrame_keeps (fun _ _ hs => PinnedFlagOk.congr hs (fun _ => rfl) rfl)
    (fun {_ _} f _ hs => PinnedFlagOk.modPath hs _ f) pinnedFlagOk_sourceLost hl hs

theorem pinnedFlagOk_coarse : CoarseKeep PinnedFlagOk where
  acts := pinnedFlagOk_acts
  same h hs := PinnedFlagOk.congr hs (fun k => by rw [State.slot, h.slots]; rfl) h.pinned
  notify hs := by
    rw [noticeWaiting_eq]
    exact PinnedFlagOk.marks (PinnedFlagOk.withWaits hs _)
  install {s} bs _ hs := PinnedFlagOk.congrClash hs
    (fun k => by rw [installImage_slot, SlotEntry.pinnedClash_attr]) (installImage_pinned s bs)
  run {s} _ _ _ hs := PinnedFlagOk.congr hs (fun _ => rfl) rfl
  reject {s} _ _ _ hs := PinnedFlagOk.congr hs (fun _ => rfl) rfl
  retry {s} _ _ hs := PinnedFlagOk.congr hs (fun _ => rfl) rfl

theorem pinnedFlagOk_keeps : CommandsKeep PinnedFlagOk :=
  pinnedFlagOk_coarse.commands fun _ => resetMeetsInvariants.2.2.2.1

/-! ### What only the ports and the queue's reader touch -/

/-- Neither the waiting commands nor the sets in use and the channels of the transmit sides differ. -/
structure Untouched (s t : State) : Prop where
  pending : t.pending = s.pending := by rfl
  tx : ∀ i : PathIx, (t.txSide i).inUse = (s.txSide i).inUse ∧ (t.txSide i).channel = (s.txSide i).channel := by
    exact fun _ => ⟨rfl, rfl⟩

namespace Untouched

theorem trans {s t u : State} (h : Untouched s t) (g : Untouched t u) : Untouched s u where
  pending := g.pending.trans h.pending
  tx i := ⟨(g.tx i).1.trans (h.tx i).1, (g.tx i).2.trans (h.tx i).2⟩

theorem frame {s t : State} (h : ActFrame s t) : Untouched s t where
  pending := h.pending_eq
  tx i := by rw [State.txSide, h.tx_eq]; exact ⟨rfl, rfl⟩

theorem acts (s : State) : ActsKeep (Untouched s) :=
  ActsKeep.of_frame (fun h hs => hs.trans ⟨h.pending, h.tx⟩) fun h hs => hs.trans (frame h)

theorem steps (s : State) : StepsKeep (Untouched s) where
  acts := acts s
  same h hs := hs.trans ⟨h.pending, h.tx⟩
  notify hs := hs.trans ((frame (noticeWaiting_act _)).trans (frame (serveMarks_act _)))
  install _ _ hs := hs.trans {}
  run _ _ _ hs := hs.trans {}
  reject _ _ _ hs := hs.trans {}
  retry _ _ hs := hs.trans {}

end Untouched

theorem takeStep_untouched (ahead : PathIx → Bool) (b : BoundaryStep) (s : State) : Untouched s (takeStep ahead b s) :=
  (Untouched.steps s).takeStep ahead b {}

/-! ### Channels (R11) -/

theorem ChannelsOk.untouched {s t : State} (hs : ChannelsOk s) (h : Untouched s t) : ChannelsOk t := fun i => by
  rw [(h.tx i).1, (h.tx i).2]
  exact hs i

theorem TxSide.takeSet_channel (output : Option Slot) (x : TxSide) (h : (x.takeSet output).inUse.cond ≠ .full) :
    (x.takeSet output).channel = ⟨0, 0⟩ := by
  have h' : x.pendingSet.cond ≠ .full := h
  simp only [TxSide.takeSet, channelFor]
  split
  · rename_i hc; exact absurd hc h'
  · rfl
  · rfl

theorem openBoundary_txSide (s : State) (i : PathIx) :
    ∃ output : Option Slot, (openBoundary s).txSide i = (s.txSide i).takeSet output := by
  exact ⟨(openBoundary s).path i |>.output, by
    simp [openBoundary, restartClips, takePending, closeBlock, monitorReport, surveyReport, tickTime, State.txSide,
      State.path]⟩

theorem channelsOk_opening (s : State) : ChannelsOk (openBoundary s) := fun i h => by
  obtain ⟨output, htx⟩ := openBoundary_txSide s i
  rw [htx] at h ⊢
  exact TxSide.takeSet_channel output _ h

/-- A programme sample goes into the channel of a FULL side alone (R11). -/
theorem scaledSample_of_ne_full {set : TxSet} (h : set.cond ≠ .full) (x : IQ) : scaledSample set x = ⟨0, 0⟩ := by
  unfold scaledSample
  split
  · rename_i hc; exact absurd hc h
  · rfl
  · rfl

theorem TxSide.takeProgramme_silent (x : IQ) (r : TxSide) (h : (r.takeProgramme x).inUse.cond ≠ .full) :
    (r.takeProgramme x).channel = ⟨0, 0⟩ := by
  rw [TxSide.takeProgramme, TxSide.advanceTone_eq] at h
  exact scaledSample_of_ne_full h x

theorem channelsOk_band {s : State} (hs : ChannelsOk s) (x : IQ) (chans : Vector IQ 12) (survey : IQ) :
    ChannelsOk (bandInputSample x chans survey s) := fun i h => by
  have htx : (bandInputSample x chans survey s).txSide i =
      if endsChannelSample s.band.alignment then (s.txSide i).takeProgramme chans[i.val] else s.txSide i := by
    unfold bandInputSample
    dsimp only [State.txSide]
    split <;> simp
  rw [htx] at h ⊢
  cases hends : endsChannelSample s.band.alignment <;> simp only [hends, if_true, if_false, Bool.false_eq_true] at h ⊢
  · exact hs i h
  · exact TxSide.takeProgramme_silent chans[i.val] _ h

theorem channelsOk_composite {s : State} (hs : ChannelsOk s) (sides : Vector WideIQ 12) :
    ChannelsOk (compositeSample sides s) := fun i h => by
  have htx : (compositeSample sides s).txSide i = { s.txSide i with phase := (s.txSide i).phase + (s.txSide i).word } := by
    simp [compositeSample, State.txSide]
  rw [htx] at h ⊢
  exact hs i h

/-- What leaves the transmit sides alone keeps their channels. -/
theorem ChannelsOk.sides {s t : State} (hs : ChannelsOk s) (h : t.tx = s.tx) : ChannelsOk t := by
  unfold ChannelsOk State.txSide
  rw [h]
  exact hs

theorem channelsOk_keeps : CommandsKeep ChannelsOk where
  pending _ _ hs := hs.sides rfl
  reset s _ := ChannelsOk.sides (s := State.reset) resetMeetsInvariants.2.2.2.2.2.2.2.2.2.2 rfl
  opening s _ := channelsOk_opening s
  level reports i s hs := hs.untouched ((Untouched.acts s).benign (Benign.levelPath s reports i) {})
  clips n s hs := hs.untouched ((Untouched.steps s).takeClipCount n (fun _ hg => hg.trans {}) {})
  evaluation s hs := hs.untouched ((Untouched.steps s).same (Same.compositeEvaluation s) {})
  restore s hs := hs.untouched ((Untouched.steps s).same (Same.restore s) {})
  bit i s hs := hs.untouched ((Untouched.acts s).benign (Benign.handBit s i) {})
  takeStep ahead b s hs := hs.untouched (takeStep_untouched ahead b s)
  framer ix st s _ hs := hs.untouched ((Untouched.acts s).benign (Benign.modFramer s ix _) {})
  feed ix tone s hs := hs.untouched ((Untouched.acts s).benign (Benign.modFramer s ix _) {})
  band x chans y _ hs := channelsOk_band hs x chans y
  coupler _ _ _ hs := hs.sides rfl
  composite sides _ hs := channelsOk_composite hs sides
  byteRead b s hs := hs.untouched ((Untouched.steps s).same (Same.configByteRead s b) {})
  bitSent s hs := hs.untouched ((Untouched.acts s).benign (Benign.statusBitSent s) {})

/-! ### The waiting commands -/

theorem pending_keeps (q : List Instr) : EffectsKeep fun t => t.pending = q where
  reset _ hs := hs
  opening _ hs := hs
  level reports i s hs := (Benign.levelPath s reports i).pending.trans hs
  clips n s hs := ((Untouched.steps s).takeClipCount n (fun _ hg => hg.trans {}) {}).pending.trans hs
  evaluation s hs := (Same.compositeEvaluation s).pending.trans hs
  restore s hs := (Same.restore s).pending.trans hs
  bit i s hs := (Benign.handBit s i).pending.trans hs
  takeStep ahead b s hs := (takeStep_untouched ahead b s).pending.trans hs
  framer ix st s _ hs := (Benign.modFramer s ix _).pending.trans hs
  feed ix tone s hs := (Benign.modFramer s ix _).pending.trans hs
  band _ _ _ _ hs := hs
  coupler _ _ _ hs := hs
  composite _ _ hs := hs
  byteRead b s hs := (Same.configByteRead s b).pending.trans hs
  bitSent s hs := (Benign.statusBitSent s).pending.trans hs

end Sys2Proof.Machine

namespace Sys2Proof

open Machine

/-- Settles O2: `exec` answers a next state for every command, and no part of a command writes the queue. -/
theorem everyCommandCompletes : Obligations.EveryCommandCompletes := fun c s => by
  rw [answers_iff]
  exact (pending_keeps s.pending).effect c rfl

/-- Settles O57: each level follows from what its rule reads, and every command that changes what a rule reads derives the
level again. -/
theorem derivedLevelsStayTrue : Obligations.DerivedLevelsStayTrue :=
  ⟨fun _ _ hlevels hflag hstep => ⟨levelsOk_keeps.step hlevels hstep, pinnedFlagOk_keeps.step hflag hstep⟩,
    fun _ _ hs hstep => channelsOk_keeps.step hs hstep⟩

end Sys2Proof
end
section
/-! PROOFS. Every table within its capacity and in its order (O56). -/

namespace Sys2Proof.Machine

open Sys2Proof

/-! ### Tuning queue, survey requests, failure log and fault history -/

theorem Acts.listsOk {s t : State} (h : Acts s t) (hs : ListsOk s) : ListsOk t := by
  have hf := h.frame
  unfold ActFrame at hf
  refine ⟨h.tuningOk hs.tuning, ?_, ?_, ?_⟩
  · rw [hf]; exact hs.requests
  · rw [hf]; exact hs.failures
  · rw [hf]; exact hs.history

theorem ListsOk.withSources {s : State} (hs : ListsOk s) (es : List Source) : ListsOk { s with sources := es } :=
  ⟨hs.tuning, hs.requests, hs.failures, hs.history⟩

theorem listsOk_fine : FineKeep ListsOk where
  benign h hs := h.lists hs
  served h hs := h.acts.listsOk hs
  waits _ hs := ⟨hs.tuning, hs.requests, hs.failures, hs.history⟩
  flags _ _ hs := ⟨hs.tuning, hs.requests, hs.failures, hs.history⟩
  peers _ hs := ⟨hs.tuning, hs.requests, hs.failures, hs.history⟩
  giveUp _ hs := (Acts.giveUp _ _ _ _).listsOk hs
  collision _ _ hs := (Acts.modSlot _ _ _).listsOk hs
  select _ _ _ hs := (Acts.selectAct _ _ _ _).listsOk hs
  fail _ hs := (Acts.failAct _ _).listsOk hs
  lose _ hs := (Acts.loseSource _ _).listsOk hs
  expire _ hs := (Acts.expireHoldover _ _).listsOk hs
  acquired _ hs := (Acts.acquireAct _ _).listsOk hs
  won _ hs := ((Acts.modSlot _ _ _).trans (Acts.claimWon _ _)).listsOk hs

theorem listsOk_acts : ActsKeep ListsOk :=
  listsOk_fine.acts_of_sources (fun es _ hs => hs.withSources es)
    fun {s i} f hf hs => (Acts.modPath s i f fun p => by rw [(hf p).1]).listsOk hs

theorem listsOk_steps : StepsKeep ListsOk where
  acts := listsOk_acts
  same h hs := h.lists hs
  notify hs := listsOk_fine.notify hs
  install _ _ hs := ⟨hs.tuning, hs.requests, hs.failures, hs.history⟩
  run _ _ _ hs := ⟨hs.tuning, hs.requests, hs.failures, hs.history⟩
  reject _ _ _ hs := ⟨hs.tuning, hs.requests, hs.failures, hs.history⟩
  retry _ _ hs := ⟨hs.tuning, hs.requests, hs.failures, hs.history⟩

/-- A clip fault meets a site that transmits, so no lockout runs and at most two faults stand (R139, R142). -/
theorem HistoryOk.recordFault {g : Governor} (h : HistoryOk g) (hlock : g.lockoutDeadline = none) (now : Time) :
    HistoryOk (g.recordFault now) := by
  have hle : (recentTimes now g.faultHistory ++ [now]).length ≤ 3 := by
    rw [List.length_append]
    exact Nat.succ_le_succ ((List.length_filter_le _ _).trans (h.2 hlock))
  unfold Governor.recordFault
  dsimp only
  split
  · exact ⟨hle, fun hnone => by cases hnone⟩
  · rename_i hfew
    exact ⟨hle, fun _ => by dsimp only; omega⟩

theorem lockout_none_of_transmitting {s : State} (hs : LevelsOk s) (hsite : s.gov.site = .transmitting) :
    s.gov.lockoutDeadline = none := by
  have hd := LevelsOk.site hs
  rw [hsite] at hd
  unfold State.derivedSite at hd
  cases hl : s.gov.lockoutDeadline with
  | none => rfl
  | some d =>
    rw [hl] at hd
    unfold siteOf at hd
    cases hst : s.station <;> simp [hst] at hd

theorem ListsOk.congr {s t : State} (hs : ListsOk s) (htuning : t.tuning = s.tuning)
    (hrequests : t.survey.requests = s.survey.requests) (hfail : t.mon.failureLog = s.mon.failureLog)
    (hgov : t.gov = s.gov) : ListsOk t := by
  obtain ⟨h1, h2, h3, h4⟩ := hs
  exact ⟨htuning ▸ h1, hrequests ▸ h2, hfail ▸ h3, hgov ▸ h4⟩

theorem listsOk_keeps : CommandsKeep fun s => ListsOk s ∧ LevelsOk s where
  pending q s hs := ⟨hs.1.congr rfl rfl rfl rfl, levelsOk_keeps.pending q s hs.2⟩
  reset s hs := by
    obtain ⟨⟨htuning, hrequests, -, -, hfail, hhist, -⟩, -⟩ := resetMeetsInvariants
    exact ⟨⟨htuning, hrequests, hfail, hhist⟩, levelsOk_keeps.reset s hs.2⟩
  opening s hs := ⟨hs.1.congr rfl rfl rfl rfl, levelsOk_keeps.opening s hs.2⟩
  level r i s hs := ⟨(Benign.levelPath s r i).lists hs.1, levelsOk_keeps.level r i s hs.2⟩
  clips n s hs := by
    refine ⟨listsOk_steps.takeClipCount n (fun hsite h => ?_) hs.1, levelsOk_keeps.clips n s hs.2⟩
    exact ⟨h.tuning, h.requests, h.failures, h.history.recordFault (lockout_none_of_transmitting hs.2 hsite) _⟩
  evaluation s hs := ⟨(Same.compositeEvaluation s).lists hs.1, levelsOk_keeps.evaluation s hs.2⟩
  restore s hs := ⟨(Same.restore s).lists hs.1, levelsOk_keeps.restore s hs.2⟩
  bit i s hs := ⟨(Benign.handBit s i).lists hs.1, levelsOk_keeps.bit i s hs.2⟩
  takeStep ahead b s hs := ⟨listsOk_steps.takeStep ahead b hs.1, levelsOk_keeps.takeStep ahead b s hs.2⟩
  framer ix st s hdue hs := ⟨(Benign.modFramer s ix _).lists hs.1, levelsOk_keeps.framer ix st s hdue hs.2⟩
  feed ix tone s hs := ⟨(Benign.modFramer s ix _).lists hs.1, levelsOk_keeps.feed ix tone s hs.2⟩
  band x v y s hs := ⟨hs.1.congr rfl rfl rfl rfl, levelsOk_keeps.band x v y s hs.2⟩
  coupler x y s hs := ⟨hs.1.congr rfl rfl rfl rfl, levelsOk_keeps.coupler x y s hs.2⟩
  composite v s hs := ⟨hs.1.congr rfl rfl rfl rfl, levelsOk_keeps.composite v s hs.2⟩
  byteRead b s hs := ⟨(Same.configByteRead s b).lists hs.1, levelsOk_keeps.byteRead b s hs.2⟩
  bitSent s hs := ⟨(Benign.statusBitSent s).lists hs.1, levelsOk_keeps.bitSent s hs.2⟩

/-! ### Peer records (R90) -/

/-- Every slot's peer list is within its capacity and in rising station ID. -/
abbrev AllPeersOk (s : State) : Prop := ∀ k : Slot, PeersOk (s.slot k).peers

theorem AllPeersOk.acts {s t : State} (hs : AllPeersOk s) (h : Acts s t) : AllPeersOk t := fun k => by
  rw [h.peers_eq k]
  exact hs k

theorem AllPeersOk.congr {s t : State} (hs : AllPeersOk s) (h : t.slots = s.slots) : AllPeersOk t := fun k => by
  rw [State.slot, h]
  exact hs k

theorem allPeersOk_fine : FineKeep AllPeersOk where
  benign h hs := AllPeersOk.congr hs h.slots
  served h hs := AllPeersOk.acts hs h.acts
  waits _ hs := AllPeersOk.congr hs rfl
  flags _ _ hs := AllPeersOk.congr hs rfl
  peers {s f} hf hs k := by
    have hk : (State.slot { s with slots := updAll s.slots (fun k e => { e with peers := f k e.peers }) } k).peers =
        f k (s.slot k).peers := by simp [State.slot]
    rw [hk]
    exact hf k _ (hs k)
  giveUp _ hs := AllPeersOk.acts hs (Acts.giveUp _ _ _ _)
  collision _ _ hs := AllPeersOk.acts hs (Acts.modSlot _ _ _)
  select _ _ _ hs := AllPeersOk.acts hs (Acts.selectAct _ _ _ _)
  fail _ hs := AllPeersOk.acts hs (Acts.failAct _ _)
  lose _ hs := AllPeersOk.acts hs (Acts.loseSource _ _)
  expire _ hs := AllPeersOk.acts hs (Acts.expireHoldover _ _)
  acquired _ hs := AllPeersOk.acts hs (Acts.acquireAct _ _)
  won _ hs := AllPeersOk.acts hs ((Acts.modSlot _ _ _).trans (Acts.claimWon _ _))

theorem allPeersOk_coarse : CoarseKeep AllPeersOk where
  acts := allPeersOk_fine.acts_of_sources (fun _ _ hs => AllPeersOk.congr hs rfl) fun _ _ hs => AllPeersOk.congr hs rfl
  same h hs := AllPeersOk.congr hs h.slots
  notify hs := allPeersOk_fine.notify hs
  install bs _ hs k := by
    rw [installImage_slot]
    exact hs k
  run _ _ _ hs := AllPeersOk.congr hs rfl
  reject _ _ _ hs := AllPeersOk.congr hs rfl
  retry _ _ hs := AllPeersOk.congr hs rfl

theorem allPeersOk_keeps : CommandsKeep AllPeersOk :=
  allPeersOk_coarse.commands fun _ => resetMeetsInvariants.1.2.2.2.2.2.2

/-! ### Grades and quality (R74 to R78) -/

/-- Every entry's quality is what its grades and absent flag give. -/
abbrev AllGraded (es : List Source) : Prop := ∀ e ∈ es, e.Graded

theorem AllGraded.map {es : List Source} (h : AllGraded es) {g : Source → Source} (hg : ∀ e, e.Graded → (g e).Graded) :
    AllGraded (es.map g) := fun e he => by
  obtain ⟨x, hx, rfl⟩ := List.mem_map.mp he
  exact hg x (h x hx)

theorem AllGraded.filter {es : List Source} (h : AllGraded es) (p : Source → Bool) : AllGraded (es.filter p) :=
  fun e he => h e (List.mem_filter.mp he).1

theorem Acts.graded {s t : State} (h : Acts s t) (hs : AllGraded s.sources) : AllGraded t.sources :=
  h.sources_keep (Q := AllGraded) (fun _ _ _ _ hes => hes.map fun e he => by split <;> exact he) hs

theorem regrade_graded {e : Source} (hl : e.levelGrade ≤ 100) (hi : e.integrityGrade ≤ 100) : e.regrade.Graded :=
  ⟨rfl, hl, hi⟩

theorem levelGrade_le (p : Params) (m : Nat) : levelGrade p m ≤ 100 := by
  unfold levelGrade
  split
  · exact Nat.zero_le _
  · exact Nat.min_le_left _ _

theorem newSource_graded (s : State) (f : Frame) (heard : Slot) (noise : Nat) (latest : Option Nat) :
    (newSource s f heard noise latest).Graded := by
  refine regrade_graded ?_ (Nat.sub_le _ _)
  cases latest with
  | none => exact Nat.zero_le _
  | some m => exact levelGrade_le _ _

theorem updateSource_graded (s : State) (f : Frame) (noise : Nat) (latest : Option Nat) {e : Source} (he : e.Graded) :
    (updateSource s f noise latest e).Graded := by
  obtain ⟨-, hl, hi⟩ := he
  refine regrade_graded ?_ ?_
  · cases latest with
    | none => exact hl
    | some m => exact levelGrade_le _ _
  · have ht : integrityTarget noise ≤ 100 := Nat.sub_le _ _
    dsimp only
    omega

theorem mem_placeSource {e x : Source} {es : List Source} (h : x ∈ placeSource e es) : x = e ∨ x ∈ es := by
  rw [placeSource_eq] at h
  simpa using h

theorem AllGraded.newEntry {s : State} (h : AllGraded s.sources) {e : Source} (he : e.Graded) :
    AllGraded (admitSource s e) := by
  obtain ⟨-, hadd⟩ | ⟨v, -, -, hadd⟩ | hadd := admitSource_cases s e <;> rw [hadd]
  · intro x hx
    obtain rfl | hx := mem_placeSource hx
    · exact he
    · exact h x hx
  · intro x hx
    obtain rfl | hx := mem_placeSource hx
    · exact he
    · exact h.filter _ x hx
  · exact h

theorem allGraded_remove {gone : Source → Bool} {s : State} (hs : AllGraded s.sources) :
    AllGraded (removeSources gone s).sources :=
  (Acts.noticesRemoved _ _).graded (AllGraded.filter hs _)

theorem allGraded_takeFrame {f : Frame} {heard : Slot} {noise : Nat} {latest : Option Nat} {s : State}
    (hs : AllGraded s.sources) : AllGraded (takeSourceFrame f heard noise latest s).sources := by
  unfold takeSourceFrame
  split
  · split
    · exact AllGraded.newEntry hs (newSource_graded s f heard noise latest)
    · exact hs
  · split
    · refine (Acts.noticeChanged _ _).graded (AllGraded.map hs fun e he => ?_)
      split
      · exact updateSource_graded s f noise latest he
      · exact he
    · exact allGraded_remove hs

theorem allGraded_fine : FineKeep fun s => AllGraded s.sources where
  benign h hs := h.sources ▸ hs
  served h hs := h.sources ▸ hs
  waits _ hs := hs
  flags _ _ hs := hs
  peers _ hs := hs
  giveUp _ hs := (Acts.giveUp _ _ _ _).graded hs
  collision _ _ hs := hs
  select _ _ _ hs := (Acts.selectAct _ _ _ _).graded hs
  fail _ hs := (Acts.failAct _ _).graded hs
  lose _ hs := (Acts.loseSource _ _).graded hs
  expire _ hs := (Acts.expireHoldover _ _).graded hs
  acquired _ hs := (Acts.acquireAct _ _).graded hs
  won _ hs := (Acts.claimWon _ _).graded hs

theorem allGraded_coarse : CoarseKeep fun s => AllGraded s.sources where
  acts := allGraded_fine.acts (fun hg hs => AllGraded.map hs fun e => (hg e).2.2.2.2) allGraded_remove
    (fun _ _ _ => allGraded_takeFrame)
  same h hs := h.sources ▸ hs
  notify hs := allGraded_fine.notify hs
  install _ _ hs := hs
  run _ _ _ hs := hs
  reject _ _ _ hs := hs
  retry _ _ hs := hs

theorem qualityOk_keeps : CommandsKeep QualityOk := allGraded_coarse.commands fun _ => resetMeetsInvariants.2.1

theorem sourcesOk_keeps : CommandsKeep fun s => SourcesOk s.sources :=
  sourcesOk_coarse.commands fun _ => resetMeetsInvariants.1.2.2.2.1

/-! ### The neighbour list (R56 to R63) -/

/-- The neighbour list is within its capacity and in rising station ID. -/
abbrev NeighboursOk (ns : List Neighbour) : Prop := ns.length ≤ neighbourCapacity ∧ NeighboursOrdered ns

theorem placeNeighbour_eq (r : Neighbour) (ns : List Neighbour) :
    placeNeighbour r ns = ns.orderedInsert (fun a b => a.station < b.station) r := by
  induction ns with
  | nil => rfl
  | cons x ns ih => rw [placeNeighbour, List.orderedInsert_cons, ih]

theorem mem_placeNeighbour {r x : Neighbour} {ns : List Neighbour} : x ∈ placeNeighbour r ns ↔ x = r ∨ x ∈ ns := by
  rw [placeNeighbour_eq, List.mem_orderedInsert]

theorem findNeighbour_none_iff {st : StationId} {ns : List Neighbour} :
    findNeighbour st ns = none ↔ ∀ x ∈ ns, x.station ≠ st := by
  simp [findNeighbour]

theorem NeighboursOk.place {ns : List Neighbour} (h : NeighboursOk ns) (hroom : ns.length < neighbourCapacity)
    {r : Neighbour} (hnew : ∀ x ∈ ns, x.station ≠ r.station) : NeighboursOk (placeNeighbour r ns) := by
  rw [placeNeighbour_eq]
  exact ⟨by rw [List.orderedInsert_length]; exact hroom,
    pairwise_orderedInsert (r := fun a b : Neighbour => a.station < b.station) (fun _ _ _ => BitVec.lt_trans) h.2
      fun x hx => station_total (hnew x hx).symm⟩

theorem NeighboursOk.filter {ns : List Neighbour} (h : NeighboursOk ns) (p : Neighbour → Bool) :
    NeighboursOk (ns.filter p) :=
  ⟨(List.length_filter_le _ _).trans h.1, h.2.filter _⟩

theorem NeighboursOk.map {ns : List Neighbour} (h : NeighboursOk ns) {g : Neighbour → Neighbour}
    (hg : ∀ x, (g x).station = x.station) : NeighboursOk (ns.map g) :=
  ⟨by rw [List.length_map]; exact h.1,
    List.pairwise_map.mpr (h.2.imp fun {a b} hab => by rw [hg, hg]; exact hab)⟩

theorem massRelease_neighbours (order : ReleaseOrder) (st : StationId) (s : State) :
    (massRelease order st s).neighbours = s.neighbours := (massRelease_act s order st).neighbours_eq

theorem replacementCandidate_mem {now : Time} {ns : List Neighbour} {c : Neighbour}
    (h : replacementCandidate now ns = some c) : c ∈ ns := by
  refine (mem_of_foldl_choice (fun b e => ?_) ns none h).elim id (fun hn => by cases hn)
  cases b with
  | none => exact .inl rfl
  | some b =>
    dsimp only
    split
    · exact .inl rfl
    · exact .inr rfl

/-- The record of a held station after a frame of it (R57, R61): refreshed, or started afresh when its network has changed. -/
theorem takeNeighbour_neighbours_held {order : ReleaseOrder} {f : Frame} {k : FramerKind} {s : State} {r : Neighbour}
    (h : findNeighbour f.station s.neighbours = some r) :
    (takeNeighbour order f k s).neighbours = s.neighbours.map fun x =>
      if x.station == f.station then
        if r.network == f.network then x.refresh s.now f k else newNeighbour s.now f k
      else x := by
  simp only [takeNeighbour, h]
  cases hn : r.network == f.network
  · simp only [Bool.false_eq_true, if_false, modNeighbour, massRelease_neighbours]
  · rfl

/-- A station that is not held, with room in the list (R58). -/
theorem takeNeighbour_neighbours_room {order : ReleaseOrder} {f : Frame} {k : FramerKind} {s : State}
    (h : findNeighbour f.station s.neighbours = none) (hroom : s.neighbours.length < neighbourCapacity) :
    (takeNeighbour order f k s).neighbours = placeNeighbour (newNeighbour s.now f k) s.neighbours := by
  simp only [takeNeighbour, h, if_pos hroom, insertNeighbour]

/-- A full list whose candidate is old enough to give up its place (R59). -/
theorem takeNeighbour_neighbours_evict {order : ReleaseOrder} {f : Frame} {k : FramerKind} {s : State} {c : Neighbour}
    (h : findNeighbour f.station s.neighbours = none) (hfull : ¬s.neighbours.length < neighbourCapacity)
    (hc : replacementCandidate s.now s.neighbours = some c) (hage : evictionAge < age s.now c.lastHeard) :
    (takeNeighbour order f k s).neighbours =
      placeNeighbour (newNeighbour s.now f k) (s.neighbours.filter fun x => x.station != c.station) := by
  simp only [takeNeighbour, h, if_neg hfull, meetFullList, hc, if_pos hage, insertNeighbour, massRelease_neighbours,
    dropNeighbour]

/-- A full list that keeps its records (R60). -/
theorem takeNeighbour_full {order : ReleaseOrder} {f : Frame} {k : FramerKind} {s : State}
    (h : findNeighbour f.station s.neighbours = none) (hfull : ¬s.neighbours.length < neighbourCapacity)
    (hkeep : ∀ c, replacementCandidate s.now s.neighbours = some c → ¬evictionAge < age s.now c.lastHeard) :
    takeNeighbour order f k s = { s with neighbourOverflow := true } := by
  simp only [takeNeighbour, h, if_neg hfull, meetFullList]
  split
  · rfl
  · rename_i c hc
    rw [if_neg (hkeep c hc)]

theorem NeighboursOk.taken {s : State} (h : NeighboursOk s.neighbours) (order : ReleaseOrder) (f : Frame) (k : FramerKind) :
    NeighboursOk (takeNeighbour order f k s).neighbours := by
  cases hfind : findNeighbour f.station s.neighbours with
  | some r =>
    rw [takeNeighbour_neighbours_held hfind]
    refine h.map fun x => ?_
    split
    · rename_i hx
      split
      · rfl
      · exact (beq_iff_eq.mp hx).symm
    · rfl
  | none =>
    have hnone := findNeighbour_none_iff.mp hfind
    by_cases hroom : s.neighbours.length < neighbourCapacity
    · rw [takeNeighbour_neighbours_room hfind hroom]
      exact h.place hroom hnone
    · by_cases hold : ∃ c, replacementCandidate s.now s.neighbours = some c ∧ evictionAge < age s.now c.lastHeard
      · obtain ⟨c, hc, hage⟩ := hold
        rw [takeNeighbour_neighbours_evict hfind hroom hc hage]
        refine (h.filter _).place ?_ fun x hx => hnone x (List.mem_filter.mp hx).1
        exact (List.length_filter_lt_length_iff_exists.mpr ⟨c, replacementCandidate_mem hc, by simp⟩).trans_le h.1
      · rw [takeNeighbour_full hfind hroom fun c hc hage => hold ⟨c, hc, hage⟩]
        exact h

/-! ### What a frame's routing leaves to the neighbour list -/

theorem routeHeld_act (ix : FramerIx) (c : Nat) (f : Frame) (noise : Nat) (s : State) :
    ActFrame s (routeHeld ix c f noise s) := by
  have hsource (m : Option Nat) : ActFrame s (takeSourceFrame f (heardBy s ix) noise m
      (takeClaims c f.station f.claims (heardBy s ix) s)) :=
    (takeClaims_act s c f.station f.claims (heardBy s ix)).trans (takeSourceFrame_act _ f (heardBy s ix) noise m)
  unfold routeHeld
  dsimp only
  cases ix with
  | path i => exact (hsource _).trans (takeGoodFrame_act _ _ _ _ _)
  | survey => exact hsource _
  | monitor => exact hsource _

theorem routeOther_neighbours (ix : FramerIx) (order : OutcomeOrder) (f : Frame) (noise : Nat) (s : State) :
    (routeOther ix order f noise s).neighbours = (takeNeighbour order.release f (kindOf ix) s).neighbours := by
  unfold routeOther
  dsimp only
  split
  · exact (routeHeld_act _ _ _ _ _).neighbours_eq
  · rfl

theorem dwellFrame_neighbours (s : State) : (dwellFrame s).neighbours = s.neighbours := by
  unfold dwellFrame
  split
  · rfl
  · split <;> rfl

theorem NeighboursOk.routed {s : State} (h : NeighboursOk s.neighbours) (ix : FramerIx) (order : OutcomeOrder)
    (bs : List Byte) (noise : Nat) : NeighboursOk (routeGood ix order bs noise s).neighbours := by
  have hother : NeighboursOk (routeOther ix order (readFrame bs) noise s).neighbours := by
    rw [routeOther_neighbours]
    exact h.taken _ _ _
  unfold routeGood
  dsimp only
  split
  · exact h
  · cases ix with
    | path i => exact hother
    | survey => rw [dwellFrame_neighbours]; exact hother
    | monitor => exact hother

theorem passVerdict_stands (s : State) (i : PathIx) : SurveyStands s (passVerdict i s) := by
  have hpass (t : State) : SurveyStands t (State.setVerdict (cutVisit t) i (some .pass)) := {}
  have hclear (t : State) (v : Vector PathRec 12) : SurveyStands t { t with paths := v } := {}
  have hchain (t : State) : SurveyStands t (alarmUpdate { t with mon := { t.mon with chainFault := false } }) := {}
  have hpath : SurveyStands s (s.modPath i fun p => { p with monitorFails := 0 }) := {}
  have hv := hpath.trans (hpass _)
  unfold passVerdict
  dsimp only
  generalize (cutVisit (s.modPath i _)).setVerdict i (some .pass) = u at hv ⊢
  split
  · exact (hv.trans (hclear u _)).trans (hchain _)
  · exact hv

theorem ownTagCheck_stands (s : State) (f : Frame) : SurveyStands s (ownTagCheck f s) := by
  unfold ownTagCheck
  split
  · exact .refl s
  · split
    · split
      · exact passVerdict_stands s _
      · exact failVerdict_stands s _
    · exact .refl s

theorem NeighboursOk.outcome {s : State} (h : NeighboursOk s.neighbours) (ix : FramerIx) (order : OutcomeOrder) :
    NeighboursOk (framerOutcome ix order s).neighbours := by
  unfold framerOutcome
  split
  · exact h
  · rename_i o _
    unfold reportOutcome
    dsimp only
    have hrest : NeighboursOk (s.modFramer ix (Framer.rest (outcomeState o))).neighbours := by
      rw [State.modFramer_neighbours]; exact h
    generalize s.modFramer ix (Framer.rest (outcomeState o)) = u at hrest
    split
    · unfold routeOutcome
      split
      · rw [(ownTagCheck_stands u _).neighbours]; exact hrest
      · exact hrest
      · exact hrest.routed _ _ _ _
      · exact hrest.routed _ _ _ _
      · unfold integrityFailure
        split
        · exact hrest
        · split <;> exact hrest
      all_goals exact hrest
    · exact hrest

theorem NeighboursOk.swept {s : State} (h : NeighboursOk s.neighbours) (order : List StationId) :
    NeighboursOk (neighbourSweep order s).neighbours := by
  unfold neighbourSweep
  split
  · refine foldl_keeps (P := fun t => NeighboursOk t.neighbours) (fun t r ht => ?_) _ h
    unfold sweepStep
    split
    · rw [massRelease_neighbours]
      exact ht.filter _
    · exact ht
  · exact h

/-- What leaves the neighbour list alone keeps its order. -/
theorem NeighboursOk.stands {s t : State} (h : NeighboursOk s.neighbours) (hst : SurveyStands s t) :
    NeighboursOk t.neighbours := hst.neighbours ▸ h

theorem rederive_neighbours {s : State} {ns : List Neighbour} (h : s.neighbours = ns) : (rederiveSite s).neighbours = ns :=
  (rederiveSite_stands s).neighbours.trans h

theorem endOfListening_neighbours (s : State) : (endOfListening s).neighbours = s.neighbours := by
  unfold endOfListening
  split
  · exact rederive_neighbours rfl
  · rfl

theorem loadEnd_neighbours (s : State) : (loadEnd s).neighbours = s.neighbours := by
  have halarm (t : State) : (alarmUpdate t).neighbours = t.neighbours := rfl
  unfold loadEnd
  split
  · split
    · have hup : (alarmUpdate (rederiveSite (installImage s.loader.image s))).neighbours = s.neighbours :=
        (halarm _).trans (rederive_neighbours rfl)
      unfold acceptImage
      dsimp only
      split
      · exact (endOfListening_neighbours _).trans hup
      · exact hup
    · exact (halarm _).trans (rederive_neighbours rfl)
  · rfl

/-- What an evaluation leaves alone: what an act does, but for the survey requests (R85). -/
abbrev AskFrame (s t : State) : Prop := ActFrame { s with survey := { s.survey with requests := t.survey.requests } } t

theorem AskFrame.of_act {s t : State} (h : ActFrame s t) : AskFrame s t := by
  rw [AskFrame, h.survey_eq]
  exact h

theorem AskFrame.trans {s t u : State} (h : AskFrame s t) (g : AskFrame t u) : AskFrame s u := by
  simp only [AskFrame, ActFrame] at *
  rw [g, h]

theorem askSurvey_frame (i : PathIx) (s : State) : AskFrame s (askSurvey i s) := by
  unfold askSurvey
  split
  · exact .of_act rfl
  · unfold surveyRequest
    split
    · rfl
    · exact .of_act rfl

theorem tuningUpkeep_act (i : PathIx) (s : State) : ActFrame s (tuningUpkeep i s) := by
  have hside (t : State) (d : Side) (w : Bool) (k : Option Slot) : ActFrame t (upkeepSide i d w k t) := by
    unfold upkeepSide
    split
    · rfl
    · split
      · exact tuneRequest_act _ _ _ _
      · rfl
  exact (hside s _ _ _).trans (hside _ _ _ _)

theorem selectBest_act (i : PathIx) (st : PathState) (s : State) : ActFrame s (selectBest i st s) := by
  unfold selectBest
  split
  · rfl
  · exact selectSource_act _ _ _ _

theorem evaluateByState_frame (i : PathIx) (s : State) : AskFrame s (evaluateByState i s) := by
  unfold evaluateByState
  split
  · exact (askSurvey_frame i s).trans (.of_act (selectBest_act _ _ _))
  · exact (askSurvey_frame i s).trans (.of_act (selectBest_act _ _ _))
  · unfold decideSwitch
    dsimp only
    have hask := (AskFrame.of_act (modPath_act s i (decideHysteresis s i))).trans (askSurvey_frame i _)
    split
    · exact hask
    · exact hask.trans (.of_act (selectSource_act _ _ _ _))
  all_goals exact .of_act rfl

theorem pathEvaluation_frame (i : PathIx) (s : State) : AskFrame s (pathEvaluation i s) := by
  unfold pathEvaluation
  split
  · exact ((AskFrame.of_act (modPath_act s i _)).trans (evaluateByState_frame i _)).trans (.of_act (tuningUpkeep_act i _))
  · exact .of_act rfl

theorem dwellStart_neighbours (s : State) : (dwellStart s).neighbours = s.neighbours := by
  unfold dwellStart
  split
  · unfold chooseDwell
    dsimp only
    split
    · rfl
    · split <;> rfl
  · rfl

theorem dwellCheckClose_neighbours (s : State) : (dwellCheckClose s).neighbours = s.neighbours := by
  unfold dwellCheckClose
  split
  · rfl
  · split
    · split <;> rfl
    · rfl

theorem dwellDeadline_neighbours (s : State) : (dwellDeadline s).neighbours = s.neighbours := by
  unfold dwellDeadline
  split
  · rfl
  · split <;> rfl

theorem takeStep_neighbours (ahead : PathIx → Bool) (b : BoundaryStep) {s : State} (hs : NeighboursOk s.neighbours) :
    NeighboursOk (takeStep ahead b s).neighbours := by
  cases b
  case loadEnd => exact (loadEnd_neighbours s).symm ▸ hs
  case configRetry => exact hs.stands (by simp only [takeStep, configRetry]; split <;> exact {})
  case endOfListening => exact (endOfListening_neighbours s).symm ▸ hs
  case tuningEntryApplied => exact hs.stands (tuningEntryApplied_stands s)
  case framerOutcome ix order => exact hs.outcome ix order
  case frameStart => exact hs.stands (frameStartAmong_stands s ahead)
  case neighbourSweep order => exact hs.swept order
  case sourceSweep => exact hs.stands (sourceSweep_stands s)
  case peerClaimExpiry => exact hs.stands (peerClaimExpiry_act s).surveyStands
  case holdOffEnd k => exact hs.stands (Acts.holdOffEnd s k).frame.surveyStands
  case collisionExpiry k => exact hs.stands (Acts.collisionExpiry s k).frame.surveyStands
  case claimRetryDeadline i => exact hs.stands (Acts.claimRetryDeadline s i).frame.surveyStands
  case pathEvaluation i => exact (pathEvaluation_frame i s).neighbours_eq.symm ▸ hs
  case acquireTimeout i => exact hs.stands (Acts.acquireTimeout s i).frame.surveyStands
  case carrierCheckFail i => exact hs.stands (Acts.carrierCheckFail s i).frame.surveyStands
  case lowCarrierLoss i => exact hs.stands (Acts.lowCarrierLoss s i).frame.surveyStands
  case tagLoss i => exact hs.stands (Acts.tagLoss s i).frame.surveyStands
  case holdoverExpired i => exact hs.stands (Acts.holdoverExpired s i).frame.surveyStands
  case txpermitChange level =>
    simp only [takeStep, txpermitChange]
    split
    · exact hs
    · exact hs.stands ((linesStand s _).trans (rederiveSite_stands _))
  case muteEnd =>
    simp only [takeStep, muteEnd]
    split
    · exact hs.stands ((govStand s _).trans (rederiveSite_stands _))
    · exact hs
  case lockoutEnd =>
    simp only [takeStep, lockoutEnd]
    split
    · exact hs.stands ((govStand s _).trans (rederiveSite_stands _))
    · exact hs
  case faultHistoryExpiry => exact hs
  case graceDeadline =>
    simp only [takeStep, graceDeadline]
    split
    · exact hs.stands ((govStand s _).trans (silentReleaseAll_act _).surveyStands)
    · exact hs
  case txRestored i => exact hs.stands (Acts.txRestored s i).frame.surveyStands
  case keyHoldExpiry => exact hs.stands (by simp only [takeStep, keyHoldExpiry]; split <;> exact {})
  case inhibitAlarm => exact hs.stands (by simp only [takeStep, inhibitAlarm]; split <;> exact {})
  case failureLogExpiry => exact hs
  case visitStart => exact hs.stands (visitStart_stands s)
  case visitTimeout => exact hs.stands (visitTimeout_stands s)
  case dwellStart => exact (dwellStart_neighbours s).symm ▸ hs
  case dwellCheckClose => exact (dwellCheckClose_neighbours s).symm ▸ hs
  case dwellDeadline => exact (dwellDeadline_neighbours s).symm ▸ hs
  case statusRecord => exact hs.stands (by simp only [takeStep, statusRecord]; split <;> exact {})

theorem neighboursOk_keeps : CommandsKeep fun s => NeighboursOk s.neighbours where
  pending _ _ hs := hs
  reset _ _ := resetMeetsInvariants.1.2.2.1
  opening _ hs := hs
  level r i s hs := hs.stands (levelPath_stands s r i)
  clips n s hs := hs.stands (takeClipCount_stands s n)
  evaluation s hs := hs.stands (compositeEvaluation_stands s)
  restore s hs := hs.stands (restore_stands s)
  bit _ _ hs := hs
  takeStep ahead b _ hs := takeStep_neighbours ahead b hs
  framer ix st s _ hs := by rw [State.modFramer_neighbours]; exact hs
  feed ix tone s hs := by
    have h : (feedFramer ix tone s).neighbours = s.neighbours := State.modFramer_neighbours s ix _
    rw [h]
    exact hs
  band _ _ _ _ hs := hs
  coupler _ _ _ hs := hs
  composite _ _ hs := hs
  byteRead b s hs := by unfold configByteRead; split <;> exact hs
  bitSent s hs := by unfold statusBitSent; split <;> exact hs

end Sys2Proof.Machine

namespace Sys2Proof

open Machine

/-- Settles O56: each table's own invariant is kept by every command; the fault history relies on the derived site state, under
which a site that transmits has no lockout. -/
theorem tablesStayInOrder : Obligations.TablesStayInOrder := fun s t htables hquality hlevels hstep => by
  obtain ⟨htuning, hrequests, hneighbours, hsources, hfailures, hhistory, hpeers⟩ := htables
  obtain ⟨hlists, -⟩ := listsOk_keeps.step (P := fun s => ListsOk s ∧ LevelsOk s)
    ⟨⟨htuning, hrequests, hfailures, hhistory⟩, hlevels⟩ hstep
  exact ⟨⟨hlists.tuning, hlists.requests, neighboursOk_keeps.step hneighbours hstep, sourcesOk_keeps.step hsources hstep,
    hlists.failures, hlists.history, allPeersOk_keeps.step hpeers hstep⟩, qualityOk_keeps.step hquality hstep⟩

end Sys2Proof
end
section
/-! PROOFS. The choices in turn of the survey receiver and the monitor (O33, O50), the end of a transmit fault (O51), and the
slot of a choose-and-claim request (O38). -/

namespace Sys2Proof.Machine

open Sys2Proof

/-! ### The first of a list in turn -/

/-- A search finds the member that takes the predicate when none before it does. -/
theorem find?_eq_some_of_first {α : Type} {r : α → α → Prop} {l : List α} (hl : l.Pairwise r) {p : α → Bool} {k : α}
    (hk : k ∈ l) (hp : p k = true) (hfirst : ∀ j ∈ l, r j k → p j = false) : l.find? p = some k := by
  induction l with
  | nil => cases hk
  | cons a l ih =>
    obtain ⟨ha, hl'⟩ := List.pairwise_cons.mp hl
    obtain rfl | hmem := List.mem_cons.mp hk
    · rw [List.find?_cons_of_pos hp]
    · rw [List.find?_cons_of_neg (by simp [hfirst a (by simp) (ha k hmem)])]
      exact ih hl' hmem fun j hj => hfirst j (List.mem_cons_of_mem _ hj)

/-- The indices from k on, and then those before it, stand in the order of their distance behind k. -/
theorem turn_pairwise {n : Nat} (k : Fin n) :
    ((indices n).filter (fun j => decide (k.val ≤ j.val)) ++
      (indices n).filter (fun j => decide (j.val < k.val))).Pairwise (fun a b => a - k < b - k) := by
  have hval (a : Fin n) : (a - k).val = if k.val ≤ a.val then a.val - k.val else n - k.val + a.val := by
    rw [Fin.sub_def]
    split
    · rename_i h
      have : n - k.val + a.val = (a.val - k.val) + n := by omega
      simp only [this, Nat.add_mod_right, Nat.mod_eq_of_lt (by omega : a.val - k.val < n)]
    · simp only [Nat.mod_eq_of_lt (by omega : n - k.val + a.val < n)]
  refine List.pairwise_append.mpr ⟨?_, ?_, fun a ha b hb => ?_⟩
  · refine ((indices_pairwise n).filter _).imp_of_mem fun {a b} ha hb hab => ?_
    have ha := of_decide_eq_true (List.mem_filter.mp ha).2
    have hb := of_decide_eq_true (List.mem_filter.mp hb).2
    rw [Fin.lt_def, hval, hval, if_pos ha, if_pos hb]
    omega
  · refine ((indices_pairwise n).filter _).imp_of_mem fun {a b} ha hb hab => ?_
    have ha := of_decide_eq_true (List.mem_filter.mp ha).2
    have hb := of_decide_eq_true (List.mem_filter.mp hb).2
    rw [Fin.lt_def, hval, hval, if_neg (by omega), if_neg (by omega)]
    omega
  · have ha := of_decide_eq_true (List.mem_filter.mp ha).2
    have hb := of_decide_eq_true (List.mem_filter.mp hb).2
    rw [Fin.lt_def, hval, hval, if_pos ha, if_neg (by omega)]
    omega

theorem mem_turn {n : Nat} (k j : Fin n) : j ∈ (indices n).filter (fun j => decide (k.val ≤ j.val)) ++
    (indices n).filter (fun j => decide (j.val < k.val)) := by
  rcases Nat.lt_or_ge j.val k.val with h | h
  · exact List.mem_append_right _ (List.mem_filter.mpr ⟨mem_indices j, by simpa using h⟩)
  · exact List.mem_append_left _ (List.mem_filter.mpr ⟨mem_indices j, by simpa using h⟩)

theorem nextSlot_eq : ∀ k : Slot, nextSlot k = k + 1 := by decide

theorem nextPath_eq : ∀ i : PathIx, nextPath i = i + 1 := by decide

/-! ### The survey receiver -/

theorem listening_iff (st : Station) : listening st = true ↔ st = .listen ∨ st = .running := by
  simp [listening]

/-- A slot may be dwelt on when no path receives it and no own claim stands on it (R46). -/
theorem dwellable_iff (s : State) (k : Slot) :
    dwellable s k = true ↔ (∀ i : PathIx, (s.path i).rxSlot ≠ some k) ∧ (s.slot k).own = .none := by
  simp [dwellable, mem_indices]

theorem dwellable_eq_false {s : State} {k : Slot}
    (h : (∃ i : PathIx, (s.path i).rxSlot = some k) ∨ (s.slot k).own ≠ .none) : dwellable s k = false := by
  rw [Bool.eq_false_iff, Ne, dwellable_iff]
  rintro ⟨hrx, hown⟩
  obtain ⟨i, hi⟩ | h := h
  · exact hrx i hi
  · exact h hown

theorem mayWatch_iff (a : SlotAttr) : mayWatch a = true ↔ a = .watch ∨ a = .both := by simp [mayWatch]

theorem dwellStart_of_request {s : State} (hl : listening s.station = true) (hd : s.survey.dwell = none) {k : Slot}
    {rest : List Slot} (h : serveRequests s s.survey.requests = some (k, rest)) :
    dwellStart s = startDwell k { s with survey := { s.survey with requests := rest } } := by
  simp only [dwellStart, hl, hd, chooseDwell, h]
  rfl

theorem dwellStart_of_scan {s : State} (hl : listening s.station = true) (hd : s.survey.dwell = none) {k : Slot}
    (hnone : serveRequests s s.survey.requests = none) (h : roundRobin s = some k) :
    dwellStart s = startDwell k { s with survey := { s.survey with scanPosition := nextSlot k, requests := [] } } := by
  rw [dwellStart, if_pos (by simp [hl, hd]), chooseDwell, hnone]
  dsimp only
  rw [h]

theorem roundRobin_eq {s : State} {k : Slot} (hwatch : mayWatch (s.slot k).attr = true) (hk : dwellable s k = true)
    (hfirst : ∀ j : Slot, j - s.survey.scanPosition < k - s.survey.scanPosition →
      mayWatch (s.slot j).attr = false ∨ dwellable s j = false) : roundRobin s = some k :=
  find?_eq_some_of_first (turn_pairwise _) (mem_turn _ _) (by simp [hwatch, hk]) fun j _ hj => by
    obtain h | h := hfirst j hj <;> simp [h]

/-! ### The monitor -/

theorem mayVisit_iff (s : State) (i : PathIx) : mayVisit s i = true ↔
    (s.path i).cond ≠ .off ∧ (s.txSide i).inUse.cond ≠ .off ∧ (s.path i).output ≠ none ∧
      (s.txSide i).slotInUse = (s.path i).output := by
  simp only [mayVisit, State.onAir, Bool.and_eq_true, bne_iff_ne, Option.isSome_iff_ne_none, beq_iff_eq]
  constructor
  · rintro ⟨⟨⟨hc, hu⟩, hs⟩, he⟩; exact ⟨hc, hu, he ▸ hs, he⟩
  · rintro ⟨hc, hu, ho, he⟩; exact ⟨⟨⟨hc, hu⟩, he ▸ ho⟩, he⟩

theorem visitChoice_eq {s : State} {i : PathIx} (hi : mayVisit s i = true)
    (hfirst : ∀ j : PathIx, j - s.mon.visitPosition < i - s.mon.visitPosition → mayVisit s j = false) :
    visitChoice s = some i :=
  find?_eq_some_of_first (turn_pairwise _) (mem_turn _ _) hi fun j _ hj => hfirst j hj

theorem visitChoice_none {s : State} (h : ∀ i : PathIx, mayVisit s i = false) : visitChoice s = none :=
  List.find?_eq_none.mpr fun i _ => by simp [h i]

end Sys2Proof.Machine

namespace Sys2Proof

open Machine

/-- Settles O38: the lists of eligible slots and of distances say it, with the guard read as a distance. -/
theorem nearestEligibleSlot : Obligations.NearestEligibleSlot := by
  refine fun s preferred => ⟨fun k h => nearestEligible_spec h, nearestEligible_eq_none_iff s preferred, fun k => ?_⟩
  have hguard (i : PathIx) (r : Slot) : withinGuard s.params.guardDistance r k = false ↔
      s.params.guardDistance < slotDistance r k := by
    rw [← Bool.not_eq_true, withinGuard_iff, Nat.not_le]
  rw [eligible_iff, guarded_eq_false_iff]
  exact and_congr (by simp [mayTransmit]) (and_congr Iff.rfl (and_congr Iff.rfl
    (forall_congr' fun i => forall_congr' fun r => imp_congr_right fun _ => hguard i r)))

/-- Settles O33: the requests that may not be dwelt on are skipped, and the scan's list stands in turn from its position. -/
theorem dwellStartsOnNextSlot : Obligations.DwellStartsOnNextSlot := by
  refine ⟨fun skipped rest k s hst hd hreq hskip hrx hown => ?_, fun k s hst hd hreq hattr hrx hown hfirst => ?_, fun s h => ?_⟩
  · have hserve : serveRequests s s.survey.requests = some (k, rest) := by
      rw [hreq, serveRequests_append fun j hj => dwellable_eq_false (hskip j hj), serveRequests,
        if_pos ((dwellable_iff s k).mpr ⟨hrx, hown⟩)]
    rw [exec_eq, effect, dwellStart_of_request ((listening_iff _).mpr hst) hd hserve]
    rfl
  · have hserve : serveRequests s s.survey.requests = none := by
      have happ := serveRequests_append (s := s) (fun j hj => dwellable_eq_false (hreq j hj)) []
      rwa [List.append_nil] at happ
    have hscan : roundRobin s = some k := by
      refine roundRobin_eq ((mayWatch_iff _).mpr hattr) ((dwellable_iff s k).mpr ⟨hrx, hown⟩) fun j hj => ?_
      obtain (h | h) | h := hfirst j hj
      · exact .inl (by rw [h]; rfl)
      · exact .inl (by rw [h]; rfl)
      · exact .inr (dwellable_eq_false h)
    rw [exec_eq, effect, dwellStart_of_scan ((listening_iff _).mpr hst) hd hserve hscan, nextSlot_eq]
    rfl
  · rw [exec_eq, effect, dwellStart, if_neg]
    obtain h | h | h := h <;> simp [h, listening]

/-- Settles O50: the list of paths stands in turn from the visit position. -/
theorem visitStartsOnNextPath : Obligations.VisitStartsOnNextPath := by
  refine ⟨fun i k s hv hsite hout hi hfirst => ?_, fun i s => mayVisit_iff s i, fun s h => ?_⟩
  · have hvisit : visitStart s = startVisit i k s := by
      simp [visitStart, hv, hsite, chooseVisit, visitChoice_eq hi hfirst, hout]
    rw [exec_eq, effect, hvisit, startVisit, nextPath_eq]
    rfl
  · have hvisit : visitStart s = s := by
      obtain h | h | h := h
      · simp [visitStart, h]
      · simp [visitStart, h]
      · simp [visitStart, chooseVisit, visitChoice_none h]
    rw [exec_eq, effect, hvisit]

end Sys2Proof
end
section
/-! PROOFS. The slot claim table's own tests (O35 to O37) and the end of a transmit fault (O51). -/

namespace Sys2Proof.Machine

open Sys2Proof

variable {s : State} {i : PathIx} {k : Slot}

theorem claimingPermitted_iff (s : State) :
    s.claimingPermitted = true ↔ s.station = .running ∧ s.gov.site = .transmitting := by
  simp [State.claimingPermitted]

theorem claimingPermitted_eq_false (h : s.station ≠ .running ∨ s.gov.site ≠ .transmitting) :
    s.claimingPermitted = false := by
  rw [Bool.eq_false_iff, Ne, claimingPermitted_iff, not_and_or]
  exact h

/-- Two changes of one entry are one change. -/
theorem upd_upd {α : Type} {n : Nat} (v : Vector α n) (i : Fin n) (f g : α → α) :
    upd (upd v i f) i g = upd v i fun a => g (f a) := by
  simp [upd]

/-! ### Conditions of Table 7-1 on a site that transmits -/

theorem condOf_on {p : PathRec} (h : p.state = .on) : condOf .transmitting p =
    if p.txFaultDeadline ≠ none then .off else if p.shed then .tagOnly else .full := by
  simp [condOf, h, Option.isSome_iff_ne_none]

theorem condOf_radiating {p : PathRec} (h : p.state = .claiming ∨ p.state = .switching ∨ p.state = .holdover) :
    condOf .transmitting p = if p.txFaultDeadline = none then .tagOnly else .off := by
  rcases h with h | h | h <;> cases hf : p.txFaultDeadline <;> simp [condOf, h, hf]

theorem condOf_silent {site : Site} {p : PathRec}
    (h : p.state = .idle ∨ p.state = .seeking ∨ p.state = .acquiring ∨ p.state = .waitSlot) : condOf site p = .off := by
  rcases h with h | h | h | h <;> simp [condOf, h]

/-! ### A request into the tuning queue (R17, R20) -/

theorem requested_tuneInto (i : PathIx) (d : Side) (k : Slot) (q : List TuneEntry) : Requested i d k q (tuneInto i d k q) := by
  have hany : q.any (TuneEntry.isFor i d) = true ↔ ∃ e ∈ q, e.path = i ∧ e.side = d := by
    simp [List.any_eq_true, TuneEntry.isFor_iff]
  unfold tuneInto
  refine ⟨fun h => ?_, fun h hlt => ?_, fun h hle => ?_⟩
  · rw [if_pos (hany.mpr h)]
    exact List.map_congr_left fun e _ => by simp only [TuneEntry.isFor_iff]
  · rw [if_neg (fun ha => by obtain ⟨e, he, hd⟩ := hany.mp ha; exact h e he hd), if_pos (by exact hlt)]
  · rw [if_neg (fun ha => by obtain ⟨e, he, hd⟩ := hany.mp ha; exact h e he hd), if_neg (by simpa [tuningCapacity] using hle)]

/-! ### Hold-off (R97) -/

theorem holdOffEnd_eq {d : Time} (hown : (s.slot k).own = .intent) (hd : (s.slot k).ownDeadline = some d)
    (hreached : reached s.now d = true) (hp : s.claimingPermitted = true) :
    holdOffEnd k s = pinnedUpdate (collisionTest k (claimWon k (s.modSlot k SlotEntry.wonHeld))) := by
  simp [holdOffEnd, hown, hd, hreached, hp]

theorem claimWon_keeps (s : State) (k : Slot) : (claimWon k s).tuning = s.tuning ∧ (claimWon k s).sources = s.sources ∧
    (claimWon k s).waits = s.waits ∧ (claimWon k s).now = s.now ∧ (claimWon k s).params = s.params := by
  unfold claimWon
  split
  · exact ⟨rfl, rfl, rfl, rfl, rfl⟩
  · split
    · refine ⟨by simp, by simp, by simp, (movePath_act _ _ _).now_eq, (movePath_act _ _ _).params_eq⟩
    · exact ⟨rfl, rfl, rfl, rfl, rfl⟩

theorem collisionTest_slot_self (s : State) (k : Slot) : (collisionTest k s).slot k =
    { s.slot k with collision :=
      if (s.slot k).inCollision then some ((s.slot k).collision.getD (laterS s.now s.params.collisionPersistence))
      else none } := by
  rw [collisionTest_eq, State.slot_modSlot_self]

theorem collisionTest_slot_ne (s : State) {j : Slot} (h : j ≠ k) : (collisionTest k s).slot j = s.slot j :=
  State.slot_modSlot_ne _ _ _ h

/-! ### A slot lost in a collision (R101) -/

theorem Peer.wins_iff (own : StationId) (p : Peer) : p.wins own = true ↔
    p.pinned = true ∨ (p.phase = .held ∧ p.station < own) := by
  simp only [Peer.wins, Peer.contends, Bool.and_eq_true, Bool.or_eq_true, beq_iff_eq, decide_eq_true_eq]
  tauto

theorem inCollision_of_wins {p : Peer} (hown : (s.slot k).own = .held) (hpin : (s.slot k).ownPinned = false)
    (hp : p ∈ (s.slot k).peers) (hw : p.wins s.params.stationId = true) : (s.slot k).inCollision = true := by
  rw [SlotEntry.inCollision_iff]
  refine ⟨hown, hpin, p, hp, ?_⟩
  obtain h | ⟨h, -⟩ := (Peer.wins_iff _ p).mp hw
  · exact .inr h
  · exact .inl h

theorem eligible_congr {s t : State} {k : Slot} (hattr : (t.slot k).attr = (s.slot k).attr)
    (hown : (t.slot k).own = (s.slot k).own) (hpeers : (t.slot k).peers = (s.slot k).peers)
    (hguard : guarded t k = guarded s k) : eligible t k = eligible s k := by
  simp only [eligible, hattr, hown, hpeers, hguard]

/-- An own claim lost on a slot that peers hold leaves no slot newly eligible. -/
theorem newlyEligible_loseToPeer {p : Peer} (hown : (s.slot k).ownPath = some i) (hp : p ∈ (s.slot k).peers)
    (e : PathEvent) : newlyEligible s (pinnedUpdate (loseToPeer 0 k e s)) = false := by
  rw [newlyEligible_eq_false_iff]
  intro j hj
  have hact := (Acts.loseToPeer s 0 k e).frame
  have hguard : guarded (pinnedUpdate (loseToPeer 0 k e s)) j = guarded s j := by
    refine guarded_congr (fun m => ?_) hact.params_eq j
    rcases eq_or_ne m i with rfl | hne
    · simp only [loseToPeer_path_self hown, slotLost_path_self]
    · simp only [loseToPeer_path_ne hown _ _ hne]
  rcases eq_or_ne j k with rfl | hne
  · rw [eligible_iff, pinnedUpdate_slot, loseToPeer_slot_self hown] at hj
    obtain ⟨-, -, hnone, -⟩ := hj
    have hempty : (s.slot j).peers = [] := hnone
    rw [hempty] at hp
    cases hp
  · have hslot : (pinnedUpdate (loseToPeer 0 k e s)).slot j = s.slot j := by
      rw [pinnedUpdate_slot, loseToPeer_slot_ne _ _ _ hne]
    rwa [eligible_congr (by rw [hslot]) (by rw [hslot]) (by rw [hslot]) hguard] at hj

theorem settleNotices_of_none {s u : State} (hnew : newlyEligible s u = false) (hu : MarksServed u) :
    settleNotices s u = u := by
  have hnotice : noticeFreed s u = u := by simp [noticeFreed, hnew]
  rw [settleNotices, hnotice, serveMarks_of_served hu]

theorem collisionExpiry_lost {d : Time} {p : Peer} (hmarks : MarksServed s) (hown : (s.slot k).own = .held)
    (hpin : (s.slot k).ownPinned = false) (howner : (s.slot k).ownPath = some i) (hcol : (s.slot k).collision = some d)
    (hreached : reached s.now d = true) (hp : p ∈ (s.slot k).peers) (hw : p.wins s.params.stationId = true) :
    collisionExpiry k s = pinnedUpdate (loseToPeer 0 k .slotCollision s) := by
  have hwins : (s.slot k).peers.any (Peer.wins s.params.stationId) = true := List.any_eq_true.mpr ⟨p, hp, hw⟩
  have hsettle := settleNotices_of_none (newlyEligible_loseToPeer howner hp .slotCollision)
    ((hmarks.loseToPeer 0 k .slotCollision).congr fun j hj => by rwa [pinnedUpdate_wait] at hj)
  rw [collisionExpiry, hcol, dueAt_some, if_pos hreached, if_pos (by rw [inCollision_of_wins hown hpin hp hw, hwins]; rfl)]
  exact hsettle

/-! ### A request again (R105) -/

theorem claimRetry_asks {d : Time} (hd : (s.wait i).retryDeadline = some d) (hreached : reached s.now d = true)
    (hw : (s.path i).state = .waitSlot) (hp : s.claimingPermitted = true) (hany : anyEligible s = true)
    (hmarks : MarksServed s) :
    claimRetryDeadline i s = chooseAndClaim i (s.modWait i fun w => { w with retryDeadline := none, freed := true }) := by
  have hmod : (s.modWait i fun w => { w with retryDeadline := none }).modWait i (fun w => { w with freed := true }) =
      s.modWait i fun w => { w with retryDeadline := none, freed := true } := by
    simp only [State.modWait, upd_upd]
  rw [claimRetryDeadline, hd, dueAt_some, if_pos hreached]
  dsimp only
  rw [if_pos (by rw [hp, hany, hw]; rfl), hmod]
  refine serveMarks_of_one (by simp) hw fun j hj => ?_
  rw [State.wait_modWait_ne _ _ _ hj]
  exact hmarks j

theorem chooseAndClaim_intent (hp : s.claimingPermitted = true) (hh : holdsSlot s i = false)
    (hpin : (s.carryOf i).pinned = false ∨ pinnedEligible s (s.carryOf i).preferred = false)
    (hk : nearestEligible s (s.carryOf i).preferred = some k) : chooseAndClaim i s = takeIntent i k s := by
  unfold chooseAndClaim
  rw [if_neg (by simp [hp]), if_neg (by simp [hh]), if_neg (by rcases hpin with h | h <;> simp [h]), hk]

theorem chooseAndClaim_pinned (hp : s.claimingPermitted = true) (hh : holdsSlot s i = false)
    (hpin : (s.carryOf i).pinned = true) (hel : pinnedEligible s (s.carryOf i).preferred = true) :
    chooseAndClaim i s = takePinned i (s.carryOf i).preferred s := by
  unfold chooseAndClaim
  rw [if_neg (by simp [hp]), if_neg (by simp [hh]), if_pos (by simp [hpin, hel])]

theorem anyEligible_of_nearest {preferred : Slot} (h : nearestEligible s preferred = some k) : anyEligible s = true := by
  by_contra hne
  have hnone := (anyEligible_eq_false_iff s).mp (Bool.eq_false_iff.mpr hne) k
  rw [(nearestEligible_spec h).1] at hnone
  cases hnone

theorem claimRetry_drops {d : Time} (hd : (s.wait i).retryDeadline = some d) (hreached : reached s.now d = true)
    (h : (s.path i).state ≠ .waitSlot ∨ s.claimingPermitted = false ∨ anyEligible s = false) :
    claimRetryDeadline i s = s.modWait i fun w => { w with retryDeadline := none } := by
  rw [claimRetryDeadline, hd, dueAt_some, if_pos hreached]
  exact if_neg (by rcases h with h | h | h <;> simp [h])

/-! ### The end of a transmit fault (R154) -/

theorem endTxFault_path_self (s : State) (i : PathIx) : (endTxFault i s).path i =
    { s.path i with txFaultDeadline := none, monitorFails := 0, event := some .txRestored
                    cond := condOf s.gov.site { s.path i with txFaultDeadline := none } } := by
  unfold endTxFault
  rw [refreshPath_path_self]
  simp only [recordEvent_path_self, State.path_modPath_self, recordEvent_gov]
  exact congrArg (fun c => { s.path i with
    txFaultDeadline := none, monitorFails := 0, event := some .txRestored, cond := c }) (condOf_congr rfl rfl rfl)

theorem endTxFault_path_ne (s : State) {j : PathIx} (h : j ≠ i) : (endTxFault i s).path j = s.path j := by
  unfold endTxFault
  rw [refreshPath_path_ne _ h, recordEvent_path_ne _ _ h, State.path_modPath_ne _ _ _ h]

end Sys2Proof.Machine

namespace Sys2Proof

open Machine

/-- Settles O35: the claim is won, and the collision test starts from an entry without a deadline. -/
theorem holdOffEndWinsClaim : Obligations.HoldOffEndWinsClaim := by
  refine ⟨fun k i d s hentry hown howner hst hd hreached hrun hsite => ?_, fun k s h => ?_⟩
  · obtain ⟨-, -, hpinned, hcollision⟩ := hentry
    have hpin : (s.slot k).ownPinned = false := by
      rw [Bool.eq_false_iff]; intro h; exact absurd (hpinned h) (by rw [hown]; decide)
    have hcol : (s.slot k).collision = none := by
      rw [← Option.not_isSome_iff_eq_none]; intro h; exact absurd (hcollision h).1 (by rw [hown]; decide)
    rw [answers_iff, effect, holdOffEnd_eq hown hd hreached ((claimingPermitted_iff s).mpr ⟨hrun, hsite⟩)]
    have howner' : ((s.modSlot k SlotEntry.wonHeld).slot k).ownPath = some i := by simpa [SlotEntry.wonHeld] using howner
    obtain ⟨htuning, hsources, hwaits, hnow, hparams⟩ := claimWon_keeps (s.modSlot k SlotEntry.wonHeld) k
    refine ⟨?_, fun j hj => ?_, ?_, fun j hj => ?_, ?_, htuning, hsources, hwaits⟩
    · have hin : (s.slot k).wonHeld.inCollision = true ↔
          ∃ p ∈ (s.slot k).peers, p.phase = .held ∨ p.pinned = true := by
        rw [SlotEntry.inCollision_iff]
        exact ⟨fun ⟨_, _, h⟩ => h, fun h => ⟨rfl, hpin, h⟩⟩
      rw [pinnedUpdate_slot, collisionTest_slot_self, claimWon_slot, State.slot_modSlot_self, hnow, hparams]
      have hnone : (s.slot k).wonHeld.collision = none := hcol
      rw [hnone, Option.getD_none]
      by_cases hc : ∃ p ∈ (s.slot k).peers, p.phase = .held ∨ p.pinned = true
      · rw [if_pos (hin.mpr hc), if_pos hc]
        rfl
      · rw [if_neg (fun h => hc (hin.mp h)), if_neg hc, SlotEntry.wonHeld]
    · rw [pinnedUpdate_slot, collisionTest_slot_ne _ hj, claimWon_slot, State.slot_modSlot_ne _ _ _ hj]
    · have hpath : (pinnedUpdate (collisionTest k (claimWon k (s.modSlot k SlotEntry.wonHeld)))).path i =
          (s.path i).won s.gov.site := claimWon_path_self (s := s.modSlot k SlotEntry.wonHeld) howner' hst
      rw [hpath, PathRec.won, hsite, condOf_on rfl]
    · have hpath : (pinnedUpdate (collisionTest k (claimWon k (s.modSlot k SlotEntry.wonHeld)))).path j = s.path j :=
        claimWon_path_ne (s := s.modSlot k SlotEntry.wonHeld)
          (.inl fun h => hj (Option.some.inj (h.symm.trans howner')))
      exact hpath
    · exact ((((Acts.modSlot s k SlotEntry.wonHeld).trans (.claimWon _ k)).trans (.collisionTest _ k)).trans
        (.pinnedUpdate _)).frame
  · rw [exec_eq, effect, holdOffEnd, if_neg]
    rcases h with h | h
    · simp [h]
    · simp [claimingPermitted_eq_false h]

/-- Settles O36: the records decide by R101, and a slot that its peers hold comes free to nobody. -/
theorem collisionExpiryDecides : Obligations.CollisionExpiryDecides := by
  refine ⟨fun k i d p s hmarks hown hpin howner hcol hreached hp hw hst => ?_,
    fun k d s hown hpin hcol hreached hex hall => ?_, fun k s h => ?_⟩
  · rw [answers_iff, effect, collisionExpiry_lost hmarks hown hpin howner hcol hreached hp ((Peer.wins_iff _ p).mpr hw)]
    refine ⟨?_, fun j hj => ?_, ?_, fun j hj => ?_, ?_, fun j hj => ?_, ?_, ?_, ?_⟩
    · rw [pinnedUpdate_slot, loseToPeer_slot_self howner, SlotEntry.cleared]
    · rw [pinnedUpdate_slot, loseToPeer_slot_ne _ _ _ hj]
    · rw [pinnedUpdate_path, loseToPeer_path_self howner, slotLost_path_self, if_pos rfl]
      rcases hst with h | h | h <;> rw [h] <;> simp [slotLostState, condOf_silent]
    · rw [pinnedUpdate_path, loseToPeer_path_ne howner _ _ hj]
    · rw [pinnedUpdate_wait, loseToPeer_wait_self howner]
    · rw [pinnedUpdate_wait, loseToPeer_wait_ne howner _ _ hj]
    · rw [pinnedUpdate_tuning, loseToPeer_tuning howner, if_pos rfl]
      rfl
    · rw [pinnedUpdate_sources, loseToPeer_sources]
    · exact ((Acts.loseToPeer s 0 k _).trans (.pinnedUpdate _)).frame
  · have hin : (s.slot k).inCollision = true := (SlotEntry.inCollision_iff _).mpr ⟨hown, hpin, hex⟩
    have hlose : (s.slot k).peers.any (Peer.wins s.params.stationId) = false := by
      rw [List.any_eq_false]
      intro p hp hw
      obtain ⟨hpinned, hle⟩ := hall p hp
      obtain h | ⟨hheld, hlt⟩ := (Peer.wins_iff _ p).mp hw
      · rw [hpinned] at h; cases h
      · exact absurd hlt (BitVec.not_lt.mpr (hle hheld))
    rw [exec_eq, effect, collisionExpiry, hcol, dueAt_some, if_pos hreached, hlose, Bool.and_false,
      if_neg (by decide), restartCollision_eq, if_pos hin]
  · rw [exec_eq, effect, collisionExpiry, h, dueAt_none]
    rfl

/-- Settles O37: the one path that is marked asks, and its request is the choice of R95. -/
theorem claimRetryTakesSlot : Obligations.ClaimRetryTakesSlot := by
  refine ⟨fun i k d s hmarks hd hreached hw hrun hsite hh hpin hk => ?_,
    fun i d s hmarks hd hreached hw hrun hsite hh hany hpin hel => ?_, fun i d s hd hreached h => ?_, fun i s h => ?_⟩
  · have hp := (claimingPermitted_iff s).mpr ⟨hrun, hsite⟩
    have hask := claimRetry_asks hd hreached hw hp (anyEligible_of_nearest hk) hmarks
    have hintent := chooseAndClaim_intent (s := s.modWait i fun w => { w with retryDeadline := none, freed := true })
      hp hh hpin hk
    rw [answers_iff, effect, hask, hintent]
    refine ⟨takeIntent_slot_self _ i k, fun j hj => takeIntent_slot_ne _ i hj, ?_, fun j hj => takeIntent_path_ne _ k hj,
      takeIntent_wait_self _ i k, fun j hj => ?_, ?_, takeIntent_silentRelease _ i k, takeIntent_sources _ i k, ?_⟩
    · rw [takeIntent_path_self (by simp [hw])]
      simp only [PathRec.claiming, State.modWait_gov, hsite]
      rw [condOf_radiating (.inl rfl)]
      rfl
    · rw [takeIntent_wait_ne _ k hj, State.wait_modWait_ne _ _ _ hj]
    · rw [takeIntent_tuning]
      have hfilter : (fun e : TuneEntry => !e.isNamed i (some .transmit)) =
          fun e => decide (¬(e.path = i ∧ e.side = .transmit)) := by
        funext e
        rw [Bool.eq_iff_iff]
        simp [TuneEntry.isNamed, TuneEntry.isFor]
      rw [hfilter]
      exact requested_tuneInto i .transmit k _
    · exact ((Acts.modWait s i _).trans (Acts.takeIntent _ i k)).frame
  · have hp := (claimingPermitted_iff s).mpr ⟨hrun, hsite⟩
    have hask := claimRetry_asks hd hreached hw hp hany hmarks
    have hpinned := chooseAndClaim_pinned (s := s.modWait i fun w => { w with retryDeadline := none, freed := true })
      hp hh hpin hel
    rw [answers_iff, effect, hask, hpinned]
    refine ⟨takePinned_slot_self _ i _, fun j hj => takePinned_slot_ne _ i hj, ?_, ?_, ?_,
      fun j hj => takePinned_path_ne _ _ hj, ((Acts.modWait s i _).trans (Acts.takePinned _ i _)).frame⟩
    all_goals rw [takePinned_path_self]; rfl
  · rw [exec_eq, effect, claimRetry_drops hd hreached]
    rcases h with h | h | h | h
    · exact .inl h
    · exact .inr (.inl (claimingPermitted_eq_false (.inl h)))
    · exact .inr (.inl (claimingPermitted_eq_false (.inr h)))
    · exact .inr (.inr h)
  · rw [exec_eq, effect, claimRetryDeadline, h, dueAt_none]
    rfl

/-- Settles O51: the fault's fields are cleared and the condition derived from them. -/
theorem txFaultEnds : Obligations.TxFaultEnds := by
  refine ⟨fun i d s hd hreached => ?_, fun i s h => ?_⟩
  · have heq : txRestored i s = endTxFault i s := by rw [txRestored, hd, dueAt_some, if_pos hreached]
    have hact := Acts.endTxFault s i
    rw [answers_iff, effect, heq]
    refine ⟨?_, ?_, fun j hj => endTxFault_path_ne s hj, ?_, ?_, ?_, ?_, hact.frame⟩
    · rw [endTxFault_path_self]
    · rw [endTxFault_path_self]
      exact condOf_congr rfl rfl rfl
    all_goals simp [endTxFault]
  · rw [exec_eq, effect, txRestored, h, dueAt_none]
    rfl

end Sys2Proof
end
section
/-! PROOFS. An event that rewrites peer lists (R91 to R93): what the re-tests make of each slot and of each path. With the
expiry of peer records (O39). -/

namespace Sys2Proof.Machine

open Sys2Proof

/-! ### A slot tested again (R98, R100) -/

/-- The entry's INTENT is withdrawn by one of its peer records (R98). -/
def SlotEntry.withdrawn (own : StationId) (e : SlotEntry) : Bool :=
  (e.own == .intent) && e.peers.any (Peer.withdraws own)

/-- The entry after its re-test, with the deadline that a collision timing would start with. -/
def SlotEntry.retest (own : StationId) (d : Time) (e : SlotEntry) : SlotEntry :=
  match e.own with
  | .none => e
  | .intent => if e.withdrawn own then e.cleared else e
  | .held => { e with collision := if e.inCollision then some (e.collision.getD d) else none }

namespace SlotEntry

theorem retest_peers (own : StationId) (d : Time) (e : SlotEntry) : (e.retest own d).peers = e.peers := by
  unfold retest
  split
  · rfl
  · split <;> rfl
  · rfl

theorem retest_attr (own : StationId) (d : Time) (e : SlotEntry) : (e.retest own d).attr = e.attr := by
  unfold retest
  split
  · rfl
  · split <;> rfl
  · rfl

theorem retest_none {e : SlotEntry} (h : e.own = .none) (own : StationId) (d : Time) : e.retest own d = e := by
  simp [retest, h]

theorem retest_held {e : SlotEntry} (h : e.own = .held) (own : StationId) (d : Time) :
    e.retest own d = { e with collision := if e.inCollision then some (e.collision.getD d) else none } := by
  simp [retest, h]

theorem retest_withdrawn {e : SlotEntry} {own : StationId} (h : e.withdrawn own = true) (d : Time) :
    e.retest own d = e.cleared := by
  have hown : e.own = .intent := by simpa using (Bool.and_eq_true_iff.mp h).1
  simp [retest, hown, h]

theorem retest_intent {e : SlotEntry} {own : StationId} (hown : e.own = .intent) (h : e.withdrawn own = false)
    (d : Time) : e.retest own d = e := by
  simp [retest, hown, h]

/-- A re-test leaves the owner or clears the entry. -/
theorem retest_owner (own : StationId) (d : Time) (e : SlotEntry) :
    (e.retest own d).ownPath = e.ownPath ∨ (e.retest own d).ownPath = none := by
  unfold retest
  split
  · exact .inl rfl
  · split
    · exact .inr rfl
    · exact .inl rfl
  · exact .inl rfl

theorem retest_withdrawn_eq_false (own : StationId) (d : Time) (e : SlotEntry) :
    (e.retest own d).withdrawn own = false := by
  cases hw : e.withdrawn own with
  | true => rw [retest_withdrawn hw]; rfl
  | false =>
    cases h : e.own with
    | none => rwa [retest_none h]
    | intent => rwa [retest_intent h hw]
    | held => rw [retest_held h]; simp [withdrawn, h]

theorem withdrawn_iff (own : StationId) (e : SlotEntry) : e.withdrawn own = true ↔
    e.own = .intent ∧ ∃ p ∈ e.peers, p.pinned = true ∨ p.phase = .held ∨ p.station < own := by
  simp [withdrawn, Peer.withdraws, or_assoc]

end SlotEntry

/-- The deadline of a collision timing that starts now (R100). -/
def State.collisionStart (s : State) : Time := laterS s.now s.params.collisionPersistence

section

variable (s : State) (c : Nat) (k : Slot)

theorem retestSlot_slot_self :
    (retestSlot c k s).slot k = (s.slot k).retest s.params.stationId s.collisionStart := by
  unfold retestSlot
  split
  · rename_i h; rw [SlotEntry.retest_none h]
  · rename_i h
    have hw : (s.slot k).withdrawn s.params.stationId = (s.slot k).peers.any (Peer.withdraws s.params.stationId) := by
      simp [SlotEntry.withdrawn, h]
    split
    · rename_i hany
      rw [SlotEntry.retest_withdrawn (hw.trans hany)]
      cases howner : (s.slot k).ownPath with
      | none => simp [loseToPeer, howner]
      | some i => rw [loseToPeer_slot_self howner]
    · rename_i hany
      rw [SlotEntry.retest_intent h (hw.trans (Bool.eq_false_iff.mpr hany))]
  · rename_i h
    rw [collisionTest_slot_self, SlotEntry.retest_held h]
    rfl

theorem retestSlot_slot_ne {j : Slot} (h : j ≠ k) : (retestSlot c k s).slot j = s.slot j := by
  unfold retestSlot
  split
  · rfl
  · split
    · exact loseToPeer_slot_ne _ _ _ h
    · rfl
  · exact collisionTest_slot_ne _ h

theorem retestSlot_of_not_withdrawn {i : PathIx}
    (h : (s.slot k).ownPath = some i → (s.slot k).withdrawn s.params.stationId = false) :
    (retestSlot c k s).path i = s.path i ∧ (retestSlot c k s).wait i = s.wait i := by
  unfold retestSlot
  split
  · exact ⟨rfl, rfl⟩
  · rename_i hown
    split
    · rename_i hany
      have hne : (s.slot k).ownPath ≠ some i := fun ho => by
        have hw := h ho
        rw [SlotEntry.withdrawn, hown, hany] at hw
        cases hw
      cases howner : (s.slot k).ownPath with
      | none => simp [loseToPeer, howner]
      | some j =>
        have hij : i ≠ j := fun he => hne (he ▸ howner)
        exact ⟨loseToPeer_path_ne howner _ _ hij, loseToPeer_wait_ne howner _ _ hij⟩
    · exact ⟨rfl, rfl⟩
  · exact ⟨rfl, rfl⟩

theorem retestSlot_of_withdrawn (h : (s.slot k).withdrawn s.params.stationId = true) :
    retestSlot c k s = loseToPeer c k .claimWithdrawn s := by
  obtain ⟨hown, hany⟩ := Bool.and_eq_true_iff.mp h
  have hown' : (s.slot k).own = .intent := by simpa using hown
  simp [retestSlot, hown', hany]

end

/-! ### Every changed slot tested again -/

section

variable {s t : State} {c : Nat}

/-- One turn of the re-tests: slot k of t, against the state before the event. -/
def retestTurn (c : Nat) (s t : State) (k : Slot) (u : State) : State :=
  if (t.slot k).peers == (s.slot k).peers then u else retestSlot c k u

theorem retestChanged_eq (c : Nat) (s t : State) : retestChanged c s t = forSlots (retestTurn c s t) t := rfl

theorem retestTurn_act (c : Nat) (s t : State) (k : Slot) (u : State) : ActFrame u (retestTurn c s t k u) := by
  unfold retestTurn
  split
  · rfl
  · exact retestSlot_act u c k

theorem retestTurn_slot_ne {j k : Slot} (u : State) (h : j ≠ k) : (retestTurn c s t k u).slot j = u.slot j := by
  unfold retestTurn
  split
  · rfl
  · exact retestSlot_slot_ne _ _ _ h

/-- The slot, with the station and the deadline by which a re-test decides. -/
def State.testedSlot (u : State) (k : Slot) : SlotEntry × StationId × Time :=
  (u.slot k, u.params.stationId, u.collisionStart)

theorem retestChanged_slot (c : Nat) (s t : State) (k : Slot) : (retestChanged c s t).slot k =
    if (t.slot k).peers == (s.slot k).peers then t.slot k else (t.slot k).retest t.params.stationId t.collisionStart := by
  have hkeep (u : State) (j : Slot) : (retestTurn c s t j u).params.stationId = u.params.stationId ∧
      (retestTurn c s t j u).collisionStart = u.collisionStart := by
    have hact := retestTurn_act c s t j u
    simp only [State.collisionStart, hact.params_eq, hact.now_eq, and_self]
  have h := forSlots_pointwise State.testedSlot (retestTurn c s t)
    (fun k x => if (t.slot k).peers == (s.slot k).peers then x else (x.1.retest x.2.1 x.2.2, x.2))
    (fun k u => by
      obtain ⟨hst, hd⟩ := hkeep u k
      simp only [State.testedSlot, hst, hd]
      unfold retestTurn
      split
      · rfl
      · rw [retestSlot_slot_self])
    (fun k j u hne => by
      obtain ⟨hst, hd⟩ := hkeep u k
      simp only [State.testedSlot, hst, hd, retestTurn_slot_ne u hne]) t k
  have hfst := congrArg Prod.fst h
  simp only [State.testedSlot, ← retestChanged_eq] at hfst
  rw [hfst]
  split <;> rfl

/-- A path none of whose slots is withdrawn is left alone by the re-tests. -/
theorem retestChanged_path (c : Nat) {s t : State} {i : PathIx}
    (h : ∀ k, (t.slot k).ownPath = some i → (t.slot k).peers ≠ (s.slot k).peers →
      (t.slot k).withdrawn t.params.stationId = false) :
    (retestChanged c s t).path i = t.path i ∧ (retestChanged c s t).wait i = t.wait i := by
  rw [retestChanged_eq]
  have hkeep := forSlots_keeps
    (P := fun u => u.params.stationId = t.params.stationId ∧
      (∀ k, (u.slot k).ownPath = some i → (t.slot k).peers ≠ (s.slot k).peers →
        (u.slot k).withdrawn u.params.stationId = false) ∧ u.path i = t.path i ∧ u.wait i = t.wait i)
    (f := retestTurn c s t) (fun k u ⟨hst, hslots, hpath, hwait⟩ => ?_) (s := t) ⟨rfl, h, rfl, rfl⟩
  · exact hkeep.2.2
  · have hst' : (retestTurn c s t k u).params.stationId = u.params.stationId := by
      rw [(retestTurn_act c s t k u).params_eq]
    refine ⟨hst'.trans hst, fun j hj hne => ?_, ?_⟩
    · rw [hst']
      rcases eq_or_ne j k with rfl | hjk
      · unfold retestTurn at hj ⊢
        rw [if_neg (by simpa using hne)] at hj ⊢
        rw [retestSlot_slot_self]
        exact SlotEntry.retest_withdrawn_eq_false _ _ _
      · rw [retestTurn_slot_ne _ hjk] at hj ⊢
        exact hslots j hj hne
    · unfold retestTurn
      split
      · exact ⟨hpath, hwait⟩
      · rename_i hne
        obtain ⟨hp, hw⟩ := retestSlot_of_not_withdrawn u c k (i := i) fun ho => hslots k ho (by simpa using hne)
        exact ⟨hp.trans hpath, hw.trans hwait⟩

/-- The only slot of path i is withdrawn: the path loses it to the peer. -/
theorem retestChanged_path_withdrawn (c : Nat) {s t : State} {i : PathIx} {k : Slot} (howner : (t.slot k).ownPath = some i)
    (honly : ∀ j, (t.slot j).ownPath = some i → j = k) (hchanged : (t.slot k).peers ≠ (s.slot k).peers)
    (hw : (t.slot k).withdrawn t.params.stationId = true) :
    (retestChanged c s t).path i = (slotLost c i .claimWithdrawn t).path i ∧
    (retestChanged c s t).wait i =
      { freed := false, retryDeadline := some (laterS t.now t.params.claimHoldOff) } := by
  have hend : (retestChanged c s t).slot k = (t.slot k).cleared := by
    rw [retestChanged_slot, if_neg (by simpa using hchanged), SlotEntry.retest_withdrawn hw]
  have hkeep := forSlots_keeps
    (P := fun u => ActFrame t u ∧ (∀ j, (u.slot j).ownPath = some i → j = k) ∧
      ((u.slot k = t.slot k ∧ u.path i = t.path i) ∨
        ((u.slot k).ownPath = none ∧ u.path i = (slotLost c i .claimWithdrawn t).path i ∧
          u.wait i = { freed := false, retryDeadline := some (laterS t.now t.params.claimHoldOff) })))
    (f := retestTurn c s t) (fun j u ⟨hact, hone, hu⟩ => ?_) (s := t) ⟨rfl, honly, .inl ⟨rfl, rfl⟩⟩
  · rw [← retestChanged_eq] at hkeep
    obtain ⟨-, -, ⟨hk, -⟩ | ⟨-, hp, hwait⟩⟩ := hkeep
    · rw [hend] at hk
      have := congrArg SlotEntry.ownPath hk
      rw [howner] at this
      cases this
    · exact ⟨hp, hwait⟩
  · refine ⟨hact.trans (retestTurn_act c s t j u), fun m hm => ?_, ?_⟩
    · rcases eq_or_ne m j with rfl | hmj
      · unfold retestTurn at hm
        split at hm
        · exact hone m hm
        · rw [retestSlot_slot_self] at hm
          obtain h | h := SlotEntry.retest_owner u.params.stationId u.collisionStart (u.slot m)
          · exact hone m (h ▸ hm)
          · rw [h] at hm; cases hm
      · rw [retestTurn_slot_ne _ hmj] at hm
        exact hone m hm
    · rcases eq_or_ne j k with rfl | hjk
      · unfold retestTurn
        rw [if_neg (by simpa using hchanged)]
        obtain ⟨hk, hp⟩ | ⟨hk, hp, hwait⟩ := hu
        · have howner' : (u.slot j).ownPath = some i := by rw [hk]; exact howner
          rw [retestSlot_of_withdrawn u c j (by rw [hk, hact.params_eq]; exact hw)]
          refine .inr ⟨by rw [loseToPeer_slot_self howner']; rfl, ?_, ?_⟩
          · rw [loseToPeer_path_self howner', slotLost_path_self, slotLost_path_self, hp, hact.gov_eq]
          · rw [loseToPeer_wait_self howner', hact.now_eq, hact.params_eq]
        · obtain ⟨hp', hw'⟩ := retestSlot_of_not_withdrawn u c j (i := i) fun ho => by rw [hk] at ho; cases ho
          refine .inr ⟨?_, hp'.trans hp, hw'.trans hwait⟩
          rw [retestSlot_slot_self]
          obtain h | h := SlotEntry.retest_owner u.params.stationId u.collisionStart (u.slot j)
          · exact h.trans hk
          · exact h
      · have hother : (u.slot j).ownPath ≠ some i := fun h => hjk (hone j h)
        have hstay : (retestTurn c s t j u).path i = u.path i ∧ (retestTurn c s t j u).wait i = u.wait i := by
          unfold retestTurn
          split
          · exact ⟨rfl, rfl⟩
          · exact retestSlot_of_not_withdrawn u c j fun ho => absurd ho hother
        rw [retestTurn_slot_ne _ (Ne.symm hjk), hstay.1, hstay.2]
        exact hu

end

/-! ### The event and its requests -/

/-- The state with its peer lists rewritten, before any re-test. -/
def State.rewritePeers (f : Slot → List Peer → List Peer) (s : State) : State :=
  { s with slots := updAll s.slots (fun k e => { e with peers := f k e.peers }) }

/-- The state after the re-tests of an event, before its freed notices. -/
def retestedEvent (c : Nat) (f : Slot → List Peer → List Peer) (s : State) : State :=
  pinnedUpdate (retestChanged c s (s.rewritePeers f))

theorem peerEvent_settled (c : Nat) (f : Slot → List Peer → List Peer) (s : State) :
    serveMarks (peerEvent c f s) = settleNotices s (retestedEvent c f s) := rfl

section

variable (c : Nat) (f : Slot → List Peer → List Peer) (s : State)

theorem rewritePeers_slot (k : Slot) : (s.rewritePeers f).slot k = { s.slot k with peers := f k (s.slot k).peers } := by
  simp [State.rewritePeers, State.slot]

theorem rewritePeers_path (i : PathIx) : State.path (s.rewritePeers f) i = s.path i :=
  have h (v : Vector SlotEntry 64) : State.path { s with slots := v } i = s.path i := rfl
  h _
theorem rewritePeers_wait (i : PathIx) : State.wait (s.rewritePeers f) i = s.wait i :=
  have h (v : Vector SlotEntry 64) : State.wait { s with slots := v } i = s.wait i := rfl
  h _
theorem rewritePeers_params : State.params (s.rewritePeers f) = s.params :=
  have h (v : Vector SlotEntry 64) : State.params { s with slots := v } = s.params := rfl
  h _
theorem rewritePeers_sources : State.sources (s.rewritePeers f) = s.sources :=
  have h (v : Vector SlotEntry 64) : State.sources { s with slots := v } = s.sources := rfl
  h _
theorem rewritePeers_start : State.collisionStart (s.rewritePeers f) = s.collisionStart :=
  have h (v : Vector SlotEntry 64) : State.collisionStart { s with slots := v } = s.collisionStart := rfl
  h _
theorem rewritePeers_tuning : State.tuning (s.rewritePeers f) = s.tuning :=
  have h (v : Vector SlotEntry 64) : State.tuning { s with slots := v } = s.tuning := rfl
  h _

theorem retestedEvent_slot (k : Slot) : (retestedEvent c f s).slot k =
    if f k (s.slot k).peers == (s.slot k).peers then s.slot k
    else ({ s.slot k with peers := f k (s.slot k).peers } : SlotEntry).retest s.params.stationId s.collisionStart := by
  rw [retestedEvent, pinnedUpdate_slot, retestChanged_slot, rewritePeers_slot, rewritePeers_params, rewritePeers_start]
  by_cases h : f k (s.slot k).peers = (s.slot k).peers
  · rw [if_pos (by simpa using h), if_pos (by simpa using h), h]
  · rw [if_neg (by simpa using h), if_neg (by simpa using h)]

theorem retestedEvent_peers (k : Slot) : ((retestedEvent c f s).slot k).peers = f k (s.slot k).peers := by
  rw [retestedEvent_slot]
  split
  · rename_i h; exact (beq_iff_eq.mp h).symm
  · rw [SlotEntry.retest_peers]

theorem retestedEvent_attr (k : Slot) : ((retestedEvent c f s).slot k).attr = (s.slot k).attr := by
  rw [retestedEvent_slot]
  split
  · rfl
  · rw [SlotEntry.retest_attr]

theorem retestedEvent_owner (k : Slot) : ((retestedEvent c f s).slot k).ownPath = (s.slot k).ownPath ∨
    ((retestedEvent c f s).slot k).ownPath = none := by
  rw [retestedEvent_slot]
  split
  · exact .inl rfl
  · exact SlotEntry.retest_owner _ _ _

theorem retestedEvent_acts : Acts (s.rewritePeers f) (retestedEvent c f s) :=
  (Acts.retestChanged s _ c).trans (.pinnedUpdate _)

theorem retestedEvent_act : ActFrame s (retestedEvent c f s) := by
  have h : ActFrame s (s.rewritePeers f) := slots_act s _
  exact h.trans (retestedEvent_acts c f s).frame

theorem retestedEvent_sources : (retestedEvent c f s).sources = s.sources := by
  unfold retestedEvent
  rw [pinnedUpdate_sources, retestChanged_eq]
  refine forSlots_keeps (P := fun u => u.sources = s.sources) (fun k u hu => ?_) (rewritePeers_sources f s)
  unfold retestTurn
  split
  · exact hu
  · unfold retestSlot
    split
    · exact hu
    · split
      · rw [loseToPeer_sources]; exact hu
      · exact hu
    · exact hu

/-- A path that holds no withdrawn slot is as it was. -/
theorem retestedEvent_path {i : PathIx} (h : ∀ k, (s.slot k).ownPath = some i → f k (s.slot k).peers ≠ (s.slot k).peers →
      ({ s.slot k with peers := f k (s.slot k).peers } : SlotEntry).withdrawn s.params.stationId = false) :
    (retestedEvent c f s).path i = s.path i ∧ (retestedEvent c f s).wait i = s.wait i := by
  unfold retestedEvent
  have hkeep := retestChanged_path c (s := s) (t := s.rewritePeers f) (i := i) fun k ho hne => by
    rw [rewritePeers_slot] at ho hne ⊢
    rw [rewritePeers_params]
    exact h k ho hne
  rw [pinnedUpdate_path, pinnedUpdate_wait, hkeep.1, hkeep.2, rewritePeers_path, rewritePeers_wait]
  exact ⟨rfl, rfl⟩

/-- A path without a slot is left alone. -/
theorem retestedEvent_path_of_holdsNone {i : PathIx} (h : holdsSlot s i = false) :
    (retestedEvent c f s).path i = s.path i ∧ (retestedEvent c f s).wait i = s.wait i :=
  retestedEvent_path c f s fun k ho => absurd ho ((holdsSlot_eq_false_iff s i).mp h k)

theorem retestedEvent_holdsNone {i : PathIx} (h : holdsSlot s i = false) : holdsSlot (retestedEvent c f s) i = false := by
  rw [holdsSlot_eq_false_iff] at h ⊢
  intro k hk
  obtain ho | ho := retestedEvent_owner c f s k
  · exact h k (ho ▸ hk)
  · rw [ho] at hk; cases hk

theorem retestedEvent_rxSlot (i : PathIx) : ((retestedEvent c f s).path i).rxSlot = (s.path i).rxSlot := by
  have hlose (t : State) (k : Slot) (e : PathEvent) : ((loseToPeer c k e t).path i).rxSlot = (t.path i).rxSlot := by
    cases howner : (t.slot k).ownPath with
    | none => simp [loseToPeer, howner]
    | some j =>
      rcases eq_or_ne i j with rfl | hne
      · rw [loseToPeer_path_self howner, slotLost_path_self]
      · rw [loseToPeer_path_ne howner _ _ hne]
  unfold retestedEvent
  rw [pinnedUpdate_path, retestChanged_eq]
  refine forSlots_keeps (P := fun u => (u.path i).rxSlot = (s.path i).rxSlot) (fun k u hu => ?_)
    (by rw [rewritePeers_path])
  unfold retestTurn
  split
  · exact hu
  · unfold retestSlot
    split
    · exact hu
    · split
      · exact (hlose u k _).trans hu
      · exact hu
    · exact hu

/-- Own HELD claims stand through the event (R92). -/
theorem retestedEvent_held {k : Slot} (h : (s.slot k).own = .held) :
    ((retestedEvent c f s).slot k).own = .held ∧
    ((retestedEvent c f s).slot k).ownPath = (s.slot k).ownPath ∧
    ((retestedEvent c f s).slot k).ownPinned = (s.slot k).ownPinned := by
  rw [retestedEvent_slot]
  split
  · exact ⟨h, rfl, rfl⟩
  · rw [SlotEntry.retest_held (by exact h)]
    exact ⟨h, rfl, rfl⟩

end

/-- What is served after an act leaves the slots that are taken (R95). -/
theorem Served.slot_of_own {s t : State} (h : Served s t) {k : Slot} (hk : (s.slot k).own ≠ .none) : t.slot k = s.slot k := by
  obtain he | ⟨i, hi⟩ := h.slot k
  · exact he
  · exact absurd hi.free hk

/-- The requests behind an event on the peer lists (R121). -/
theorem peerEvent_waitersAsk (c : Nat) (f : Slot → List Peer → List Peer) (s : State) :
    WaitersAsk s (serveMarks (peerEvent c f s)) := by
  rw [peerEvent_settled]
  refine waitersAsk_settleNotices (retestedEvent_act c f s).permitted_eq fun i ⟨hw, hh, _⟩ => ?_
  rw [(retestedEvent_path_of_holdsNone c f s hh).1]
  exact ⟨hw, retestedEvent_holdsNone c f s hh⟩

theorem peerEvent_heldStand (c : Nat) (f : Slot → List Peer → List Peer) (s : State) :
    HeldClaimsStand s (serveMarks (peerEvent c f s)) := by
  intro k hk
  rw [peerEvent_settled]
  have hheld := retestedEvent_held c f s hk
  rw [(settleNotices_served s _).slot_of_own (by rw [hheld.1]; decide)]
  exact hheld

theorem peerEvent_peers (c : Nat) (f : Slot → List Peer → List Peer) (s : State) (k : Slot) :
    ((serveMarks (peerEvent c f s)).slot k).peers = f k (s.slot k).peers := by
  rw [peerEvent_settled, (settleNotices_served s _).acts.peers_eq, retestedEvent_peers]

theorem peerEvent_sources (c : Nat) (f : Slot → List Peer → List Peer) (s : State) :
    (serveMarks (peerEvent c f s)).sources = s.sources := by
  rw [peerEvent_settled, (settleNotices_served s _).sources, retestedEvent_sources]

/-- A slot that has become eligible: while a path that waited waits on, no slot is left eligible. -/
theorem settleNotices_asked {s u : State} {k : Slot} (hp : u.claimingPermitted = true) (hs : eligible s k = false)
    (hu : eligible u k = true) {i : PathIx} (hi : WaitsOn u (settleNotices s u) i) :
    anyEligible (settleNotices s u) = false := by
  have hn : newlyEligible s u = true := by
    rw [← Bool.not_eq_false, newlyEligible_eq_false_iff]
    intro h
    rw [h k hu] at hs
    cases hs
  obtain ⟨hw, hh, hon⟩ := hi
  have hnotice : noticeFreed s u = noticeWaiting u := by simp [noticeFreed, hp, hn]
  unfold settleNotices at hon ⊢
  rw [hnotice] at hon ⊢
  refine anyEligible_of_serveMarks (i := i) ?_ ?_ ?_ hon
  · rw [(noticeWaiting_act u).permitted_eq, hp]
  · rw [noticeWaiting_wait, if_pos hw]
  · rw [holdsSlot_eq_false_iff] at hh ⊢
    intro k
    rw [noticeWaiting_slot]
    exact hh k

end Sys2Proof.Machine

namespace Sys2Proof

open Machine

/-- Settles O39: an event that filters every peer list by its expiry. -/
theorem peerClaimExpiryRemoves : Obligations.PeerClaimExpiryRemoves := by
  intro s
  rw [answers_iff, effect, peerClaimExpiry]
  refine ⟨fun k => peerEvent_peers _ _ s k, peerEvent_heldStand _ _ s, fun k hown hne hall => ?_,
    fun k hp hpeers hgone hown hattr hguard i hi => ?_, peerEvent_waitersAsk _ _ s,
    (peerEvent_act s _ _).trans (serveMarks_act _), peerEvent_sources _ _ s⟩
  · rw [peerEvent_peers] at hne hall
    rw [peerEvent_settled, (settleNotices_served s _).slot_of_own (by rw [(retestedEvent_held _ _ s hown).1]; decide),
      retestedEvent_slot, if_neg (by simpa using hne), SlotEntry.retest_held (by exact hown)]
    refine if_neg fun hin => ?_
    obtain ⟨-, -, p, hp, hc⟩ := (SlotEntry.inCollision_iff _).mp hin
    obtain ⟨hintent, hpin⟩ := hall p hp
    rcases hc with h | h
    · rw [hintent] at h; cases h
    · rw [hpin] at h; cases h
  · rw [peerEvent_peers] at hgone
    rw [peerEvent_settled] at hi ⊢
    obtain ⟨hw, hh, hon⟩ := hi
    refine settleNotices_asked (k := k) (i := i) ?_ ?_ ?_
      ⟨by rw [(retestedEvent_path_of_holdsNone _ _ s hh).1]; exact hw, retestedEvent_holdsNone _ _ s hh, hon⟩
    · rw [(retestedEvent_act _ _ s).permitted_eq, hp]
    · rw [Bool.eq_false_iff, Ne, eligible_iff]
      exact fun ⟨_, _, he, _⟩ => hpeers he
    · rw [eligible_iff, retestedEvent_attr, retestedEvent_peers,
        guarded_congr (retestedEvent_rxSlot _ _ s) (retestedEvent_act _ _ s).params_eq]
      refine ⟨by simpa [mayTransmit] using hattr, ?_, hgone, hguard⟩
      rw [retestedEvent_slot]
      split
      · exact hown
      · rw [SlotEntry.retest_none (by exact hown)]
        exact hown

end Sys2Proof
end
section
/-! PROOFS. An act on one path with the requests behind it: failed acquisitions, lost sources and holdover expiries
(O42 to O44). -/

namespace Sys2Proof.Machine

open Sys2Proof

/-! ### Tuning entries of a path that does not wait -/

theorem mem_tuneInto_of_ne {i : PathIx} {d : Side} {k : Slot} {q : List TuneEntry} {e : TuneEntry} (h : e.path ≠ i ∨ e.side ≠ d) :
    e ∈ tuneInto i d k q ↔ e ∈ q := by
  have hfor : e.isFor i d = false := by
    rw [← Bool.not_eq_true, TuneEntry.isFor_iff, not_and_or]
    exact h
  unfold tuneInto
  split
  · constructor
    · intro he
      obtain ⟨x, hx, hxe⟩ := List.mem_map.mp he
      cases hxf : x.isFor i d
      · rw [if_neg (by simp [hxf])] at hxe
        exact hxe ▸ hx
      · rw [if_pos hxf] at hxe
        have hmoved : (TuneEntry.isFor i d { x with slot := k }) = true := hxf
        rw [hxe, hfor] at hmoved
        cases hmoved
    · intro he
      exact List.mem_map.mpr ⟨e, he, by rw [if_neg (by simp [hfor])]⟩
  · split
    · rw [List.mem_append, List.mem_singleton]
      refine or_iff_left ?_
      rintro rfl
      rcases h with h | h <;> exact h rfl
    · exact Iff.rfl

theorem mem_filter_isNamed {i : PathIx} {d : Side} {q : List TuneEntry} {e : TuneEntry} :
    e ∈ q.filter (fun e => !e.isNamed i (some d)) ↔ e ∈ q ∧ ¬(e.path = i ∧ e.side = d) := by
  simp only [List.mem_filter, TuneEntry.isNamed, Bool.not_eq_true', ← Bool.not_eq_true, TuneEntry.isFor_iff]

theorem takePinned_tuning (s : State) (i : PathIx) (k : Slot) : (takePinned i k s).tuning =
    tuneInto i .transmit k (if (s.path i).cancelOwed = 0 then s.tuning
      else s.tuning.filter (fun e => !e.isNamed i (some .transmit))) := by
  simp [takePinned, takeOutput_tuning]
  rfl

/-- A request of path i touches its own transmit entries alone. -/
theorem mem_tuning_chooseAndClaim {s : State} {i : PathIx} {e : TuneEntry} (h : e.path ≠ i ∨ e.side ≠ .transmit) :
    e ∈ (chooseAndClaim i s).tuning ↔ e ∈ s.tuning := by
  have hout (k : Slot) : e ∈ tuneInto i .transmit k (if (s.path i).cancelOwed = 0 then s.tuning
      else s.tuning.filter (fun e => !e.isNamed i (some .transmit))) ↔ e ∈ s.tuning := by
    rw [mem_tuneInto_of_ne h]
    split
    · exact Iff.rfl
    · rw [mem_filter_isNamed]
      exact and_iff_left fun ⟨hp, hd⟩ => by rcases h with h | h <;> contradiction
  obtain hc | ⟨-, -, -, -, hc⟩ | ⟨-, -, k, -, hc⟩ := chooseAndClaim_cases s i <;> rw [hc]
  · exact Iff.rfl
  · rw [takePinned_tuning, hout]
  · rw [takeIntent_tuning, hout]

/-- The requests of marked paths leave every receive entry, and the entries of a path that does not wait. -/
theorem mem_tuning_serveMarks {s : State} {e : TuneEntry} (h : (s.path e.path).state ≠ .waitSlot ∨ e.side ≠ .transmit) :
    e ∈ (serveMarks s).tuning ↔ e ∈ s.tuning := by
  refine (forPaths_keeps (P := fun u => ((s.path e.path).state ≠ .waitSlot → u.path e.path = s.path e.path) ∧
    (e ∈ u.tuning ↔ e ∈ s.tuning)) (fun j u ⟨hp, hu⟩ => ?_) ⟨fun _ => rfl, Iff.rfl⟩).2
  split
  · rename_i hmark
    have hw : (u.path j).state = .waitSlot := by simpa using (Bool.and_eq_true_iff.mp hmark).2
    have hserved := chooseAndClaim_served hw
    refine ⟨fun hne => ?_, ?_⟩
    · rw [← hp hne]
      obtain he | ⟨k, hk⟩ := hserved.path e.path
      · exact he
      · exact absurd hk.waited (by rw [hp hne]; exact hne)
    · refine (mem_tuning_chooseAndClaim ?_).trans hu
      rcases h with hne | hside
      · exact .inl fun he => hne (by rw [← hp hne, he]; exact hw)
      · exact .inr hside
  · exact ⟨hp, hu⟩

theorem mem_tuning_settleNotices {s u : State} {e : TuneEntry}
    (h : (u.path e.path).state ≠ .waitSlot ∨ e.side ≠ .transmit) : e ∈ (settleNotices s u).tuning ↔ e ∈ u.tuning := by
  unfold settleNotices
  rw [mem_tuning_serveMarks (by rw [noticeFreed_path]; exact h), noticeFreed_tuning]

/-! ### An act on one path -/

/-- u is s after an act on path i, which leaves the other paths, and of the slots clears at most the path's own. -/
structure ActOn (i : PathIx) (s u : State) : Prop where
  acts : Acts s u
  others : ∀ j, j ≠ i → u.path j = s.path j
  slot : ∀ k, u.slot k = s.slot k ∨ ((s.slot k).ownPath = some i ∧ u.slot k = (s.slot k).cleared)

namespace ActOn

variable {i : PathIx} {s u : State}

theorem owner (h : ActOn i s u) {k : Slot} {j : PathIx} (hk : (u.slot k).ownPath = some j) : (s.slot k).ownPath = some j := by
  obtain he | ⟨-, he⟩ := h.slot k
  · rwa [he] at hk
  · rw [he] at hk; cases hk

theorem peers (h : ActOn i s u) (k : Slot) : (u.slot k).peers = (s.slot k).peers := h.acts.peers_eq k

/-- The state after the requests behind the act, when the act has not left the path waiting. -/
theorem settled_path (hw : (u.path i).state ≠ .waitSlot) : (settleNotices s u).path i = u.path i := by
  obtain he | ⟨k, hk⟩ := (settleNotices_served s u).path i
  · exact he
  · exact absurd hk.waited hw

theorem settled_others (h : ActOn i s u) : OthersStand i s (settleNotices s u) := by
  have hserved := settleNotices_served s u
  refine ⟨fun j hj hst => ?_, fun k => (hserved.acts.peers_eq k).trans (h.peers k), fun k hown howner => ?_⟩
  · obtain he | ⟨k, hk⟩ := hserved.path j
    · rw [he, h.others j hj]
    · exact absurd hk.waited (by rw [h.others j hj]; exact hst)
  · have hk : u.slot k = s.slot k := (h.slot k).resolve_right fun ⟨ho, _⟩ => howner ho
    rw [hserved.slot_of_own (by rw [hk, hown]; decide), hk]

theorem settled_asks (h : ActOn i s u) (hw : (u.path i).state ≠ .waitSlot) : WaitersAsk s (settleNotices s u) := by
  refine waitersAsk_settleNotices h.acts.frame.permitted_eq fun j ⟨hst, hh, hon⟩ => ?_
  have hj : j ≠ i := by
    rintro rfl
    rw [settled_path hw] at hon
    exact hw hon
  refine ⟨by rw [h.others j hj]; exact hst, ?_⟩
  rw [holdsSlot_eq_false_iff] at hh ⊢
  exact fun k hk => hh k (h.owner hk)

theorem settled_frame (h : ActOn i s u) : ActFrame s (settleNotices s u) :=
  h.acts.frame.trans (settleNotices_served s u).acts.frame

theorem settled_sources : (settleNotices s u).sources = u.sources := (settleNotices_served s u).sources

theorem settled_owner (hw : (u.path i).state ≠ .waitSlot) {k : Slot} (hk : (u.slot k).ownPath ≠ some i) :
    ((settleNotices s u).slot k).ownPath ≠ some i := by
  obtain he | ⟨j, hj⟩ := (settleNotices_served s u).slot k
  · rwa [he]
  · have hne : j ≠ i := by rintro rfl; exact hw hj.waited
    obtain ⟨-, hs, -⟩ | ⟨-, -, -, hs, -⟩ := hj.taken <;> rw [hs]
    · exact fun he => hne (Option.some.inj he)
    · exact fun he => hne (Option.some.inj he)

/-- No entry of a side stands in the queue when the act has removed them and the path does not wait. -/
theorem settled_no_entry {d : Side} (hw : (u.path i).state ≠ .waitSlot ∨ d ≠ .transmit)
    (hu : ∀ e ∈ u.tuning, ¬(e.path = i ∧ e.side = d)) (e : TuneEntry) (he : e ∈ (settleNotices s u).tuning) :
    ¬(e.path = i ∧ e.side = d) := by
  rintro ⟨rfl, rfl⟩
  rw [mem_tuning_settleNotices hw] at he
  exact hu e he ⟨rfl, rfl⟩

end ActOn

theorem actOn_failAct {s : State} (i : PathIx) : ActOn i s (failAct i s) where
  acts := Acts.failAct s i
  others _ hj := failAct_path_ne s hj
  slot k := .inl (failAct_slot s i k)

theorem actOn_loseSource {s : State} (i : PathIx) : ActOn i s (loseSource i s) where
  acts := Acts.loseSource s i
  others _ hj := loseSource_path_ne s hj
  slot k := by
    rw [loseSource_slot]
    split
    · rename_i h; exact .inr ⟨h.2, rfl⟩
    · exact .inl rfl

theorem actOn_expireHoldover {s : State} (i : PathIx) : ActOn i s (expireHoldover i s) where
  acts := Acts.expireHoldover s i
  others _ hj := expireHoldover_path_ne s hj
  slot k := by
    rw [expireHoldover_slot]
    split
    · rename_i h; exact .inr ⟨h, rfl⟩
    · exact .inl rfl

theorem actOn_selectAct {s : State} (i : PathIx) (e : Source) (st : PathState) : ActOn i s (selectAct i e st s) where
  acts := Acts.selectAct s i e st
  others _ hj := selectAct_path_ne s e st hj
  slot k := .inl (selectAct_slot s i e st k)

theorem failAct_keepsWait {s : State} {i : PathIx} (ha : acquiring (s.path i).state = true) :
    ((failAct i s).path i).state ≠ .waitSlot := by
  rw [failAct_path_self ha]
  unfold failedState
  split <;> exact fun h => by cases h

theorem loseSource_keepsWait {s : State} {i : PathIx} (hw : watching (s.path i).state = true) :
    ((loseSource i s).path i).state ≠ .waitSlot := by
  rw [loseSource_path_self hw]
  unfold lostState
  split <;> exact fun h => by cases h

theorem expireHoldover_keepsWait {s : State} {i : PathIx} (hst : (s.path i).state ≠ .on) :
    ((expireHoldover i s).path i).state ≠ .waitSlot := by
  rw [expireHoldover_path_self hst]
  unfold expiredState
  split <;> exact fun h => by cases h

/-- A lost source takes the receive entries of its path out of the queue (R115). -/
theorem loseSource_no_receive {s : State} {i : PathIx} (hw : watching (s.path i).state = true) :
    ∀ e ∈ (loseSource i s).tuning, ¬(e.path = i ∧ e.side = .receive) := by
  have hclear : ∀ e ∈ (recordEvent i .sourceLost (clearSource i s)).tuning, ¬(e.path = i ∧ e.side = .receive) :=
    fun e he => (mem_filter_isNamed.mp he).2
  intro e he
  refine hclear e ?_
  unfold loseSource at he
  dsimp only at he
  split at he
  · rwa [movePath_tuning] at he
  · rw [movePath_tuning, dropOutput_tuning, releaseClaim_tuning] at he
    exact (mem_filter_isNamed.mp he).1
  · rwa [movePath_tuning, State.modPath_tuning] at he
  all_goals rename_i h; simp [h, watching] at hw

/-- The entries of a penalised source (R77). -/
theorem penaliseSelected_sources {s : State} {i : PathIx} {x : Selected} (h : (s.path i).selected = some x) :
    (penaliseSelected i s).sources = s.sources.map fun e => if e.slot = x.slot ∧ e.station = x.station then
      { e with barredUntil := some (laterS s.now s.params.sourcePenalty) } else e := by
  simp only [penaliseSelected, h, penalise, modSource]
  exact List.map_congr_left fun e _ => by simp only [hasKey_iff]

theorem acquiring_of {st : PathState} (h : st = .acquiring ∨ st = .switching) : acquiring st = true := by
  rcases h with rfl | rfl <;> rfl

theorem watching_of {st : PathState} (h : st = .waitSlot ∨ st = .claiming ∨ st = .on) : watching st = true := by
  rcases h with rfl | rfl | rfl <;> rfl

theorem not_acquiring_of_watching {st : PathState} (h : watching st = true) : acquiring st = false := by
  cases st <;> first | rfl | cases h

theorem sourceLost_watching {s : State} {i : PathIx} (hsel : (s.path i).selected ≠ none)
    (hw : watching (s.path i).state = true) : sourceLost i s = settleNotices s (loseSource i s) := by
  unfold sourceLost
  rw [if_neg (by simpa using hsel), if_neg (by simp [not_acquiring_of_watching hw]), if_pos hw]
  rfl

theorem holdoverExpired_due {s : State} {i : PathIx} {d : Time}
    (hst : (s.path i).state = .holdover ∨ (s.path i).state = .switching) (hd : (s.path i).holdoverDeadline = some d)
    (hreached : reached s.now d = true) : holdoverExpired i s = settleNotices s (expireHoldover i s) := by
  unfold holdoverExpired
  rw [if_pos (by rw [hd, dueAt_some, hreached]; rcases hst with h | h <;> rw [h] <;> rfl)]
  rfl

/-- The slot that an expired holdover gives up, when its peers, its mark of the band plan and the guard allow it (R94). -/
theorem eligible_expireHoldover {s : State} {i : PathIx} {k : Slot} (hst : (s.path i).state ≠ .on)
    (howner : (s.slot k).ownPath = some i) (hpeers : (s.slot k).peers = [])
    (hattr : mayTransmit (s.slot k).attr = true) (hguard : guarded s k = false) :
    eligible (expireHoldover i s) k = true := by
  have hrx (j : PathIx) : ((expireHoldover i s).path j).rxSlot = (s.path j).rxSlot := by
    rcases eq_or_ne j i with rfl | hne
    · rw [expireHoldover_path_self hst]
    · rw [expireHoldover_path_ne s hne]
  rw [eligible_iff, expireHoldover_slot, if_pos howner, guarded_congr hrx (Acts.expireHoldover s i).frame.params_eq]
  exact ⟨hattr, rfl, hpeers, hguard⟩

end Sys2Proof.Machine

namespace Sys2Proof

open Machine

/-- Settles O42: both commands fail the acquisition, an act on the path alone with the requests behind it. -/
theorem acquisitionFails : Obligations.AcquisitionFails := by
  refine ⟨fun i c s hst hc => ?_, fun i s h1 h2 => ?_⟩
  · have ha := acquiring_of hst
    have heff : effect c s = settleNotices s (failAct i s) := by
      obtain ⟨rfl, d, hd, hreached⟩ | ⟨rfl, hcheck⟩ := hc
      · rw [effect, acquireTimeout, ha, hd, dueAt_some, hreached, if_pos (by rfl), acquireFail_eq]
      · rw [effect, carrierCheckFail, ha, hcheck, if_pos (by rfl), acquireFail_eq]
    have hwait := failAct_keepsWait ha
    have hon := actOn_failAct (s := s) i
    have hpath := ActOn.settled_path (s := s) hwait
    rw [answers_iff, heff]
    refine ⟨?_, ?_, fun x hx => ?_, ActOn.settled_no_entry (.inl hwait) fun e he => ?_, hon.settled_others,
      hon.settled_asks hwait, hon.settled_frame⟩
    · rw [hpath, failAct_path_self ha, PathRec.sourceCleared, failedState, failedHoldover]
    · rw [hpath, failAct_path_self ha]
      exact condOf_congr rfl rfl rfl
    · rw [ActOn.settled_sources, failAct_sources, penaliseSelected_sources hx]
    · rw [failAct_tuning] at he
      exact (mem_filter_isNamed.mp he).2
  · have ha : acquiring (s.path i).state = false := by
      cases h : (s.path i).state <;> first | rfl | contradiction
    rw [exec_eq, exec_eq, effect, effect, acquireTimeout, carrierCheckFail, ha]
    exact ⟨rfl, rfl⟩

/-- Settles O43: both commands lose the source, an act on the path alone with the requests behind it. -/
theorem sourceLossMovesPath : Obligations.SourceLossMovesPath := by
  refine ⟨fun i c s hsel hst hc => ?_, fun i s h => ?_, fun i s h => ?_⟩
  · have hw := watching_of hst
    have heff : effect c s = settleNotices s (loseSource i s) := by
      rw [← sourceLost_watching hsel hw]
      obtain ⟨rfl, hlow⟩ | ⟨rfl, u, hu, hage⟩ := hc
      · rw [effect, lowCarrierLoss, hw, hlow, if_pos (by rfl)]
      · rw [effect, tagLoss, hw, hu, tagSilent, if_pos (by simpa using hage)]
    have hwait := loseSource_keepsWait hw
    have hon := actOn_loseSource (s := s) i
    have hpath := ActOn.settled_path (s := s) hwait
    rw [answers_iff, heff]
    refine ⟨?_, ?_, fun hclaim k => ActOn.settled_owner hwait ?_,
      ActOn.settled_no_entry (.inl hwait) (loseSource_no_receive hw), ?_, hon.settled_others, hon.settled_asks hwait,
      hon.settled_frame⟩
    · rw [hpath, loseSource_path_self hw, PathRec.lost, PathRec.sourceCleared, lostState]
    · rw [hpath, loseSource_path_self hw]
      exact condOf_congr rfl rfl rfl
    · rw [loseSource_slot]
      split
      · exact fun h => by cases h
      · rename_i h
        exact fun ho => h ⟨hclaim, ho⟩
    · rw [ActOn.settled_sources, loseSource_sources]
  · rw [exec_eq, effect, lowCarrierLoss, if_neg (by simp [Nat.not_le.mpr h])]
  · rw [exec_eq, effect, tagLoss, h, tagSilent, Bool.and_false, if_neg (by decide)]

/-- Settles O44: the expiry clears the path's slot, and the notice behind it lets the waiting paths ask. -/
theorem holdoverExpiryGivesUpSlot : Obligations.HoldoverExpiryGivesUpSlot := by
  refine ⟨fun i d s hst hd hreached => ?_, fun i s h => ?_⟩
  · have hne : (s.path i).state ≠ .on := by rcases hst with h | h <;> rw [h] <;> decide
    have hwait := expireHoldover_keepsWait hne
    have hon := actOn_expireHoldover (s := s) i
    have hpath := ActOn.settled_path (s := s) hwait
    rw [answers_iff, effect, holdoverExpired_due hst hd hreached]
    refine ⟨?_, fun k => ActOn.settled_owner hwait ?_, ActOn.settled_no_entry (.inl hwait) fun e he => ?_,
      fun k hp hown howner hpeers hattr hguard j ⟨hw, hh, hon'⟩ => ?_, ?_, hon.settled_others, hon.settled_asks hwait,
      hon.settled_frame⟩
    · rw [hpath, expireHoldover_path_self hne, condOf_silent (by unfold expiredState; split <;> simp), expiredState]
    · rw [expireHoldover_slot]
      split
      · exact fun h => by cases h
      · assumption
    · rw [expireHoldover_tuning] at he
      exact (mem_filter_isNamed.mp he).2
    · have hj : j ≠ i := by
        rintro rfl
        rcases hst with h | h <;> rw [h] at hw <;> cases hw
      refine settleNotices_asked (k := k) (i := j) (hon.acts.frame.permitted_eq.trans hp) ?_
        (eligible_expireHoldover hne howner hpeers (by simpa [mayTransmit] using hattr) hguard)
        ⟨by rw [hon.others j hj]; exact hw, ?_, hon'⟩
      · rw [Bool.eq_false_iff, Ne, eligible_iff]
        exact fun ⟨_, ho, _⟩ => hown ho
      · rw [holdsSlot_eq_false_iff] at hh ⊢
        exact fun m hm => hh m (hon.owner hm)
    · rw [ActOn.settled_sources, expireHoldover_sources]
  · rw [exec_eq, effect, holdoverExpired, h, dueAt_none]
    split
    · rename_i hc
      simp at hc
    · rfl

end Sys2Proof
end
section
/-! PROOFS. The evaluation of a path: selection, switch decision, survey request and tuning upkeep (O41). -/

namespace Sys2Proof.Machine

open Sys2Proof

variable {s t : State} {i : PathIx}

/-! ### Tuning upkeep (R115) -/

theorem upkeepSide_eq (i : PathIx) (d : Side) (wanted : Bool) (slot : Option Slot) (s : State) :
    upkeepSide i d wanted slot s = { s with tuning := (upkeepSide i d wanted slot s).tuning } := by
  unfold upkeepSide
  split
  · rfl
  · split <;> rfl

theorem sideUpkeep (i : PathIx) (d : Side) (wanted : Bool) (slot : Option Slot) (s : State) :
    SideUpkeep i d wanted slot s.tuning (upkeepSide i d wanted slot s).tuning := by
  have hqueued : tuneQueued i d s = true ↔ ∃ e ∈ s.tuning, e.path = i ∧ e.side = d := by
    simp [tuneQueued, TuneEntry.isFor_iff]
  refine ⟨fun k hk hw hnone => ?_, fun h => ?_⟩
  · have hq : tuneQueued i d s = false := by
      rw [Bool.eq_false_iff, Ne, hqueued]
      exact fun ⟨e, he, hed⟩ => hnone e he hed
    simp only [upkeepSide, hk, hw, hq, Bool.not_false, Bool.and_self, if_true, tuneRequest_tuning]
    exact requested_tuneInto i d k _
  · unfold upkeepSide
    split
    · rfl
    · rw [if_neg]
      rintro hc
      obtain ⟨hw, hq⟩ := Bool.and_eq_true_iff.mp hc
      obtain h | h | h := h
      · cases h
      · rw [hw] at h; cases h
      · rw [hqueued.mpr h] at hq; cases hq

theorem tuningUpkeep_eq (i : PathIx) (s : State) : tuningUpkeep i s = { s with tuning := (tuningUpkeep i s).tuning } := by
  unfold tuningUpkeep
  rw [upkeepSide_eq]
  generalize (upkeepSide i .transmit _ _ _).tuning = q
  rw [upkeepSide_eq i .receive]

theorem upkeep_tuningUpkeep (i : PathIx) (s : State) : Upkeep i (s.path i) s.tuning (tuningUpkeep i s).tuning := by
  refine ⟨(upkeepSide i .receive (s.path i).rxPending (s.path i).rxSlot s).tuning, sideUpkeep i .receive _ _ s, ?_⟩
  have hpath : (upkeepSide i .receive (s.path i).rxPending (s.path i).rxSlot s).path i = s.path i := by
    rw [upkeepSide_eq]; rfl
  have hsides := sideUpkeep i .transmit (s.path i).txPending (s.path i).output
    (upkeepSide i .receive (s.path i).rxPending (s.path i).rxSlot s)
  unfold tuningUpkeep
  dsimp only
  rw [hpath]
  exact hsides

theorem tuningUpkeep_of_side {P : State → Prop} (h : ∀ d wanted slot u, P u → P (upkeepSide i d wanted slot u)) (hs : P s) :
    P (tuningUpkeep i s) :=
  h _ _ _ _ (h _ _ _ _ hs)

@[simp] theorem tuningUpkeep_path (i : PathIx) (s : State) (j : PathIx) : (tuningUpkeep i s).path j = s.path j :=
  tuningUpkeep_of_side (P := fun u => u.path j = s.path j) (fun d w k u hu => by rw [upkeepSide_eq]; exact hu) rfl
@[simp] theorem tuningUpkeep_slot (i : PathIx) (s : State) (k : Slot) : (tuningUpkeep i s).slot k = s.slot k :=
  tuningUpkeep_of_side (P := fun u => u.slot k = s.slot k) (fun d w k u hu => by rw [upkeepSide_eq]; exact hu) rfl
@[simp] theorem tuningUpkeep_survey (i : PathIx) (s : State) : (tuningUpkeep i s).survey = s.survey := by rw [tuningUpkeep_eq]
@[simp] theorem tuningUpkeep_sources (i : PathIx) (s : State) : (tuningUpkeep i s).sources = s.sources := by
  rw [tuningUpkeep_eq]
@[simp] theorem tuningUpkeep_slots (i : PathIx) (s : State) : (tuningUpkeep i s).slots = s.slots := by rw [tuningUpkeep_eq]
@[simp] theorem tuningUpkeep_waits (i : PathIx) (s : State) : (tuningUpkeep i s).waits = s.waits := by rw [tuningUpkeep_eq]

@[simp] theorem eligible_tuningUpkeep (i : PathIx) (s : State) (k : Slot) : eligible (tuningUpkeep i s) k = eligible s k := by
  have hguard := guarded_congr (t := tuningUpkeep i s) (s := s) (fun j => by rw [tuningUpkeep_path])
    (tuningUpkeep_act i s).params_eq k
  unfold eligible
  rw [tuningUpkeep_slot, hguard]

/-- An entry of the queue stands through the upkeep of its path. -/
theorem mem_tuningUpkeep {e : TuneEntry} (h : e ∈ s.tuning) (he : e.path = i) : e ∈ (tuningUpkeep i s).tuning := by
  have hside {d : Side} {wanted : Bool} {slot : Option Slot} {u : State} (hu : e ∈ u.tuning) :
      e ∈ (upkeepSide i d wanted slot u).tuning := by
    unfold upkeepSide
    split
    · exact hu
    · split
      · rename_i hc
        rw [tuneRequest_tuning, mem_tuneInto_of_ne (.inr fun hd => ?_)]
        · exact hu
        · have hq : tuneQueued i d u = true := List.any_eq_true.mpr ⟨e, hu, TuneEntry.isFor_iff.mpr ⟨he, hd⟩⟩
          rw [hq] at hc
          simp at hc
      · exact hu
  exact hside (hside h)

theorem mem_tuneInto_self {d : Side} {k : Slot} {q : List TuneEntry} (h : q.length < 4) : (⟨i, d, k⟩ : TuneEntry) ∈ tuneInto i d k q := by
  unfold tuneInto
  split
  · rename_i hany
    obtain ⟨e, he, hfor⟩ := List.any_eq_true.mp hany
    obtain ⟨hp, hd⟩ := TuneEntry.isFor_iff.mp hfor
    refine List.mem_map.mpr ⟨e, he, ?_⟩
    rw [if_pos hfor, ← hp, ← hd]
  · rw [if_pos (by simpa [tuningCapacity] using h)]
    simp

/-! ### The survey request of a stale slot (R85) -/

theorem inDwell_eq_false_iff (s : State) (k : Slot) : inDwell s k = false ↔ ∀ d, s.survey.dwell = some d → d.slot ≠ k := by
  unfold inDwell
  cases s.survey.dwell <;> simp

theorem surveyRequest_eq (k : Slot) (s : State) : surveyRequest k s = { s with survey := { s.survey with requests :=
    if (s.station = .listen ∨ s.station = .running) ∧ ((s.slot k).attr = .watch ∨ (s.slot k).attr = .both) ∧
      k ∉ s.survey.requests ∧ (∀ d, s.survey.dwell = some d → d.slot ≠ k) ∧ s.survey.requests.length < 8
    then s.survey.requests ++ [k] else s.survey.requests } } := by
  have hcond : (listening s.station && mayWatch (s.slot k).attr && !s.survey.requests.contains k && !inDwell s k &&
      decide (s.survey.requests.length < surveyCapacity)) = true ↔
      (s.station = .listen ∨ s.station = .running) ∧ ((s.slot k).attr = .watch ∨ (s.slot k).attr = .both) ∧
      k ∉ s.survey.requests ∧ (∀ d, s.survey.dwell = some d → d.slot ≠ k) ∧ s.survey.requests.length < 8 := by
    simp only [Bool.and_eq_true, listening_iff, mayWatch_iff, Bool.not_eq_true', inDwell_eq_false_iff, and_assoc,
      List.contains_eq_mem, decide_eq_false_iff_not, decide_eq_true_eq]
    rfl
  unfold surveyRequest
  by_cases h : (listening s.station && mayWatch (s.slot k).attr && !s.survey.requests.contains k && !inDwell s k &&
      decide (s.survey.requests.length < surveyCapacity)) = true
  · rw [if_pos h, if_pos (hcond.mp h)]
  · rw [if_neg h, if_neg (mt hcond.mpr h)]

theorem askSurvey_eq (i : PathIx) (s : State) : askSurvey i s = { s with survey := (askSurvey i s).survey } := by
  unfold askSurvey
  split
  · rfl
  · rw [surveyRequest_eq]

theorem staleAsked_askSurvey (i : PathIx) (s : State) : StaleAsked s (askSurvey i s) i := by
  unfold askSurvey
  refine ⟨fun h => by rw [h], fun k hk => ?_⟩
  rw [hk]
  dsimp only
  rw [surveyRequest_eq]
  exact ⟨rfl, rfl⟩

/-! ### Requests without a waiting path -/

theorem settleNotices_tuning_of_no_wait (h : ∀ j, (t.path j).state ≠ .waitSlot) : (settleNotices s t).tuning = t.tuning := by
  have hserve : serveMarks (noticeFreed s t) = noticeFreed s t :=
    forPaths_keeps (P := fun u => u = noticeFreed s t) (fun j u hu => by
      rw [hu, if_neg]
      rw [Bool.and_eq_true_iff, not_and, noticeFreed_path]
      exact fun _ => by simpa using h j) rfl
  rw [settleNotices, hserve, noticeFreed_tuning]

/-! ### A selection (R114) -/

/-- A selection by a path without a receive slot guards one slot more and frees none. -/
theorem newlyEligible_selectAct {e : Source} {st : PathState} (hrx : (s.path i).rxSlot = none) :
    newlyEligible s (selectAct i e st s) = false := by
  rw [newlyEligible_eq_false_iff]
  intro k hk
  rw [eligible_iff, selectAct_slot] at hk
  obtain ⟨hattr, hown, hpeers, hguard⟩ := hk
  refine (eligible_iff _ _).mpr ⟨hattr, hown, hpeers, ?_⟩
  simp only [guarded, List.any_eq_false] at hguard ⊢
  intro j hj
  rcases eq_or_ne j i with rfl | hne
  · simp [hrx]
  · have hthis := hguard j hj
    rwa [selectAct_path_ne _ _ _ hne, (Acts.selectAct s i e st).frame.params_eq] at hthis

theorem selectSource_alone {e : Source} {st : PathState} (hmarks : MarksServed s) (hrx : (s.path i).rxSlot = none) :
    selectSource i e st s = selectAct i e st s := by
  rw [selectSource_eq]
  exact settleNotices_of_none (newlyEligible_selectAct hrx) fun j => by rw [selectAct_wait]; exact hmarks j

theorem selectAct_slots (i : PathIx) (e : Source) (st : PathState) (s : State) :
    (selectAct i e st s).slots = s.slots ∧ (selectAct i e st s).waits = s.waits := by
  unfold selectAct
  rw [movePath_slots, movePath_waits]
  exact ⟨rfl, rfl⟩

/-! ### An evaluation that is due -/

theorem State.modPath_congr {f g : PathRec → PathRec} (h : f (s.path i) = g (s.path i)) : s.modPath i f = s.modPath i g := by
  unfold State.modPath upd
  exact congrArg (fun p => { s with paths := s.paths.set i.val p }) h

/-- s with another record of path i. -/
def State.setPath (i : PathIx) (p : PathRec) (s : State) : State := s.modPath i fun _ => p

theorem setPath_path_self (s : State) (i : PathIx) (p : PathRec) : (s.setPath i p).path i = p := State.path_modPath_self s i _

theorem setPath_path_ne (s : State) {i j : PathIx} (p : PathRec) (h : j ≠ i) : (s.setPath i p).path j = s.path j :=
  State.path_modPath_ne s i _ h

theorem setPath_modPath (s : State) (i : PathIx) (p : PathRec) (f : PathRec → PathRec) :
    (s.setPath i p).modPath i f = s.setPath i (f p) := by
  refine (State.modPath_congr (g := fun _ => f p) (by rw [setPath_path_self])).trans ?_
  unfold State.setPath State.modPath
  rw [upd_upd]

/-- The record of a path whose evaluation at d has been taken: the next is due 1,000 ms later (R112). -/
def PathRec.evalAgain (d : Time) (p : PathRec) : PathRec := { p with evalDeadline := some (later d 1000) }

theorem pathEvaluation_due {d : Time} (hst : s.station = .listen ∨ s.station = .running) (hd : (s.path i).evalDeadline = some d)
    (hreached : reached s.now d = true) (hidle : (s.path i).state ≠ .idle) :
    pathEvaluation i s = tuningUpkeep i (evaluateByState i (s.setPath i ((s.path i).evalAgain d))) := by
  have hagain : (s.modPath i fun p => { p with evalDeadline := p.evalDeadline.map fun d => later d 1000 }) =
      s.setPath i ((s.path i).evalAgain d) := by
    refine State.modPath_congr ?_
    rw [hd]
    rfl
  rw [pathEvaluation, if_pos (by simp [evaluationDue, listening_iff, hst, hidle, hd, dueAt_some, hreached]), ← hagain]

/-- s with another record of path i and another survey receiver. -/
def State.setAsked (i : PathIx) (p : PathRec) (w : Survey) (s : State) : State := { s.setPath i p with survey := w }

theorem setAsked_path_self (s : State) (i : PathIx) (p : PathRec) (w : Survey) : (s.setAsked i p w).path i = p :=
  setPath_path_self s i p
theorem setAsked_path_ne (s : State) {i j : PathIx} (p : PathRec) (w : Survey) (h : j ≠ i) :
    (s.setAsked i p w).path j = s.path j := setPath_path_ne s p h
theorem setAsked_tuning (s : State) (i : PathIx) (p : PathRec) (w : Survey) : (s.setAsked i p w).tuning = s.tuning := rfl
theorem setAsked_sources (s : State) (i : PathIx) (p : PathRec) (w : Survey) : (s.setAsked i p w).sources = s.sources := rfl
theorem setAsked_guarded {p : PathRec} {w : Survey} (hrx : p.rxSlot = (s.path i).rxSlot) (k : Slot) :
    guarded (s.setAsked i p w) k = guarded s k := by
  refine guarded_congr (s := s) (t := s.setAsked i p w) (fun m => ?_) rfl k
  rcases eq_or_ne m i with rfl | hne
  · rw [setAsked_path_self, hrx]
  · rw [setAsked_path_ne s p w hne]

/-- The survey request of path i in a state that differs from s in the path's record alone. -/
theorem askSurvey_setPath (s : State) (i : PathIx) (p : PathRec) : ∃ w : Survey,
    askSurvey i (s.setPath i p) = s.setAsked i p w ∧ (∀ t : State, t.survey = w → StaleAsked s t i) ∧
    w = { s.survey with requests := w.requests } := by
  have hask := staleAsked_askSurvey i (s.setPath i p)
  refine ⟨_, askSurvey_eq i (s.setPath i p), fun t ht => ?_, ?_⟩
  · unfold StaleAsked
    rw [ht]
    exact hask
  · cases hk : staleSlot (s.setPath i p) i with
    | none => rw [hask.1 hk]; rfl
    | some k => exact (hask.2 k hk).1

/-! ### The switch decision (R86) -/

/-- The count that a switch decision reaches for b. -/
abbrev switchReach (s : State) (i : PathIx) (b : Source) : Nat :=
  if (s.path i).candidate = some (b.slot, b.station) then (s.path i).candidateCount + 1 else 1

theorem nextCount_eq (s : State) (i : PathIx) (b : Source) : nextCount (s.path i) b = switchReach s i b := by
  simp [nextCount, switchReach]

/-- b is the best fresh entry, is not the selected one, and beats it by the margin. -/
abbrev Rival (s : State) (i : PathIx) (b : Source) : Prop :=
  bestFresh s i = some b ∧ ∃ sel, selectedEntry s i = some sel ∧ ¬(b.slot = sel.slot ∧ b.station = sel.station) ∧
    score s.params sel + s.params.switchMargin < score s.params b

theorem switchRival_iff (s : State) (i : PathIx) (b : Source) : switchRival s i = some b ↔ Rival s i b := by
  unfold switchRival Rival
  cases bestFresh s i with
  | none => simp
  | some c =>
    cases selectedEntry s i with
    | none => simp
    | some sel =>
      simp only [Option.some.injEq, exists_eq_left', beatsByMargin, decide_eq_true_eq]
      split
      · rename_i hkey
        rw [hasKey_iff] at hkey
        exact ⟨fun h => (by cases h), fun ⟨hb, hne, _⟩ => absurd (hb ▸ hkey) hne⟩
      · rename_i hkey
        rw [hasKey_iff] at hkey
        split
        · rename_i hm
          exact ⟨fun h => (by cases h; exact ⟨rfl, hkey, hm⟩), fun ⟨hb, _⟩ => congrArg some hb⟩
        · rename_i hm
          exact ⟨fun h => (by cases h), fun ⟨hb, _, hlt⟩ => absurd (hb ▸ hlt) hm⟩

theorem switchRival_eq_none_iff (s : State) (i : PathIx) : switchRival s i = none ↔ ∀ b, ¬Rival s i b := by
  rw [Option.eq_none_iff_forall_not_mem]
  exact forall_congr' fun b => not_congr (switchRival_iff s i b)

theorem switchAnswer_iff (s : State) (i : PathIx) (b : Source) :
    switchAnswer s i = some b ↔ Rival s i b ∧ s.params.switchCount ≤ switchReach s i b := by
  rw [← switchRival_iff, ← nextCount_eq]
  unfold switchAnswer
  cases switchRival s i with
  | none => simp
  | some c =>
    simp only [Option.some.injEq]
    split
    · rename_i h
      exact ⟨fun hb => (by cases hb; exact ⟨rfl, h⟩), fun ⟨hb, _⟩ => congrArg some hb⟩
    · rename_i h
      exact ⟨fun hb => (by cases hb), fun ⟨hb, hle⟩ => absurd (hb ▸ hle) h⟩

/-- A path's record without a candidate. -/
def PathRec.undecided (p : PathRec) : PathRec := { p with candidate := none, candidateCount := 0 }

/-- The hysteresis fields after a decision that answers with a switch. -/
theorem decideHysteresis_of_answer {b : Source} (h : switchAnswer s i = some b) :
    decideHysteresis s i (s.path i) = (s.path i).undecided := by
  obtain ⟨hrival, hcount⟩ := (switchAnswer_iff s i b).mp h
  simp only [decideHysteresis, (switchRival_iff s i b).mpr hrival, nextCount_eq, if_pos hcount, PathRec.undecided]

theorem decideHysteresis_of_rival {b : Source} (hrival : Rival s i b) (hcount : switchReach s i b < s.params.switchCount) :
    decideHysteresis s i (s.path i) = { s.path i with
      candidate := some (b.slot, b.station), candidateCount := switchReach s i b } := by
  simp only [decideHysteresis, (switchRival_iff s i b).mpr hrival, nextCount_eq, if_neg (Nat.not_le.mpr hcount)]

theorem decideHysteresis_of_no_rival (h : ∀ b, ¬Rival s i b) :
    decideHysteresis s i (s.path i) = (s.path i).undecided := by
  simp only [decideHysteresis, (switchRival_eq_none_iff s i).mpr h, PathRec.undecided]

/-- A path's new evaluation deadline has no part in its switch decision. -/
theorem decideHysteresis_evalAgain (s : State) (i : PathIx) (d : Time) :
    decideHysteresis (s.setPath i ((s.path i).evalAgain d)) i ((s.path i).evalAgain d) =
      (decideHysteresis s i (s.path i)).evalAgain d := by
  have hrival : switchRival (s.setPath i ((s.path i).evalAgain d)) i = switchRival s i := by
    unfold switchRival selectedEntry
    rw [setPath_path_self]
    rfl
  unfold decideHysteresis
  rw [hrival]
  split
  · rfl
  · have hcount (b : Source) : nextCount ((s.path i).evalAgain d) b = nextCount (s.path i) b := rfl
    rw [hcount]
    split <;> split <;> first | rfl | contradiction

theorem switchAnswer_evalAgain (s : State) (i : PathIx) (d : Time) :
    switchAnswer (s.setPath i ((s.path i).evalAgain d)) i = switchAnswer s i := by
  unfold switchAnswer switchRival selectedEntry
  rw [setPath_path_self]
  rfl

/-! ### A selection and the upkeep behind it -/

/-- The state of a path after a selection and its upkeep. -/
theorem selected_path {e : Source} {st : PathState} (hst : st ≠ .waitSlot) :
    (tuningUpkeep i (selectSource i e st s)).path i =
      { selectedRecord s.now s.params.acquireTimeout e (s.path i) with
        state := st, event := some .sourceSelected
        cond := ((tuningUpkeep i (selectSource i e st s)).path i).cond } := by
  have hself := selectAct_path_self s i e st
  rw [tuningUpkeep_path, selectSource_eq, ActOn.settled_path (by rw [hself]; exact hst), hself]

/-- The receive entry that a selection asks for stands in a queue that had room. -/
theorem selected_entry {e : Source} {st : PathState} (h : s.tuning.length < 4) :
    (⟨i, .receive, e.slot⟩ : TuneEntry) ∈ (tuningUpkeep i (selectSource i e st s)).tuning := by
  refine mem_tuningUpkeep ?_ rfl
  rw [selectSource_eq, mem_tuning_settleNotices (.inr (by simp)), selectAct_tuning]
  exact mem_tuneInto_self h

theorem selected_sources (e : Source) (st : PathState) :
    (tuningUpkeep i (selectSource i e st s)).sources = s.sources := by
  rw [tuningUpkeep_sources, selectSource_eq, ActOn.settled_sources, selectAct_sources]

theorem selected_survey (e : Source) (st : PathState) :
    (tuningUpkeep i (selectSource i e st s)).survey = s.survey := by
  rw [tuningUpkeep_survey]
  exact (selectSource_act s i e st).survey_eq

theorem selected_others (e : Source) (st : PathState) : OthersStand i s (tuningUpkeep i (selectSource i e st s)) := by
  unfold OthersStand
  simp only [tuningUpkeep_path, tuningUpkeep_slot, selectSource_eq]
  exact (actOn_selectAct i e st).settled_others

theorem selected_asks (e : Source) {st : PathState} (hst : st ≠ .waitSlot) :
    WaitersAsk s (tuningUpkeep i (selectSource i e st s)) := by
  unfold WaitersAsk WaitsOn
  simp only [tuningUpkeep_path, eligible_tuningUpkeep, selectSource_eq]
  exact (actOn_selectAct i e st).settled_asks (by rw [selectAct_path_self]; exact hst)

/-- Without a waiting path the queue holds the selection's request and the upkeep alone. -/
theorem selected_upkeep {e : Source} {st : PathState} (hsel : (selectSource i e st s).tuning = tuneInto i .receive e.slot s.tuning) :
    ∃ q, Requested i .receive e.slot s.tuning q ∧
      Upkeep i ((tuningUpkeep i (selectSource i e st s)).path i) q (tuningUpkeep i (selectSource i e st s)).tuning := by
  have hup := upkeep_tuningUpkeep i (selectSource i e st s)
  rw [hsel] at hup
  rw [tuningUpkeep_path]
  exact ⟨_, requested_tuneInto i .receive e.slot s.tuning, hup⟩

/-- A record of path i that keeps its receive slot leaves the others' requests and every slot's eligibility as they are. -/
theorem asks_of_setAsked {p : PathRec} {w : Survey} (hrx : p.rxSlot = (s.path i).rxSlot) (hw : (s.path i).state ≠ .waitSlot)
    (h : WaitersAsk (s.setAsked i p w) t) : WaitersAsk s t := by
  intro hp j ⟨hst, hh, hon⟩ k hk
  have hj : j ≠ i := by
    rintro rfl
    exact hw hst
  have helig := h hp j ⟨by rw [setAsked_path_ne s p w hj]; exact hst, hh, hon⟩ k hk
  have hsame : eligible (s.setAsked i p w) k = eligible s k := eligible_congr rfl rfl rfl (setAsked_guarded hrx k)
  rwa [hsame] at helig

theorem others_of_setAsked {p : PathRec} {w : Survey} (h : OthersStand i (s.setAsked i p w) t) : OthersStand i s t := by
  obtain ⟨hpaths, hpeers, hslots⟩ := h
  refine ⟨fun j hj hst => ?_, hpeers, hslots⟩
  have hpath := setAsked_path_ne s p w hj
  rw [hpaths j hj (by rw [hpath]; exact hst), hpath]

/-! ### The four ends of an evaluation -/

variable {d : Time}

theorem evaluateByState_selecting (h : (s.path i).state = .seeking ∨ (s.path i).state = .holdover) :
    evaluateByState i s = selectBest i (if (s.path i).state = .seeking then .acquiring else .switching) (askSurvey i s) := by
  rcases h with h | h <;> simp [evaluateByState, h]

theorem evaluateByState_on (h : (s.path i).state = .on) : evaluateByState i s = decideSwitch i s := by
  simp [evaluateByState, h]

theorem evaluateByState_evalAgain_selecting {w : Survey} (h : (s.path i).state = .seeking ∨ (s.path i).state = .holdover)
    (hask : askSurvey i (s.setPath i ((s.path i).evalAgain d)) = s.setAsked i ((s.path i).evalAgain d) w) :
    evaluateByState i (s.setPath i ((s.path i).evalAgain d)) =
      selectBest i (if (s.path i).state = .seeking then .acquiring else .switching)
        (s.setAsked i ((s.path i).evalAgain d) w) := by
  have hstate : ((s.setPath i ((s.path i).evalAgain d)).path i).state = (s.path i).state := by
    rw [setPath_path_self]
    rfl
  rw [evaluateByState_selecting (by rw [hstate]; exact h), hstate, hask]

theorem pathEvaluation_selects {e : Source} {w : Survey} (hst : s.station = .listen ∨ s.station = .running)
    (hd : (s.path i).evalDeadline = some d) (hreached : reached s.now d = true)
    (hs : (s.path i).state = .seeking ∨ (s.path i).state = .holdover) (hbest : bestFresh s i = some e)
    (hask : askSurvey i (s.setPath i ((s.path i).evalAgain d)) = s.setAsked i ((s.path i).evalAgain d) w) :
    pathEvaluation i s = tuningUpkeep i (selectSource i e
      (if (s.path i).state = .seeking then .acquiring else .switching) (s.setAsked i ((s.path i).evalAgain d) w)) := by
  have hbest' : bestFresh (s.setAsked i ((s.path i).evalAgain d) w) i = some e := hbest
  rw [pathEvaluation_due hst hd hreached (by rcases hs with h | h <;> rw [h] <;> decide),
    evaluateByState_evalAgain_selecting hs hask, selectBest, hbest']

theorem pathEvaluation_finds_none {w : Survey} (hst : s.station = .listen ∨ s.station = .running)
    (hd : (s.path i).evalDeadline = some d) (hreached : reached s.now d = true)
    (hs : (s.path i).state = .seeking ∨ (s.path i).state = .holdover) (hnone : bestFresh s i = none)
    (hask : askSurvey i (s.setPath i ((s.path i).evalAgain d)) = s.setAsked i ((s.path i).evalAgain d) w) :
    pathEvaluation i s = tuningUpkeep i (s.setAsked i ((s.path i).evalAgain d) w) := by
  have hnone' : bestFresh (s.setAsked i ((s.path i).evalAgain d) w) i = none := hnone
  rw [pathEvaluation_due hst hd hreached (by rcases hs with h | h <;> rw [h] <;> decide),
    evaluateByState_evalAgain_selecting hs hask, selectBest, hnone']

/-- In ON the decision is taken on the record, and then the survey is asked (R86, R85). -/
theorem evaluateByState_evalAgain_on {w : Survey} (hon : (s.path i).state = .on)
    (hask : askSurvey i (s.setPath i ((decideHysteresis s i (s.path i)).evalAgain d)) =
      s.setAsked i ((decideHysteresis s i (s.path i)).evalAgain d) w) :
    (switchAnswer s i = none → evaluateByState i (s.setPath i ((s.path i).evalAgain d)) =
      s.setAsked i ((decideHysteresis s i (s.path i)).evalAgain d) w) ∧
    (∀ e, switchAnswer s i = some e → evaluateByState i (s.setPath i ((s.path i).evalAgain d)) =
      selectSource i e .switching (s.setAsked i ((decideHysteresis s i (s.path i)).evalAgain d) w)) := by
  have hby := evaluateByState_on (s := s.setPath i ((s.path i).evalAgain d)) (i := i) (by rw [setPath_path_self]; exact hon)
  simp only [hby, decideSwitch, switchAnswer_evalAgain, setPath_modPath, decideHysteresis_evalAgain, hask]
  exact ⟨fun h => by rw [h], fun e h => by rw [h]⟩

theorem pathEvaluation_switches {b : Source} {w : Survey} (hst : s.station = .listen ∨ s.station = .running)
    (hd : (s.path i).evalDeadline = some d) (hreached : reached s.now d = true) (hon : (s.path i).state = .on)
    (hans : switchAnswer s i = some b)
    (hask : askSurvey i (s.setPath i ((s.path i).undecided.evalAgain d)) =
      s.setAsked i ((s.path i).undecided.evalAgain d) w) :
    pathEvaluation i s = tuningUpkeep i (selectSource i b .switching
      (s.setAsked i ((s.path i).undecided.evalAgain d) w)) := by
  rw [← decideHysteresis_of_answer hans] at hask ⊢
  rw [pathEvaluation_due hst hd hreached (by rw [hon]; decide),
    (evaluateByState_evalAgain_on hon hask).2 b hans]

theorem pathEvaluation_stays {w : Survey} (hst : s.station = .listen ∨ s.station = .running)
    (hd : (s.path i).evalDeadline = some d) (hreached : reached s.now d = true) (hon : (s.path i).state = .on)
    (hans : switchAnswer s i = none)
    (hask : askSurvey i (s.setPath i ((decideHysteresis s i (s.path i)).evalAgain d)) =
      s.setAsked i ((decideHysteresis s i (s.path i)).evalAgain d) w) :
    pathEvaluation i s = tuningUpkeep i (s.setAsked i ((decideHysteresis s i (s.path i)).evalAgain d) w) := by
  rw [pathEvaluation_due hst hd hreached (by rw [hon]; decide), (evaluateByState_evalAgain_on hon hask).1 hans]

theorem pathEvaluation_idles (hst : s.station = .listen ∨ s.station = .running)
    (hd : (s.path i).evalDeadline = some d) (hreached : reached s.now d = true)
    (hs : (s.path i).state = .acquiring ∨ (s.path i).state = .waitSlot ∨ (s.path i).state = .claiming ∨
      (s.path i).state = .switching) :
    pathEvaluation i s = tuningUpkeep i (s.setAsked i ((s.path i).evalAgain d) s.survey) := by
  have hself : ((s.setPath i ((s.path i).evalAgain d)).path i).state = (s.path i).state := by
    rw [setPath_path_self]
    rfl
  have hby : evaluateByState i (s.setPath i ((s.path i).evalAgain d)) = s.setPath i ((s.path i).evalAgain d) := by
    rcases hs with h | h | h | h <;> simp only [evaluateByState, hself, h]
  rw [pathEvaluation_due hst hd hreached (by rcases hs with h | h | h | h <;> rw [h] <;> decide), hby]
  rfl

/-! ### What an evaluation without a selection leaves -/

theorem upkeep_setAsked (s : State) {p : PathRec} (w : Survey) (h : p.rxPending = (s.path i).rxPending ∧
    p.rxSlot = (s.path i).rxSlot ∧ p.txPending = (s.path i).txPending ∧ p.output = (s.path i).output) :
    Upkeep i (s.path i) s.tuning (tuningUpkeep i (s.setAsked i p w)).tuning := by
  obtain ⟨hrp, hrx, htp, hout⟩ := h
  have hup := upkeep_tuningUpkeep i (s.setAsked i p w)
  rw [setAsked_path_self] at hup
  unfold Upkeep at hup
  rw [hrp, hrx, htp, hout] at hup
  exact hup

theorem tuningUpkeep_setAsked {p : PathRec} {w : Survey} (hw : w = { s.survey with requests := w.requests }) :
    tuningUpkeep i (s.setAsked i p w) = { s with
      paths := (tuningUpkeep i (s.setAsked i p w)).paths, tuning := (tuningUpkeep i (s.setAsked i p w)).tuning
      survey := { s.survey with requests := (tuningUpkeep i (s.setAsked i p w)).survey.requests } } := by
  rw [tuningUpkeep_survey]
  have hsurvey : { s.survey with requests := (s.setAsked i p w).survey.requests } = w := hw.symm
  rw [hsurvey, tuningUpkeep_eq]
  rfl

theorem decideHysteresis_sides (s : State) (i : PathIx) (p : PathRec) :
    (decideHysteresis s i p).rxPending = p.rxPending ∧ (decideHysteresis s i p).rxSlot = p.rxSlot ∧
      (decideHysteresis s i p).txPending = p.txPending ∧ (decideHysteresis s i p).output = p.output := by
  unfold decideHysteresis
  split
  · exact ⟨rfl, rfl, rfl, rfl⟩
  · split <;> exact ⟨rfl, rfl, rfl, rfl⟩

end Sys2Proof.Machine

namespace Sys2Proof

open Machine

/-- Settles O41: each clause follows the evaluation through its state's act, on the path's record and the survey
requests, to the upkeep behind it. -/
theorem evaluationSelects : Obligations.EvaluationSelects := by
  refine ⟨fun i d e s hmarks hst hd hreached hs hrx hbest => ?_, fun i d b s hst hd hreached hon hans => ?_,
    fun i d s hst hd hreached hon => ⟨⟨fun b hb hle => (switchAnswer_iff s i b).mpr ⟨⟨hb.1, hb.2⟩, hle⟩, fun h => ?_⟩,
      fun hans => ?_⟩, fun i d s hst hd hreached hs => ?_, fun i s h => ?_⟩
  · obtain ⟨w, hask, hstale, -⟩ := askSurvey_setPath s i ((s.path i).evalAgain d)
    have heff : pathEvaluation i s = tuningUpkeep i (selectSource i e
        (if (s.path i).state = .seeking then .acquiring else .switching) (s.setAsked i ((s.path i).evalAgain d) w)) :=
      pathEvaluation_selects hst hd hreached hs hbest hask
    have hself := setAsked_path_self s i ((s.path i).evalAgain d) w
    have halone := selectSource_alone (s := s.setAsked i ((s.path i).evalAgain d) w) (i := i) (e := e)
      (st := if (s.path i).state = .seeking then .acquiring else .switching) hmarks (by rw [hself]; exact hrx)
    obtain ⟨hslots, hwaits⟩ := selectAct_slots i e (if (s.path i).state = .seeking then .acquiring else .switching)
      (s.setAsked i ((s.path i).evalAgain d) w)
    have hframe := pathEvaluation_frame i s
    have hne : (if (s.path i).state = .seeking then PathState.acquiring else .switching) ≠ .waitSlot := by
      split <;> exact fun h => by cases h
    have hoff : ((s.path i).state == .on) = false := by rcases hs with h | h <;> rw [h] <;> rfl
    rw [answers_iff, effect]
    rw [heff] at hframe ⊢
    have hup := selected_upkeep (s := s.setAsked i ((s.path i).evalAgain d) w) (i := i) (e := e)
      (st := if (s.path i).state = .seeking then .acquiring else .switching) (by rw [halone, selectAct_tuning])
    rw [setAsked_tuning] at hup
    refine ⟨?_, fun j hj => ?_, ?_, ?_, ?_, hup, hstale _ (selected_survey e _), fun h => ?_, hframe⟩
    · rw [selected_path hne, hself]
      simp only [selectedRecord, PathRec.evalAgain, hoff]
      rfl
    · rw [tuningUpkeep_path, halone, selectAct_path_ne _ _ _ hj, setAsked_path_ne s _ w hj]
    · rw [tuningUpkeep_slots, halone, hslots]
      rfl
    · rw [selected_sources, setAsked_sources]
    · rw [tuningUpkeep_waits, halone, hwaits]
      rfl
    · exact selected_entry (by rw [setAsked_tuning]; exact h)
  · obtain ⟨w, hask, hstale, -⟩ := askSurvey_setPath s i
      ((s.path i).undecided.evalAgain d)
    have heff := pathEvaluation_switches hst hd hreached hon hans hask
    have hself := setAsked_path_self s i ((s.path i).undecided.evalAgain d) w
    have hframe := pathEvaluation_frame i s
    obtain ⟨⟨hbest, sel, hsel, -, hmargin⟩, hcount⟩ := (switchAnswer_iff s i b).mp hans
    have hw : (s.path i).state ≠ .waitSlot := by rw [hon]; decide
    rw [answers_iff, effect]
    rw [heff] at hframe ⊢
    refine ⟨⟨hbest, sel, hsel, hmargin, ?_⟩, ?_, fun hnone => ?_, fun h => ?_, hstale _ (selected_survey b _),
      others_of_setAsked (selected_others b _), ?_, ?_, hframe⟩
    · unfold switchReach at hcount
      split at hcount
      · rename_i h; exact .inr ⟨h, hcount⟩
      · exact .inl hcount
    · rw [selected_path (by decide), hself]
      simp only [selectedRecord, PathRec.evalAgain, PathRec.undecided, hon]
      rfl
    · rw [← setAsked_tuning s i ((s.path i).undecided.evalAgain d) w]
      refine selected_upkeep ?_
      rw [selectSource_eq, settleNotices_tuning_of_no_wait, selectAct_tuning]
      intro j
      rcases eq_or_ne j i with rfl | hj
      · rw [selectAct_path_self]; exact fun h => by cases h
      · rw [selectAct_path_ne _ _ _ hj, setAsked_path_ne s _ w hj]; exact hnone j
    · exact selected_entry (by rw [setAsked_tuning]; exact h)
    · exact asks_of_setAsked (p := (s.path i).undecided.evalAgain d) (w := w) rfl hw (selected_asks b (by decide))
    · rw [selected_sources, setAsked_sources]
  · rw [Option.eq_none_iff_forall_not_mem]
    intro b hb
    obtain ⟨hrival, hcount⟩ := (switchAnswer_iff s i b).mp hb
    obtain h | ⟨c, hc, hlt⟩ := h
    · exact h b hrival
    · rw [Option.some.inj (hrival.1.symm.trans hc.1)] at hcount
      exact absurd hlt (Nat.not_lt.mpr hcount)
  · obtain ⟨w, hask, hstale, hw⟩ := askSurvey_setPath s i ((decideHysteresis s i (s.path i)).evalAgain d)
    have heff := pathEvaluation_stays hst hd hreached hon hans hask
    rw [answers_iff, effect, heff]
    refine ⟨fun b hb => ?_, fun hb => ?_, fun j hj => ?_, ?_, hstale _ (tuningUpkeep_survey _ _), ?_⟩
    · have hlt : switchReach s i b < s.params.switchCount := Nat.lt_of_not_le fun hle => by
        rw [(switchAnswer_iff s i b).mpr ⟨hb, hle⟩] at hans
        cases hans
      rw [tuningUpkeep_path, setAsked_path_self, decideHysteresis_of_rival hb hlt]
      rfl
    · rw [tuningUpkeep_path, setAsked_path_self, decideHysteresis_of_no_rival hb]
      rfl
    · rw [tuningUpkeep_path, setAsked_path_ne s _ w hj]
    · exact upkeep_setAsked s w (decideHysteresis_sides s i (s.path i))
    · exact tuningUpkeep_setAsked hw
  · by_cases hsel : (s.path i).state = .seeking ∨ (s.path i).state = .holdover
    · obtain ⟨w, hask, hstale, hw⟩ := askSurvey_setPath s i ((s.path i).evalAgain d)
      have hnone : bestFresh s i = none := by
        rcases hs with h | h | h | h | ⟨-, h⟩
        any_goals rcases hsel with h' | h' <;> rw [h] at h' <;> cases h'
        exact h
      have heff := pathEvaluation_finds_none hst hd hreached hsel hnone hask
      rw [answers_iff, effect, heff]
      refine ⟨?_, fun j hj => ?_, upkeep_setAsked s w ⟨rfl, rfl, rfl, rfl⟩,
        fun _ => hstale _ (tuningUpkeep_survey _ _), fun h => absurd hsel h, tuningUpkeep_setAsked hw⟩
      · rw [tuningUpkeep_path, setAsked_path_self]
        rfl
      · rw [tuningUpkeep_path, setAsked_path_ne s _ w hj]
    · have heff : pathEvaluation i s = tuningUpkeep i (s.setAsked i ((s.path i).evalAgain d) s.survey) :=
        pathEvaluation_idles hst hd hreached (by
          rcases hs with h | h | h | h | ⟨h, -⟩
          · exact .inl h
          · exact .inr (.inl h)
          · exact .inr (.inr (.inl h))
          · exact .inr (.inr (.inr h))
          · exact absurd h hsel)
      rw [answers_iff, effect, heff]
      refine ⟨?_, fun j hj => ?_, upkeep_setAsked s s.survey ⟨rfl, rfl, rfl, rfl⟩, fun h => absurd h hsel,
        fun _ => tuningUpkeep_survey _ _, tuningUpkeep_setAsked rfl⟩
      · rw [tuningUpkeep_path, setAsked_path_self]
        rfl
      · rw [tuningUpkeep_path, setAsked_path_ne s _ _ hj]
  · have hnot : evaluationDue i s = false := by
      rcases h with h | h | h | h <;> simp [evaluationDue, h, listening, dueAt_none]
    rw [exec_eq, effect, pathEvaluation, hnot, if_neg (by decide)]

end Sys2Proof
end
section
/-! PROOFS. What a framer's outcome hands on without a frame, and the verdicts of a monitor visit (O25, O30). -/

namespace Sys2Proof.Machine

open Sys2Proof

variable {s t : State} {i j : PathIx} {ix : FramerIx} {order : OutcomeOrder}

/-! ### The way of an outcome (R41) -/

/-- The state in which tag intake takes an outcome: the framer rests. -/
def State.rested (ix : FramerIx) (o : FrameOutcome) (s : State) : State := s.modFramer ix (Framer.rest (outcomeState o))

theorem framerOutcome_none (h : (s.framer ix).outcome = none) : framerOutcome ix order s = s := by
  rw [framerOutcome, h]

theorem framerOutcome_some {o : FrameOutcome} (h : (s.framer ix).outcome = some o) :
    framerOutcome ix order s = if listening s.station then routeOutcome ix order o (s.rested ix o) else s.rested ix o := by
  rw [framerOutcome, h]
  rfl

theorem framerOutcome_listening {o : FrameOutcome} (h : (s.framer ix).outcome = some o)
    (hst : s.station = .listen ∨ s.station = .running) : framerOutcome ix order s = routeOutcome ix order o (s.rested ix o) := by
  rw [framerOutcome_some h, if_pos ((listening_iff _).mpr hst)]

theorem rested_eq (ix : FramerIx) (o : FrameOutcome) (s : State) : s.rested ix o = s.modFramer ix fun f =>
    { Framer.cleared with state := if o = .foreign then .standby else .hunt, spaceRun := f.spaceRun } := by
  have hstate : outcomeState o = if o = .foreign then .standby else .hunt := by cases o <;> rfl
  unfold State.rested
  congr 1
  funext f
  rw [Framer.rest, hstate]

@[simp] theorem modFramer_params (s : State) (ix : FramerIx) (f : Framer → Framer) : (s.modFramer ix f).params = s.params := by
  cases ix <;> rfl

/-- A frame of the own station goes to no block (R42). -/
theorem routeGood_own {bs : List Byte} {noise : Nat} (h : (readFrame bs).station = s.params.stationId) :
    routeGood ix order bs noise s = s := by
  rw [routeGood, if_pos (by simpa using h)]

/-- An outcome that tag intake hands to no block (R41, R43). -/
theorem routeOutcome_to_no_block {o : FrameOutcome} (h : o = .framing ∨ o = .foreign ∨ o = .malformed ∨
    (o = .crcFail ∧ (ix = .survey ∨ ix = .monitor)) ∨
    (ix ≠ .monitor ∧ ∃ bs noise, o = .good bs noise ∧ (readFrame bs).station = s.params.stationId)) :
    routeOutcome ix order o s = s := by
  obtain rfl | rfl | rfl | ⟨rfl, rfl | rfl⟩ | ⟨hix, bs, noise, rfl, hown⟩ := h
  · cases ix <;> rfl
  · cases ix <;> rfl
  · cases ix <;> rfl
  · rfl
  · rfl
  · cases ix with
    | path i => exact routeGood_own (ix := .path i) hown
    | survey => exact routeGood_own (ix := .survey) hown
    | monitor => exact absurd rfl hix

theorem framerOutcome_to_no_block {o : FrameOutcome} (ho : (s.framer ix).outcome = some o)
    (h : s.station = .loading ∨ s.station = .quiet ∨ o = .framing ∨ o = .foreign ∨ o = .malformed ∨
      (o = .crcFail ∧ (ix = .survey ∨ ix = .monitor)) ∨
      (ix ≠ .monitor ∧ ∃ bs noise, o = .good bs noise ∧ (readFrame bs).station = s.params.stationId)) :
    framerOutcome ix order s = s.rested ix o := by
  rw [framerOutcome_some ho]
  split
  · rename_i hl
    refine routeOutcome_to_no_block ?_
    rw [State.rested, modFramer_params]
    obtain h | h | h := h
    · rw [h] at hl; cases hl
    · rw [h] at hl; cases hl
    · exact h
  · rfl

/-! ### An integrity failure (R76) -/

theorem integrityFailure_sources (i : PathIx) (s : State) :
    integrityFailure i s = { s with sources := (integrityFailure i s).sources } := by
  unfold integrityFailure
  split
  · rfl
  · split <;> rfl

theorem integrityFailure_charged {x : Selected} (hsel : (s.path i).selected = some x)
    (hword : (s.rxSide i).word = slotWord x.slot) : (integrityFailure i s).sources = s.sources.map fun e =>
      if e.slot = x.slot ∧ e.station = x.station then
        { e with integrityGrade := e.integrityGrade / 2
                 quality := if e.absent then 0 else min e.levelGrade (e.integrityGrade / 2) } else e := by
  simp only [integrityFailure, hsel, hword, beq_self_eq_true, if_true, modSource]
  exact List.map_congr_left fun e _ => by
    simp only [hasKey_iff]
    rfl

theorem integrityFailure_spared (h : ∀ x, (s.path i).selected = some x → (s.rxSide i).word ≠ slotWord x.slot) :
    (integrityFailure i s).sources = s.sources := by
  unfold integrityFailure
  split
  · rfl
  · rename_i x hx
    rw [if_neg (by simpa using h x hx)]

/-! ### Verdicts (R151 to R154) -/

theorem verdict_setVerdict_self (s : State) (i : PathIx) (v : Option Verdict) : (s.setVerdict i v).verdict i = v := by
  simp [State.verdict, State.setVerdict, upd]

theorem verdict_setVerdict_ne (s : State) (v : Option Verdict) (h : j ≠ i) : (s.setVerdict i v).verdict j = s.verdict j := by
  have h' : i.val ≠ j.val := fun e => h (Fin.ext e.symm)
  simp [State.verdict, State.setVerdict, upd, h']

/-- The state after a failing verdict has been recorded, before the chain test. -/
theorem recordFail_path_self (s : State) (i : PathIx) :
    (recordFail i s).path i = { s.path i with monitorFails := min 2 ((s.path i).monitorFails + 1) } :=
  State.path_modPath_self s i _

theorem recordFail_path_ne (s : State) (h : j ≠ i) : (recordFail i s).path j = s.path j :=
  State.path_modPath_ne s i _ h

theorem recordFail_verdict_self (s : State) (i : PathIx) : (recordFail i s).verdict i = some .fail :=
  verdict_setVerdict_self _ i _

theorem recordFail_verdict_ne (s : State) (h : j ≠ i) : (recordFail i s).verdict j = s.verdict j :=
  verdict_setVerdict_ne _ _ h

theorem recordFail_onAir (s : State) (i j : PathIx) : (recordFail i s).onAir j = s.onAir j := by
  unfold State.onAir
  rcases eq_or_ne j i with rfl | h
  · rw [recordFail_path_self]
  · rw [recordFail_path_ne s h]

/-- The chain test behind a failing verdict of path i. -/
theorem chain_recordFail (s : State) (i : PathIx) :
    ((recordFail i s).mon.chainFault || chainFails (recordFail i s)) = true ↔ ChainFails s i := by
  have hair : (recordFail i s).onAir = s.onAir := funext (recordFail_onAir s i)
  have hcount : onAirCount (recordFail i s) = onAirCount s := by rw [onAirCount, hair, onAirCount]
  have hverdict (j : PathIx) : (recordFail i s).verdict j = some .fail ↔ j = i ∨ s.verdict j = some .fail := by
    rcases eq_or_ne j i with rfl | h
    · simp [recordFail_verdict_self]
    · simp [recordFail_verdict_ne s h, h]
  have hfault : (recordFail i s).mon.chainFault = s.mon.chainFault := rfl
  simp only [ChainFails, chainFails, Bool.or_eq_true, Bool.and_eq_true, hfault, hcount, hair, List.all_eq_true,
    mem_indices, forall_const, Bool.not_eq_true', decide_eq_true_eq, beq_iff_eq, hverdict]
  refine or_congr_right (and_congr_right fun _ => forall_congr' fun j => ?_)
  cases s.onAir j <;> simp

theorem logFailure_eq (now : Time) (log : List Time) :
    logFailure now log = (if log.length < 15 then log else log.drop (log.length - 14)) ++ [now] := by
  have h : log.length + 1 - failureCapacity = log.length - 14 := by simp [failureCapacity]
  rw [logFailure, h]
  rfl

/-- A path that enters transmit fault turns OFF (R154, R126). -/
theorem enterTxFault_path_self (s : State) (i : PathIx) : (enterTxFault i s).path i = { s.path i with
    txFaultDeadline := some (later s.now 30000), event := some .txFault, cond := .off } := by
  unfold enterTxFault
  rw [refreshPath_path_self, recordEvent_path_self, State.path_modPath_self]
  rfl

theorem enterTxFault_path_ne (s : State) (h : j ≠ i) : (enterTxFault i s).path j = s.path j := by
  unfold enterTxFault
  rw [refreshPath_path_ne _ h, recordEvent_path_ne _ _ h, State.path_modPath_ne _ _ _ h]

theorem enterTxFault_act (s : State) (i : PathIx) : ActFrame s (enterTxFault i s) :=
  ((modPath_act _ _ _).trans (recordEvent_act _ _ _)).trans (refreshPath_act _ _)

theorem keyUpdate_mon (s : State) : (keyUpdate s).mon = s.mon := by
  unfold keyUpdate
  split
  · rfl
  · split <;> rfl

/-- A path's condition derived again cuts a visit of it and clears its own verdict at most (R150, R152). -/
theorem refreshPath_verdict_ne (s : State) (h : j ≠ i) : (refreshPath i s).verdict j = s.verdict j := by
  have hcut (u : State) : (cutVisitOf i u).verdict j = u.verdict j := by
    unfold cutVisitOf
    split
    · rfl
    · split <;> rfl
  unfold refreshPath turnCond
  dsimp only
  split
  · rfl
  · rw [State.verdict, keyUpdate_mon]
    split
    · exact (verdict_setVerdict_ne _ _ h).trans (hcut _)
    · exact hcut _

theorem refreshPath_visit_none (hv : s.mon.visit = none) : (refreshPath i s).mon.visit = none := by
  have hcut {u : State} (hu : u.mon.visit = none) : (cutVisitOf i u).mon.visit = none := by
    unfold cutVisitOf
    rw [hu]
    exact hu
  unfold refreshPath turnCond
  dsimp only
  split
  · exact hv
  · rw [keyUpdate_mon]
    split
    · exact hcut hv
    · exact hcut hv

theorem enterTxFault_keeps (s : State) (i : PathIx) : (enterTxFault i s).slots = s.slots ∧
    (enterTxFault i s).waits = s.waits ∧ (enterTxFault i s).sources = s.sources ∧ (enterTxFault i s).tuning = s.tuning := by
  unfold enterTxFault
  simp only [refreshPath_slots, refreshPath_waits, refreshPath_sources, refreshPath_tuning]
  exact ⟨rfl, rfl, rfl, rfl⟩

/-- The state after a verdict that fails the chain. -/
def State.chainFailed (s : State) : State := alarmUpdate { s with mon := { s.mon with chainFault := true } }

theorem chainFailed_path (s : State) (j : PathIx) : s.chainFailed.path j = s.path j := rfl
theorem chainFailed_verdict (s : State) (j : PathIx) : s.chainFailed.verdict j = s.verdict j := rfl
theorem chainFailed_alarm (s : State) : s.chainFailed.lines.alarm = true := by
  simp [State.chainFailed, alarmUpdate, alarmOf]
theorem chainFailed_frame (s : State) : ActFrame { s with
    mon := { s.mon with chainFault := s.chainFailed.mon.chainFault }
    lines := { s.lines with alarm := s.chainFailed.lines.alarm } } s.chainFailed := rfl

theorem recordFail_open (s : State) (i : PathIx) (c a : Bool) : ActFrame
    { s with mon := { s.mon with failureLog := (recordFail i s).mon.failureLog, chainFault := c }
             lines := { s.lines with alarm := a } }
    { recordFail i s with mon := { (recordFail i s).mon with chainFault := c }
                          lines := { (recordFail i s).lines with alarm := a } } := rfl

/-- A recorded failure with the chain's and the alarm's part left open. -/
theorem failTaken_of {u t : State}
    (hu : u = recordFail i s)
    (hframe : ActFrame { u with mon := { u.mon with chainFault := t.mon.chainFault }
                                lines := { u.lines with alarm := t.lines.alarm } } t)
    (hvisit : t.mon.visit = none) (hpath : ∀ j, j ≠ i → t.path j = u.path j ∧ t.verdict j = u.verdict j)
    (hkeep : t.slots = u.slots ∧ t.waits = u.waits ∧ t.sources = u.sources ∧ t.tuning = u.tuning)
    (hchain : ChainFails s i → t.mon.chainFault = true ∧ t.lines.alarm = true ∧ t.verdict i = some .fail ∧
      t.path i = u.path i)
    (hone : ¬ChainFails s i → (s.path i).monitorFails = 0 → t = u)
    (htwo : ¬ChainFails s i → 1 ≤ (s.path i).monitorFails → t = enterTxFault i u) : FailTaken s i t := by
  subst hu
  obtain ⟨hslots, hwaits, hsources, htuning⟩ := hkeep
  have hfault (h : ¬ChainFails s i) : (recordFail i s).mon.chainFault = false := by
    rw [Bool.eq_false_iff]
    exact fun hc => h (.inl hc)
  have hlog : t.mon.failureLog = (recordFail i s).mon.failureLog := by rw [hframe]
  refine ⟨?_, hlog.trans (logFailure_eq s.now s.mon.failureLog), hvisit, fun j hj => ?_, hslots, hwaits, hsources, htuning,
    fun h => ?_, fun h h0 => ?_, fun h h1 => ?_⟩
  · have htrans : ActFrame { s with
        mon := { s.mon with failureLog := (recordFail i s).mon.failureLog, chainFault := t.mon.chainFault }
        lines := { s.lines with alarm := t.lines.alarm } } t := ActFrame.trans (recordFail_open s i _ _) hframe
    rwa [← hlog] at htrans
  · obtain ⟨hp, hv⟩ := hpath j hj
    exact ⟨hp.trans (recordFail_path_ne s hj), hv.trans (recordFail_verdict_ne s hj)⟩
  · obtain ⟨hc, ha, hv, hp⟩ := hchain h
    exact ⟨hc, ha, hv, hp.trans (recordFail_path_self s i)⟩
  · rw [hone h h0]
    refine ⟨hfault h, rfl, recordFail_verdict_self s i, ?_⟩
    rw [recordFail_path_self, h0]
    rfl
  · rw [htwo h h1]
    have hmin : min 2 ((s.path i).monitorFails + 1) = 2 := by omega
    have hact := enterTxFault_act (recordFail i s) i
    refine ⟨hact.mon_chainFault_eq.trans (hfault h), hact.lines_alarm_eq, ?_⟩
    rw [enterTxFault_path_self, recordFail_path_self, hmin]
    rfl

/-- What a failing verdict writes (R152 to R154). -/
theorem failTaken_failVerdict (s : State) (i : PathIx) : FailTaken s i (failVerdict i s) := by
  have hchain := chain_recordFail s i
  have hverdict := recordFail_verdict_self s i
  have hvisit : (recordFail i s).mon.visit = none := rfl
  by_cases hc : ChainFails s i
  · have heq : failVerdict i s = (recordFail i s).chainFailed := by
      rw [failVerdict, if_pos (hchain.mpr hc)]
      rfl
    generalize hu : recordFail i s = u at *
    rw [heq]
    exact failTaken_of hu.symm (chainFailed_frame u) hvisit (fun j _ => ⟨chainFailed_path u j, chainFailed_verdict u j⟩)
      ⟨rfl, rfl, rfl, rfl⟩ (fun _ => ⟨rfl, chainFailed_alarm u, (chainFailed_verdict u i).trans hverdict, chainFailed_path u i⟩)
      (fun h => absurd hc h) fun h => absurd hc h
  · have hfails : ((recordFail i s).path i).monitorFails = min 2 ((s.path i).monitorFails + 1) := by rw [recordFail_path_self]
    have heq : failVerdict i s = if 2 ≤ ((recordFail i s).path i).monitorFails then enterTxFault i (recordFail i s)
        else recordFail i s := by
      rw [failVerdict, if_neg (mt hchain.mp hc)]
    generalize hu : recordFail i s = u at *
    rw [heq]
    split
    · rename_i htwo
      have hact := enterTxFault_act u i
      refine failTaken_of hu.symm ?_ (refreshPath_visit_none hvisit) (fun j hj => ⟨enterTxFault_path_ne u hj, ?_⟩)
        (enterTxFault_keeps u i) (fun h => absurd h hc) (fun _ h => by omega) fun _ _ => rfl
      · rw [hact.mon_chainFault_eq, hact.lines_alarm_eq]
        exact hact
      · exact refreshPath_verdict_ne _ hj
    · exact failTaken_of hu.symm rfl hvisit (fun _ _ => ⟨rfl, rfl⟩) ⟨rfl, rfl, rfl, rfl⟩ (fun h => absurd h hc)
        (fun _ _ => rfl) fun _ h => by omega

/-! ### A passing verdict (R152) -/

/-- The state after a passing verdict on path i, before the chain fault ends. -/
def State.passed (i : PathIx) (s : State) : State :=
  (cutVisit (s.modPath i fun p => { p with monitorFails := 0 })).setVerdict i (some .pass)

theorem passVerdict_eq (s : State) (i : PathIx) : passVerdict i s = if s.mon.chainFault = true then
    alarmUpdate (clearFailCounts { s.passed i with mon := { (s.passed i).mon with chainFault := false } })
    else s.passed i := by
  unfold passVerdict
  rfl

theorem path_setAll (s : State) (f : PathIx → PathRec → PathRec) (j : PathIx) :
    State.path { s with paths := updAll s.paths f } j = f j (s.path j) := by
  simp only [State.path, updAll_get]

theorem clearFailCounts_path (s : State) (j : PathIx) : (clearFailCounts s).path j =
    { s.path j with monitorFails := if (s.path j).txFaultDeadline = none then 0 else (s.path j).monitorFails } := by
  have hpath : (clearFailCounts s).path j =
      if (s.path j).txFaultDeadline.isSome then s.path j else { s.path j with monitorFails := 0 } :=
    path_setAll s _ j
  rw [hpath]
  split
  · rename_i h
    rw [if_neg (Option.isSome_iff_ne_none.mp h)]
  · rename_i h
    rw [if_pos (by simpa using h)]

theorem passed_path_self (s : State) (i : PathIx) : (s.passed i).path i = { s.path i with monitorFails := 0 } :=
  State.path_modPath_self s i _
theorem passed_path_ne (s : State) (h : j ≠ i) : (s.passed i).path j = s.path j := State.path_modPath_ne s i _ h

theorem passVerdict_path (s : State) (i j : PathIx) : (passVerdict i s).path j = { (s.passed i).path j with monitorFails :=
    if s.mon.chainFault = true ∧ ((s.passed i).path j).txFaultDeadline = none then 0
    else ((s.passed i).path j).monitorFails } := by
  rw [passVerdict_eq]
  split
  · rename_i hc
    rw [alarmUpdate_path, clearFailCounts_path]
    simp only [hc, true_and]
    rfl
  · rename_i hc
    rw [if_neg fun h => hc h.1]

theorem passVerdict_chainFault (s : State) (i : PathIx) : (passVerdict i s).mon.chainFault = false := by
  rw [passVerdict_eq]
  split
  · rfl
  · rename_i h
    exact Bool.eq_false_iff.mpr h

theorem passVerdict_visit (s : State) (i : PathIx) : (passVerdict i s).mon.visit = none := by
  rw [passVerdict_eq]
  split <;> rfl

theorem passVerdict_verdicts (s : State) (i : PathIx) :
    (passVerdict i s).mon.verdicts = upd s.mon.verdicts i fun _ => some .pass := by
  rw [passVerdict_eq]
  split <;> rfl

/-- t is s but for what a passing verdict may write. -/
def VerdictFrame (s t : State) : Prop := t = { s with
  paths := t.paths
  mon := { s.mon with visit := t.mon.visit, verdicts := t.mon.verdicts, chainFault := t.mon.chainFault }
  lines := { s.lines with alarm := t.lines.alarm } }

theorem VerdictFrame.trans {u : State} (h : VerdictFrame s t) (g : VerdictFrame t u) : VerdictFrame s u := by
  unfold VerdictFrame at *
  rw [g, h]

theorem passVerdict_frame (s : State) (i : PathIx) : VerdictFrame s (passVerdict i s) := by
  have hpassed : VerdictFrame s (s.passed i) := rfl
  have hfault (u : State) : VerdictFrame u { u with mon := { u.mon with chainFault := false } } := rfl
  have hclear (u : State) : VerdictFrame u (clearFailCounts u) := rfl
  have halarm (u : State) : VerdictFrame u (alarmUpdate u) := rfl
  rw [passVerdict_eq]
  split
  · exact ((hpassed.trans (hfault _)).trans (hclear _)).trans (halarm _)
  · exact hpassed

theorem ownTagCheck_pass {v : Visit} {f : Frame} (hv : s.mon.visit = some v) (hl : v.phase = .listening)
    (hown : f.station = s.params.stationId) (hpr : f.programme = (s.carryOf v.path).programme) :
    ownTagCheck f s = passVerdict v.path s := by
  simp [ownTagCheck, hv, hl, hown, hpr]

theorem ownTagCheck_fail {v : Visit} {f : Frame} (hv : s.mon.visit = some v) (hl : v.phase = .listening)
    (h : f.station ≠ s.params.stationId ∨ f.programme ≠ (s.carryOf v.path).programme) :
    ownTagCheck f s = failVerdict v.path s := by
  have hcheck : ((f.station == s.params.stationId) && (f.programme == (s.carryOf v.path).programme)) = false := by
    rcases h with h | h <;> simp [h]
  simp [ownTagCheck, hv, hl, hcheck]

theorem visitTimeout_fails {v : Visit} (hv : s.mon.visit = some v) (hl : v.phase = .listening)
    (hreached : reached s.now v.deadline = true) : visitTimeout s = failVerdict v.path s := by
  simp [visitTimeout, hv, hl, hreached]

theorem passVerdict_verdict_self (s : State) (i : PathIx) : (passVerdict i s).verdict i = some .pass := by
  rw [State.verdict, passVerdict_verdicts]
  simp [upd]

theorem passVerdict_verdict_ne (s : State) (h : j ≠ i) : (passVerdict i s).verdict j = s.verdict j := by
  have h' : i.val ≠ j.val := fun e => h (Fin.ext e.symm)
  rw [State.verdict, passVerdict_verdicts]
  simp [upd, h', State.verdict]

theorem passVerdict_path_self (s : State) (i : PathIx) : (passVerdict i s).path i = { s.path i with monitorFails := 0 } := by
  rw [passVerdict_path, passed_path_self, ite_self]

theorem passVerdict_path_ne (s : State) (h : j ≠ i) : (passVerdict i s).path j = { s.path j with monitorFails :=
    if s.mon.chainFault = true ∧ (s.path j).txFaultDeadline = none then 0 else (s.path j).monitorFails } := by
  rw [passVerdict_path, passed_path_ne s h]

end Sys2Proof.Machine

namespace Sys2Proof

open Machine

/-- Settles O25: routing rests the framer and hands the outcome on to no block but the table that is charged. -/
theorem outcomeWithoutAFrame : Obligations.OutcomeWithoutAFrame := by
  refine ⟨fun ix order o s ho h => ?_, fun i order s ho hst => ?_, fun ix order s h => ?_⟩
  · rw [exec_eq, effect, framerOutcome_to_no_block ho h, rested_eq]
  · rw [answers_iff, effect, framerOutcome_listening ho hst]
    have hrest : s.rested (.path i) .crcFail =
        s.modFramer (.path i) fun f => { Framer.cleared with spaceRun := f.spaceRun } := rested_eq _ _ s
    refine ⟨?_, fun x hsel hword => integrityFailure_charged hsel hword, fun h => integrityFailure_spared h⟩
    rw [← hrest]
    exact integrityFailure_sources i _
  · rw [exec_eq, effect, framerOutcome_none h]

/-- Settles O30: the own-tag check and the deadline give the path its verdict. -/
theorem ownTagVerdicts : Obligations.OwnTagVerdicts := by
  refine ⟨fun v order bs noise s ho hst hv hl hown hpr => ?_, fun v order bs noise s ho hst hv hl hother => ?_,
    fun v s hv hl hreached => ?_, fun v s hv hreached => ?_⟩
  · have heff : framerOutcome .monitor order s = passVerdict v.path (s.rested .monitor (.good bs noise)) := by
      have hcheck := ownTagCheck_pass (s := s.rested .monitor (.good bs noise)) hv hl hown hpr
      rw [framerOutcome_listening ho hst]
      exact hcheck
    rw [answers_iff, effect, heff]
    exact ⟨passVerdict_visit _ _, passVerdict_chainFault _ _, passVerdict_verdict_self _ _,
      fun j hj => passVerdict_verdict_ne _ hj, passVerdict_path_self _ _, fun j hj => passVerdict_path_ne _ hj,
      passVerdict_frame _ _⟩
  · have heff : framerOutcome .monitor order s = failVerdict v.path (s.rested .monitor (.good bs noise)) := by
      have hcheck := ownTagCheck_fail (s := s.rested .monitor (.good bs noise)) hv hl hother
      rw [framerOutcome_listening ho hst]
      exact hcheck
    rw [answers_iff, effect, heff, rested_eq]
    exact failTaken_failVerdict _ _
  · rw [answers_iff, effect, visitTimeout_fails hv hl hreached]
    exact failTaken_failVerdict s v.path
  · rw [exec_eq, effect, visitTimeout, hv]
    simp [hreached]

end Sys2Proof
end
section
/-! PROOFS. What the events of the neighbour list and of the two tables make of peer lists, sources and selections. -/

namespace Sys2Proof.Machine

open Sys2Proof

variable {s t u : State} {i j : PathIx} {k : Slot} {st : StationId}

/-! ### Notices of the source table bar their own key at most (R82) -/

/-- es' is es but for the penalties of the entry of one key. -/
def BarsOnly (k : Slot) (st : StationId) (es es' : List Source) : Prop :=
  ∃ g : Source → Source, (∀ e, ¬(e.slot = k ∧ e.station = st) → g e = e) ∧
    (∀ e, ∃ b, g e = { e with barredUntil := b }) ∧ es' = es.map g

namespace BarsOnly

variable {es es' es'' : List Source}

theorem refl (k : Slot) (st : StationId) (es : List Source) : BarsOnly k st es es :=
  ⟨id, fun _ _ => rfl, fun e => ⟨e.barredUntil, rfl⟩, es.map_id.symm⟩

theorem of_eq (h : es' = es) : BarsOnly k st es es' := h ▸ refl k st es

theorem trans (h : BarsOnly k st es es') (g : BarsOnly k st es' es'') : BarsOnly k st es es'' := by
  obtain ⟨f, hf, hfb, rfl⟩ := h
  obtain ⟨g, hg, hgb, rfl⟩ := g
  refine ⟨fun e => g (f e), fun e he => ?_, fun e => ?_, by rw [List.map_map]; rfl⟩
  · exact (congrArg g (hf e he)).trans (hg e he)
  · obtain ⟨b, hb⟩ := hfb e
    obtain ⟨c, hc⟩ := hgb (f e)
    exact ⟨c, hc.trans (by rw [hb])⟩

theorem of_penalty (d : Time) : BarsOnly k st es (es.map fun e =>
    if e.slot = k ∧ e.station = st then { e with barredUntil := some d } else e) :=
  ⟨_, fun e he => if_neg he, fun e => by
    split
    · exact ⟨some d, rfl⟩
    · exact ⟨e.barredUntil, rfl⟩, rfl⟩

theorem eq_of_absent (h : BarsOnly k st es es') (habs : ∀ e ∈ es, ¬(e.slot = k ∧ e.station = st)) : es' = es := by
  obtain ⟨g, hg, -, rfl⟩ := h
  rw [List.map_congr_left fun e he => hg e (habs e he), List.map_id']

/-- The entries of the other keys are those of before. -/
theorem mem_iff (h : BarsOnly k st es es') {e : Source} (he : ¬(e.slot = k ∧ e.station = st)) : e ∈ es' ↔ e ∈ es := by
  obtain ⟨g, hg, hgb, rfl⟩ := h
  constructor
  · intro hmem
    obtain ⟨x, hx, rfl⟩ := List.mem_map.mp hmem
    obtain ⟨b, hb⟩ := hgb x
    have hkey : ¬(x.slot = k ∧ x.station = st) := by rwa [hb] at he
    rwa [hg x hkey]
  · exact fun hmem => List.mem_map.mpr ⟨e, hmem, hg e he⟩

theorem exists_key (h : BarsOnly k st es es') {x : Source} (hx : x ∈ es) : ∃ b, { x with barredUntil := b } ∈ es' := by
  obtain ⟨g, -, hgb, rfl⟩ := h
  obtain ⟨b, hb⟩ := hgb x
  exact ⟨b, List.mem_map.mpr ⟨x, hx, hb⟩⟩

end BarsOnly

/-- A source that is lost is penalised at most (R118). -/
theorem sourceLost_bars {x : Selected} (hsel : (s.path i).selected = some x) :
    BarsOnly x.slot x.station s.sources (sourceLost i s).sources := by
  obtain he | ⟨-, -, he⟩ | ⟨-, -, he⟩ := sourceLost_cases s i <;> rw [he]
  · exact .refl _ _ _
  · rw [(settleNotices_served s _).sources, failAct_sources, penaliseSelected_sources hsel]
    exact .of_penalty _
  · rw [(settleNotices_served s _).sources, loseSource_sources]
    exact .refl _ _ _

theorem noticeRemoved_bars (e : Source) (s : State) : BarsOnly e.slot e.station s.sources (noticeRemoved s e).sources := by
  refine forPaths_keeps (P := fun u => BarsOnly e.slot e.station s.sources u.sources) (fun i u hu => ?_) (.refl _ _ _)
  unfold takeRemoved
  split
  · rename_i hsel
    obtain ⟨x, hx, hk, hst⟩ := (SelectedBut.selects_iff _ _ _).mp hsel
    exact hu.trans (hk ▸ hst ▸ sourceLost_bars hx)
  · exact hu

theorem noticeChanged_bars (e : Source) (s : State) : BarsOnly e.slot e.station s.sources (noticeChanged e s).sources := by
  refine forPaths_keeps (P := fun u => BarsOnly e.slot e.station s.sources u.sources) (fun i u hu => ?_) (.refl _ _ _)
  unfold takeChanged
  split
  · rename_i hsel
    obtain ⟨x, hx, hk, hst⟩ := (SelectedBut.selects_iff _ _ _).mp hsel
    split
    · exact hu.trans (hk ▸ hst ▸ sourceLost_bars hx)
    · exact hu
  · exact hu

theorem foldl_keeps_mem {α : Type} {P : State → Prop} {f : State → α → State} (l : List α)
    (h : ∀ a ∈ l, ∀ s, P s → P (f s a)) {s : State} (hs : P s) : P (l.foldl f s) := by
  induction l generalizing s with
  | nil => exact hs
  | cons a l ih => exact ih (fun b hb => h b (List.mem_cons_of_mem a hb)) (h a List.mem_cons_self s hs)

/-- A removal takes just the entries it names, when it names all of a key or none (R79, R80). -/
theorem removeSources_sources {gone : Source → Bool} (hkeys : ∀ a ∈ s.sources, ∀ b ∈ s.sources, gone a = true →
    a.slot = b.slot → a.station = b.station → gone b = true) :
    (removeSources gone s).sources = s.sources.filter fun e => !gone e := by
  refine foldl_keeps_mem (P := fun u => u.sources = s.sources.filter fun e => !gone e) _ (fun a ha u hu => ?_) rfl
  obtain ⟨ha, hgone⟩ := List.mem_filter.mp ha
  refine ((noticeRemoved_bars a u).eq_of_absent fun b hb => ?_).trans hu
  rw [hu] at hb
  obtain ⟨hb, hkept⟩ := List.mem_filter.mp hb
  rintro ⟨hslot, hstation⟩
  rw [hkeys a ha b hb hgone hslot.symm hstation.symm] at hkept
  cases hkept

/-! ### Selections (R81, R119) -/

/-- From s to t every path keeps its selected source, or loses one that was removed. -/
def SelectionsLost (removed : Slot → StationId → Prop) (s t : State) : Prop :=
  ∀ j, (t.path j).selected = (s.path j).selected ∨
    ∃ x, (s.path j).selected = some x ∧ removed x.slot x.station ∧ (t.path j).selected = none

namespace SelectionsLost

variable {removed : Slot → StationId → Prop}

theorem refl (removed : Slot → StationId → Prop) (s : State) : SelectionsLost removed s s := fun _ => .inl rfl

theorem of_same (h : ∀ j, (t.path j).selected = (s.path j).selected) : SelectionsLost removed s t := fun j => .inl (h j)

theorem trans (h : SelectionsLost removed s t) (g : SelectionsLost removed t u) : SelectionsLost removed s u := by
  intro j
  obtain hj | ⟨x, hx, hrem, hj⟩ := h j
  · rcases g j with hg | ⟨x, hx, hrem, hg⟩
    · exact .inl (hg.trans hj)
    · exact .inr ⟨x, hj ▸ hx, hrem, hg⟩
  · rcases g j with hg | ⟨y, hy, -, -⟩
    · exact .inr ⟨x, hx, hrem, hg.trans hj⟩
    · rw [hj] at hy; cases hy

theorem mono {removed' : Slot → StationId → Prop} (h : SelectionsLost removed s t)
    (hr : ∀ k st, removed k st → removed' k st) : SelectionsLost removed' s t := fun j =>
  (h j).imp_right fun ⟨x, hx, hrem, hj⟩ => ⟨x, hx, hr _ _ hrem, hj⟩

/-- An entry that was not removed is selected just when it was. -/
theorem isSelected_eq (h : SelectionsLost removed s t) {e : Source} (he : ¬removed e.slot e.station) :
    isSelected t e = isSelected s e := by
  have hone (j : PathIx) : (t.path j).selects e.slot e.station = (s.path j).selects e.slot e.station := by
    rw [Bool.eq_iff_iff, SelectedBut.selects_iff, SelectedBut.selects_iff]
    obtain hj | ⟨x, hx, hrem, hj⟩ := h j
    · rw [hj]
    · rw [hj, hx]
      refine ⟨fun ⟨_, h, _⟩ => (by cases h), fun ⟨y, hy, hk, hst⟩ => ?_⟩
      cases hy
      exact absurd (hk ▸ hst ▸ hrem) he
  simp only [isSelected, hone]

end SelectionsLost

theorem sourceLost_selections {x : Selected} (hsel : (s.path i).selected = some x) :
    SelectionsLost (fun k st => k = x.slot ∧ st = x.station) s (sourceLost i s) := by
  obtain he | ⟨-, ha, he⟩ | ⟨-, hw, he⟩ := sourceLost_cases s i <;> rw [he]
  · exact .refl _ _
  · refine SelectionsLost.trans (fun j => ?_) (.of_same (settleNotices_served s _).selected_eq)
    rcases eq_or_ne j i with rfl | hj
    · exact .inr ⟨x, hsel, ⟨rfl, rfl⟩, by rw [failAct_path_self ha]; rfl⟩
    · exact .inl (by rw [failAct_path_ne s hj])
  · refine SelectionsLost.trans (fun j => ?_) (.of_same (settleNotices_served s _).selected_eq)
    rcases eq_or_ne j i with rfl | hj
    · exact .inr ⟨x, hsel, ⟨rfl, rfl⟩, by rw [loseSource_path_self hw]; rfl⟩
    · exact .inl (by rw [loseSource_path_ne s hj])

theorem noticeRemoved_selections (e : Source) (s : State) :
    SelectionsLost (fun k st => k = e.slot ∧ st = e.station) s (noticeRemoved s e) := by
  refine forPaths_keeps (P := SelectionsLost _ s) (fun i u hu => ?_) (.refl _ _)
  unfold takeRemoved
  split
  · rename_i hsel
    obtain ⟨x, hx, hk, hst⟩ := (SelectedBut.selects_iff _ _ _).mp hsel
    exact hu.trans (hk ▸ hst ▸ sourceLost_selections hx)
  · exact hu

theorem removeSources_selections (gone : Source → Bool) (s : State) :
    SelectionsLost (fun k st => ∃ e ∈ s.sources, gone e = true ∧ e.slot = k ∧ e.station = st) s (removeSources gone s) := by
  refine foldl_keeps_mem (P := SelectionsLost _ s) _ (fun a ha u hu => hu.trans ?_) (.of_same fun _ => rfl)
  obtain ⟨ha, hgone⟩ := List.mem_filter.mp ha
  exact (noticeRemoved_selections a u).mono fun k st ⟨hk, hst⟩ => ⟨a, ha, hgone, hk.symm, hst.symm⟩

theorem retestedEvent_selected (c : Nat) (f : Slot → List Peer → List Peer) (s : State) (i : PathIx) :
    ((retestedEvent c f s).path i).selected = (s.path i).selected := by
  have hlose (t : State) (k : Slot) (e : PathEvent) : ((loseToPeer c k e t).path i).selected = (t.path i).selected := by
    cases howner : (t.slot k).ownPath with
    | none => simp [loseToPeer, howner]
    | some j =>
      rcases eq_or_ne i j with rfl | hne
      · rw [loseToPeer_path_self howner, slotLost_path_self]
      · rw [loseToPeer_path_ne howner _ _ hne]
  unfold retestedEvent
  rw [pinnedUpdate_path, retestChanged_eq]
  refine forSlots_keeps (P := fun u => (u.path i).selected = (s.path i).selected) (fun k u hu => ?_) (by rw [rewritePeers_path])
  unfold retestTurn
  split
  · exact hu
  · unfold retestSlot
    split
    · exact hu
    · split
      · exact (hlose u k _).trans hu
      · exact hu
    · exact hu

theorem peerEvent_selected (c : Nat) (f : Slot → List Peer → List Peer) (s : State) (i : PathIx) :
    ((serveMarks (peerEvent c f s)).path i).selected = (s.path i).selected := by
  rw [peerEvent_settled, (settleNotices_served s _).selected_eq, retestedEvent_selected]

/-! ### A mass release (R64, R80, R93) -/

theorem removeSources_peers (gone : Source → Bool) (s : State) (k : Slot) :
    ((removeSources gone s).slot k).peers = (s.slot k).peers := by
  have hgone : State.slot { s with sources := s.sources.filter (fun e => !gone e) } k = s.slot k := rfl
  rw [removeSources, (Acts.noticesRemoved _ _).peers_eq, hgone]

theorem releaseStationSources_sources (st : StationId) (s : State) :
    (releaseStationSources st s).sources = s.sources.filter fun e => e.station != st :=
  removeSources_sources fun a _ b _ ha _ hst => by rw [← hst]; exact ha

theorem massRelease_claimsFirst (st : StationId) (s : State) :
    massRelease .claimsFirst st s = releaseStationSources st (releaseStationClaims st s) := rfl
theorem massRelease_sourcesFirst (st : StationId) (s : State) :
    massRelease .sourcesFirst st s = releaseStationClaims st (releaseStationSources st s) := rfl

theorem releaseStationClaims_sources (st : StationId) (s : State) : (releaseStationClaims st s).sources = s.sources :=
  peerEvent_sources 0 _ s
theorem releaseStationClaims_peers (st : StationId) (s : State) (k : Slot) :
    ((releaseStationClaims st s).slot k).peers = (s.slot k).peers.filter fun p => p.station != st := peerEvent_peers 0 _ s k
theorem releaseStationSources_peers (st : StationId) (s : State) (k : Slot) :
    ((releaseStationSources st s).slot k).peers = (s.slot k).peers := removeSources_peers _ s k

theorem massRelease_sources (order : ReleaseOrder) (st : StationId) (s : State) :
    (massRelease order st s).sources = s.sources.filter fun e => e.station != st := by
  cases order
  · rw [massRelease_claimsFirst, releaseStationSources_sources, releaseStationClaims_sources]
  · rw [massRelease_sourcesFirst, releaseStationClaims_sources, releaseStationSources_sources]

theorem massRelease_peers (order : ReleaseOrder) (st : StationId) (s : State) (k : Slot) :
    ((massRelease order st s).slot k).peers = (s.slot k).peers.filter fun p => p.station != st := by
  cases order
  · rw [massRelease_claimsFirst, releaseStationSources_peers, releaseStationClaims_peers]
  · rw [massRelease_sourcesFirst, releaseStationClaims_peers, releaseStationSources_peers]

theorem massRelease_selections (order : ReleaseOrder) (st : StationId) (s : State) :
    SelectionsLost (fun _ st' => st' = st) s (massRelease order st s) := by
  have hsources (u : State) : SelectionsLost (fun _ st' => st' = st) u (releaseStationSources st u) :=
    (removeSources_selections _ u).mono fun _ _ ⟨_, _, hgone, _, hst⟩ => hst ▸ eq_of_beq hgone
  have hclaims (u : State) : SelectionsLost (fun _ st' => st' = st) u (releaseStationClaims st u) :=
    .of_same (peerEvent_selected 0 _ u)
  cases order
  · exact (hclaims s).trans (hsources _)
  · exact (hsources s).trans (hclaims _)

/-! ### The neighbour list takes a frame (R57 to R62) -/

/-- s with another neighbour list. -/
def State.listed (ns : List Neighbour) (o : Bool) (s : State) : State := { s with neighbours := ns, neighbourOverflow := o }

section listed
variable (ns : List Neighbour) (o : Bool) (s : State)
theorem listed_slot (k : Slot) : (s.listed ns o).slot k = s.slot k := rfl
theorem listed_path (j : PathIx) : (s.listed ns o).path j = s.path j := rfl
theorem listed_sources : (s.listed ns o).sources = s.sources := rfl
theorem listed_neighbours : (s.listed ns o).neighbours = ns := rfl
end listed

/-- t is s after the neighbour list has taken a frame and has ordered the mass release of a station or of none. -/
structure Taken (released : Option StationId) (s t : State) : Prop where
  frame : ActFrame (s.listed t.neighbours t.neighbourOverflow) t
  peers : ∀ k, (t.slot k).peers = (s.slot k).peers.filter fun p => some p.station != released
  sources : t.sources = s.sources.filter fun e => some e.station != released
  selections : SelectionsLost (fun _ st => some st = released) s t

theorem taken_none (ns : List Neighbour) (o : Bool) (s : State) : Taken none s (s.listed ns o) where
  frame := rfl
  peers k := by
    rw [listed_slot]
    exact (List.filter_eq_self.mpr fun _ _ => rfl).symm
  sources := by
    rw [listed_sources]
    exact (List.filter_eq_self.mpr fun _ _ => rfl).symm
  selections := .of_same fun j => by rw [listed_path]

theorem some_station_bne (a b : StationId) : (some a != some b) = (a != b) := by
  rw [Bool.eq_iff_iff]
  simp

/-- A mass release on a list that has dropped some record, and then a change of the list (R59, R62). -/
theorem taken_release (order : ReleaseOrder) (st : StationId) (ns ns' : List Neighbour) (o o' : Bool) (s : State) :
    Taken (some st) s ((massRelease order st (s.listed ns o)).listed ns' o') where
  frame := by
    have hact := massRelease_act (s.listed ns o) order st
    generalize massRelease order st (s.listed ns o) = u at *
    rw [hact]
    rfl
  peers k := by
    rw [listed_slot, massRelease_peers, listed_slot]
    simp only [some_station_bne]
  sources := by
    rw [listed_sources, massRelease_sources, listed_sources]
    simp only [some_station_bne]
  selections j := by
    have hsel := massRelease_selections order st (s.listed ns o) j
    rw [listed_path] at hsel ⊢
    simpa using hsel

theorem NeighboursOrdered.unique {ns : List Neighbour} (h : NeighboursOrdered ns) {a b : Neighbour} (ha : a ∈ ns)
    (hb : b ∈ ns) (hst : a.station = b.station) : a = b :=
  List.inj_on_of_nodup_map (List.pairwise_map.mpr (h.imp fun {x y} hlt heq => by simp [heq] at hlt)) ha hb hst

theorem findNeighbour_of_mem {ns : List Neighbour} (h : NeighboursOrdered ns) {r : Neighbour} (hr : r ∈ ns)
    (hst : r.station = st) : findNeighbour st ns = some r := by
  cases hfind : findNeighbour st ns with
  | none => exact absurd hst (findNeighbour_none_iff.mp hfind r hr)
  | some x =>
    have hx := List.find?_some hfind
    rw [h.unique (List.mem_of_find?_eq_some hfind) hr ((eq_of_beq hx).trans hst.symm)]

theorem holdsNeighbour_of_mem {r : Neighbour} (hr : r ∈ s.neighbours) (hst : r.station = st) : holdsNeighbour s st = true := by
  rw [holdsNeighbour, Option.isSome_iff_ne_none, Ne, findNeighbour_none_iff]
  exact fun h => h r hr hst

theorem listed_self (s : State) : s.listed s.neighbours s.neighbourOverflow = s := rfl

theorem modNeighbour_eq (st : StationId) (g : Neighbour → Neighbour) (s : State) : modNeighbour st g s =
    s.listed (s.neighbours.map fun x => if x.station == st then g x else x) s.neighbourOverflow := rfl

theorem insertNeighbour_eq (r : Neighbour) (s : State) :
    insertNeighbour r s = s.listed (placeNeighbour r s.neighbours) false := rfl

theorem dropNeighbour_eq (st : StationId) (s : State) : dropNeighbour st s =
    s.listed (s.neighbours.filter fun r => r.station != st) s.neighbourOverflow := rfl

theorem takeNeighbour_known {order : ReleaseOrder} {f : Frame} {kind : FramerKind} {r : Neighbour}
    (hfind : findNeighbour f.station s.neighbours = some r) (hnet : r.network = f.network) :
    takeNeighbour order f kind s = s.listed
      (s.neighbours.map fun x => if x.station == f.station then x.refresh s.now f kind else x) s.neighbourOverflow := by
  simp only [takeNeighbour, hfind, hnet, beq_self_eq_true, if_true]
  rfl

theorem takeNeighbour_afresh {order : ReleaseOrder} {f : Frame} {kind : FramerKind} {r : Neighbour}
    (hfind : findNeighbour f.station s.neighbours = some r) (hnet : r.network ≠ f.network) :
    takeNeighbour order f kind s = (massRelease order f.station (s.listed s.neighbours s.neighbourOverflow)).listed
      (s.neighbours.map fun x => if x.station == f.station then newNeighbour s.now f kind else x) s.neighbourOverflow := by
  have hact := massRelease_act s order f.station
  simp only [takeNeighbour, hfind, beq_eq_false_iff_ne.mpr hnet, Bool.false_eq_true, if_false]
  rw [modNeighbour_eq, hact.neighbours_eq, hact.neighbourOverflow_eq, listed_self]

theorem takeNeighbour_room {order : ReleaseOrder} {f : Frame} {kind : FramerKind}
    (hnew : ∀ r ∈ s.neighbours, r.station ≠ f.station) (hroom : s.neighbours.length < 24) :
    takeNeighbour order f kind s = s.listed (placeNeighbour (newNeighbour s.now f kind) s.neighbours) false := by
  simp only [takeNeighbour, findNeighbour_none_iff.mpr hnew]
  rw [if_pos (by exact hroom), insertNeighbour_eq]

theorem takeNeighbour_evicts {order : ReleaseOrder} {f : Frame} {kind : FramerKind} {c : Neighbour}
    (hnew : ∀ r ∈ s.neighbours, r.station ≠ f.station) (hfull : s.neighbours.length = 24)
    (hc : replacementCandidate s.now s.neighbours = some c) (hage : 10000 < age s.now c.lastHeard) :
    takeNeighbour order f kind s = (massRelease order c.station
        (s.listed (s.neighbours.filter fun r => r.station != c.station) s.neighbourOverflow)).listed
      (placeNeighbour (newNeighbour s.now f kind) (s.neighbours.filter fun r => r.station != c.station)) false := by
  simp only [takeNeighbour, findNeighbour_none_iff.mpr hnew, meetFullList, hc]
  rw [if_neg (by rw [hfull]; decide), if_pos (by exact hage), insertNeighbour_eq, massRelease_neighbours, dropNeighbour_eq,
    listed_neighbours]

/-- A frame of a station that the list then holds (R57 to R62). -/
theorem takeNeighbour_taken {order : ReleaseOrder} {f : Frame} {kind : FramerKind} {released : Option StationId}
    (hord : NeighboursOrdered s.neighbours) (h : FrameHeld s f released) :
    Taken released s (takeNeighbour order f kind s) ∧ holdsNeighbour (takeNeighbour order f kind s) f.station = true := by
  obtain ⟨r, hr, hst, rfl⟩ | ⟨hnew, ⟨hroom, rfl⟩ | ⟨hfull, c, hc, hage, rfl⟩⟩ := h
  · have hfind := findNeighbour_of_mem hord hr hst
    split
    · rename_i hnet
      rw [takeNeighbour_known hfind hnet]
      refine ⟨taken_none _ _ s, holdsNeighbour_of_mem (r := r.refresh s.now f kind) ?_ hst⟩
      exact List.mem_map.mpr ⟨r, hr, by rw [if_pos (by simp [hst])]⟩
    · rename_i hnet
      rw [takeNeighbour_afresh hfind hnet]
      refine ⟨taken_release order f.station _ _ _ _ s, holdsNeighbour_of_mem (r := newNeighbour s.now f kind) ?_ rfl⟩
      exact List.mem_map.mpr ⟨r, hr, by rw [if_pos (by simp [hst])]⟩
  · rw [takeNeighbour_room hnew hroom]
    exact ⟨taken_none _ _ s, holdsNeighbour_of_mem (mem_placeNeighbour.mpr (.inl rfl)) rfl⟩
  · rw [takeNeighbour_evicts hnew hfull hc hage]
    exact ⟨taken_release order c.station _ _ _ _ s, holdsNeighbour_of_mem (mem_placeNeighbour.mpr (.inl rfl)) rfl⟩

/-! ### The source table takes a frame (R68 to R72) -/

theorem takeSourceFrame_peers (f : Frame) (heard : Slot) (noise : Nat) (latest : Option Nat) (s : State) (k : Slot) :
    ((takeSourceFrame f heard noise latest s).slot k).peers = (s.slot k).peers := by
  have hwith (es : List Source) : State.slot { s with sources := es } k = s.slot k := rfl
  unfold takeSourceFrame
  split
  · split
    · rw [hwith]
    · rfl
  · split
    · rw [(Acts.noticeChanged _ _).peers_eq, modSource, hwith]
    · exact removeSources_peers _ s k

/-- The match rule (R68). -/
theorem matchesCarry_iff (s : State) (f : Frame) : matchesCarry s f = true ↔
    (∃ j : PathIx, (s.carryOf j).enabled = true ∧ (s.carryOf j).programme = f.programme) ∧
      (f.network = s.params.networkId ∨ (f.openFlag = true ∧ s.params.acceptOpen = true)) := by
  simp [matchesCarry, carried, mem_indices]

theorem takeSourceFrame_updates {f : Frame} {heard : Slot} {noise : Nat} {latest : Option Nat} {x : Source}
    (hm : matchesCarry s f = true) (hfind : findSource heard f.station s.sources = some x) :
    BarsOnly heard f.station (s.sources.map fun e =>
        if e.slot = heard ∧ e.station = f.station then updateSource s f noise latest e else e)
      (takeSourceFrame f heard noise latest s).sources := by
  obtain ⟨-, hslot, hst⟩ := findSource_some hfind
  have hbars := noticeChanged_bars (updateSource s f noise latest x)
    (modSource heard f.station (updateSource s f noise latest) s)
  have hmap : (modSource heard f.station (updateSource s f noise latest) s).sources = s.sources.map fun e =>
      if e.slot = heard ∧ e.station = f.station then updateSource s f noise latest e else e :=
    List.map_congr_left fun e _ => by simp only [hasKey_iff]
  obtain ⟨hkslot, hkst⟩ := updateSource_key s f noise latest x
  rw [hkslot, hkst, hslot, hst, hmap] at hbars
  simp only [takeSourceFrame, hfind, hm, if_true]
  exact hbars

theorem takeSourceFrame_admits {f : Frame} {heard : Slot} {noise : Nat} {latest : Option Nat}
    (hm : matchesCarry s f = true) (hfind : findSource heard f.station s.sources = none) :
    (takeSourceFrame f heard noise latest s).sources = admitSource s (newSource s f heard noise latest) := by
  simp only [takeSourceFrame, hfind, hm, if_true]

theorem takeSourceFrame_removes {f : Frame} {heard : Slot} {noise : Nat} {latest : Option Nat}
    (hm : matchesCarry s f = false) : (takeSourceFrame f heard noise latest s).sources =
      s.sources.filter fun e => !(e.hasKey heard f.station) := by
  unfold takeSourceFrame
  split
  · rename_i hnone
    rw [hm, if_neg (by decide), List.filter_eq_self.mpr fun e he => ?_]
    rw [findSource_none hnone e he]
    rfl
  · rw [hm, if_neg (by decide)]
    exact removeSources_sources fun a _ b _ ha hslot hst => by
      rw [hasKey_iff] at ha ⊢
      exact ⟨hslot ▸ ha.1, hst ▸ ha.2⟩

end Sys2Proof.Machine
end
section
/-! PROOFS. A good frame on its way through the neighbour list and the two tables: the list's records (O26), the peer claims
(O27) and the source entry (O29). -/

namespace Sys2Proof.Machine

open Sys2Proof

variable {s t u : State} {i j : PathIx} {k : Slot} {ix : FramerIx} {order : OutcomeOrder} {f : Frame} {noise : Nat}

/-! ### The rested framer -/

section rested
variable (ix : FramerIx) (o : FrameOutcome) (s : State)
@[simp] theorem rested_slot (k : Slot) : (s.rested ix o).slot k = s.slot k := by cases ix <;> rfl
@[simp] theorem rested_slots : (s.rested ix o).slots = s.slots := by cases ix <;> rfl
@[simp] theorem rested_path (j : PathIx) : (s.rested ix o).path j = s.path j := by cases ix <;> rfl
@[simp] theorem rested_paths : (s.rested ix o).paths = s.paths := by cases ix <;> rfl
@[simp] theorem rested_wait (j : PathIx) : (s.rested ix o).wait j = s.wait j := by cases ix <;> rfl
@[simp] theorem rested_carryOf (j : PathIx) : (s.rested ix o).carryOf j = s.carryOf j := by cases ix <;> rfl
@[simp] theorem rested_sources : (s.rested ix o).sources = s.sources := by cases ix <;> rfl
@[simp] theorem rested_neighbours : (s.rested ix o).neighbours = s.neighbours := by cases ix <;> rfl
@[simp] theorem rested_overflow : (s.rested ix o).neighbourOverflow = s.neighbourOverflow := by cases ix <;> rfl
@[simp] theorem rested_params : (s.rested ix o).params = s.params := by cases ix <;> rfl
@[simp] theorem rested_tuning : (s.rested ix o).tuning = s.tuning := by cases ix <;> rfl
@[simp] theorem rested_now : (s.rested ix o).now = s.now := by cases ix <;> rfl
@[simp] theorem rested_dwell : (s.rested ix o).survey.dwell = s.survey.dwell := by cases ix <;> rfl
@[simp] theorem rested_rxOf (jx : FramerIx) : (s.rested ix o).rxOf jx = s.rxOf jx := by cases ix <;> cases jx <;> rfl
@[simp] theorem rested_rxSide (j : PathIx) : (s.rested ix o).rxSide j = s.rxSide j := by cases ix <;> rfl
@[simp] theorem rested_permitted : (s.rested ix o).claimingPermitted = s.claimingPermitted := by cases ix <;> rfl
@[simp] theorem rested_gov : (s.rested ix o).gov = s.gov := by cases ix <;> rfl
end rested

/-! ### The way of a good frame (R42) -/

/-- The end of a dwell in LISTENING by a frame of the survey framer (R51). -/
def settleDwell (ix : FramerIx) (s : State) : State := if ix = .survey then dwellFrame s else s

theorem dwellFrame_eq (s : State) : dwellFrame s = { s with survey := (dwellFrame s).survey } := by
  unfold dwellFrame
  split
  · rfl
  · split <;> rfl

theorem settleDwell_eq (ix : FramerIx) (s : State) : settleDwell ix s = { s with survey := (settleDwell ix s).survey } := by
  unfold settleDwell
  split
  · exact dwellFrame_eq s
  · rfl

section settleDwell
variable (ix : FramerIx) (s : State)
@[simp] theorem settleDwell_slot (k : Slot) : (settleDwell ix s).slot k = s.slot k := by rw [settleDwell_eq]; rfl
@[simp] theorem settleDwell_path (j : PathIx) : (settleDwell ix s).path j = s.path j := by rw [settleDwell_eq]; rfl
@[simp] theorem settleDwell_wait (j : PathIx) : (settleDwell ix s).wait j = s.wait j := by rw [settleDwell_eq]; rfl
@[simp] theorem settleDwell_sources : (settleDwell ix s).sources = s.sources := by rw [settleDwell_eq]
@[simp] theorem settleDwell_slots : (settleDwell ix s).slots = s.slots := by rw [settleDwell_eq]
@[simp] theorem settleDwell_paths : (settleDwell ix s).paths = s.paths := by rw [settleDwell_eq]
@[simp] theorem settleDwell_tuning : (settleDwell ix s).tuning = s.tuning := by rw [settleDwell_eq]
@[simp] theorem settleDwell_neighbours : (settleDwell ix s).neighbours = s.neighbours := by rw [settleDwell_eq]
@[simp] theorem settleDwell_overflow : (settleDwell ix s).neighbourOverflow = s.neighbourOverflow := by rw [settleDwell_eq]
end settleDwell

theorem settleDwell_dwell_none (h : s.survey.dwell = none) : (settleDwell ix s).survey.dwell = none := by
  unfold settleDwell
  split
  · rw [dwellFrame, h]; exact h
  · exact h

theorem settleDwell_dwell_some {d : Dwell} (h : s.survey.dwell = some d) :
    (settleDwell ix s).survey.dwell = if ix = .survey ∧ d.phase = .listening then none else some d := by
  unfold settleDwell
  by_cases hix : ix = .survey
  · rw [if_pos hix, dwellFrame, h]
    by_cases hp : d.phase = .listening
    · rw [if_pos ⟨hix, hp⟩]
      simp [hp, endDwell]
    · rw [if_neg fun hc => hp hc.2]
      simp [hp, h]
  · rw [if_neg hix, if_neg fun hc => hix hc.1, h]

theorem framerOutcome_good {bs : List Byte} (ho : (s.framer ix).outcome = some (.good bs noise)) (hix : ix ≠ .monitor)
    (hst : s.station = .listen ∨ s.station = .running) (hown : (readFrame bs).station ≠ s.params.stationId) :
    framerOutcome ix order s =
      settleDwell ix (routeOther ix order (readFrame bs) noise (s.rested ix (.good bs noise))) := by
  have hroute : routeGood ix order bs noise (s.rested ix (.good bs noise)) =
      settleDwell ix (routeOther ix order (readFrame bs) noise (s.rested ix (.good bs noise))) := by
    unfold routeGood
    dsimp only
    rw [if_neg (by simpa using hown)]
    cases ix with
    | path i => rfl
    | survey => rfl
    | monitor => exact absurd rfl hix
  rw [framerOutcome_listening ho hst, ← hroute]
  cases ix with
  | path i => rfl
  | survey => rfl
  | monitor => exact absurd rfl hix

/-! ### A frame of a held station (R42) -/

/-- The state behind the slot claim table's act on a frame. -/
def State.claimsTaken (ix : FramerIx) (c : Nat) (f : Frame) (s : State) : State := takeClaims c f.station f.claims (heardBy s ix) s

/-- The state behind the source table's act on a frame. -/
def State.sourceTaken (ix : FramerIx) (c : Nat) (f : Frame) (noise : Nat) (s : State) : State :=
  takeSourceFrame f (heardBy s ix) noise (latestMeasurement (s.claimsTaken ix c f) ix) (s.claimsTaken ix c f)

theorem routeHeld_survey (c : Nat) (s : State) : routeHeld .survey c f noise s = s.sourceTaken .survey c f noise := rfl

theorem routeHeld_path (i : PathIx) (c : Nat) (s : State) : routeHeld (.path i) c f noise s =
    takeGoodFrame i f.station f.programme (heardBy s (.path i)) (s.sourceTaken (.path i) c f noise) := rfl

theorem claimsTaken_act (ix : FramerIx) (c : Nat) (f : Frame) (s : State) : ActFrame s (s.claimsTaken ix c f) :=
  takeClaims_act s c f.station f.claims (heardBy s ix)

theorem claimsTaken_sources (ix : FramerIx) (c : Nat) (f : Frame) (s : State) : (s.claimsTaken ix c f).sources = s.sources := by
  unfold State.claimsTaken takeClaims
  exact peerEvent_sources _ _ s

theorem claimsTaken_peers (ix : FramerIx) (c : Nat) (f : Frame) (s : State) (k : Slot) :
    ((s.claimsTaken ix c f).slot k).peers = replacePeer f.station f.claims (heardBy s ix)
      (laterS s.now s.params.neighbourTimeout) k (s.slot k).peers := by
  unfold State.claimsTaken takeClaims
  exact peerEvent_peers _ _ s k

theorem claimsTaken_selections (ix : FramerIx) (c : Nat) (f : Frame) (s : State) (removed : Slot → StationId → Prop) :
    SelectionsLost removed s (s.claimsTaken ix c f) := by
  unfold State.claimsTaken takeClaims
  exact .of_same (peerEvent_selected _ _ s)

theorem acquire_sources (ha : acquiring (s.path i).state = true) : (acquire i s).sources = s.sources := by
  rw [acquire_eq]
  split
  · exact acquireAct_sources s i
  · rename_i hsw
    have hon : (s.path i).state ≠ .on := fun h => by simp [h, acquiring] at ha
    have hw : ((acquireAct i s).path i).state = .waitSlot := by
      rw [acquireAct_path_self hon]
      exact if_neg hsw
    rw [(chooseAndClaim_served hw).sources, acquireAct_sources]

theorem takeGoodFrame_sources (i : PathIx) (st : StationId) (pr : ProgrammeId) (heard : Slot) (s : State) :
    (takeGoodFrame i st pr heard s).sources = s.sources := by
  unfold takeGoodFrame
  split
  · split
    · rename_i ha
      split
      · rw [acquire_sources ha]
      · rfl
    · split <;> rfl
  · rfl

theorem routeHeld_sources (ix : FramerIx) (hix : ix ≠ .monitor) (c : Nat) (f : Frame) (noise : Nat) (s : State) :
    (routeHeld ix c f noise s).sources = (s.sourceTaken ix c f noise).sources := by
  cases ix with
  | path i => rw [routeHeld_path, takeGoodFrame_sources]
  | survey => rw [routeHeld_survey]
  | monitor => exact absurd rfl hix

theorem routeHeld_peers (ix : FramerIx) (hix : ix ≠ .monitor) (c : Nat) (f : Frame) (noise : Nat) (s : State) (k : Slot) :
    ((routeHeld ix c f noise s).slot k).peers = replacePeer f.station f.claims (heardBy s ix)
      (laterS s.now s.params.neighbourTimeout) k (s.slot k).peers := by
  have hsource : ((s.sourceTaken ix c f noise).slot k).peers = replacePeer f.station f.claims (heardBy s ix)
      (laterS s.now s.params.neighbourTimeout) k (s.slot k).peers := by
    rw [State.sourceTaken, takeSourceFrame_peers, claimsTaken_peers]
  cases ix with
  | path i => rw [routeHeld_path, (Acts.takeGoodFrame _ _ _ _ _).peers_eq, hsource]
  | survey => rw [routeHeld_survey, hsource]
  | monitor => exact absurd rfl hix

theorem ActFrame.rxOf_eq (h : ActFrame s t) (ix : FramerIx) : t.rxOf ix = s.rxOf ix := by
  cases ix with
  | path i => exact congrArg (fun r => r[i.val]) h.rx_eq
  | survey => exact congrArg Survey.rx h.survey_eq
  | monitor => exact h.mon_rx_eq

theorem ActFrame.latest_eq (h : ActFrame s t) (ix : FramerIx) : latestMeasurement t ix = latestMeasurement s ix := by
  cases ix with
  | path i => exact congrArg (fun r => (r[i.val]).latest) h.rx_eq
  | survey => exact congrArg (fun w : Survey => w.dwell.bind fun d => d.latest) h.survey_eq
  | monitor => rfl

theorem ActFrame.carryOf_eq (h : ActFrame s t) (j : PathIx) : t.carryOf j = s.carryOf j := by
  simp only [State.carryOf, h.carry_eq]

/-! ### The entry that a full table gives up (R70) -/

section fold
variable {α : Type} (better : α → α → Bool)

/-- The choice of one entry, with each next one taken in its place when it is better. -/
def pick (best : Option α) (e : α) : Option α := match best with
  | none => some e
  | some a => if better a e then some e else some a

theorem foldl_pick_some (l : List α) (a : α) : ∃ b, l.foldl (pick better) (some a) = some b := by
  induction l generalizing a with
  | nil => exact ⟨a, rfl⟩
  | cons x l ih =>
    rw [List.foldl_cons, pick]
    split
    · exact ih x
    · exact ih a

theorem foldl_pick_keeps {l : List α} {v : α} (h : ∀ b ∈ l, better v b = false) :
    l.foldl (pick better) (some v) = some v := by
  induction l with
  | nil => rfl
  | cons x l ih =>
    rw [List.foldl_cons, pick, if_neg (by simp [h x List.mem_cons_self])]
    exact ih fun b hb => h b (List.mem_cons_of_mem x hb)

theorem mem_of_foldl_pick {l : List α} {o : Option α} {c : α} (h : l.foldl (pick better) o = some c) : c ∈ l ∨ o = some c :=
  mem_of_foldl_choice (fun b e => by
    cases b with
    | none => exact .inl rfl
    | some a =>
      rw [pick]
      split
      · exact .inl rfl
      · exact .inr rfl) l o h

/-- The choice falls on the entry that beats all before it and yields to none behind it. -/
theorem foldl_pick_eq {l₁ l₂ : List α} {v : α} (hbefore : ∀ a ∈ l₁, better a v = true) (hbehind : ∀ b ∈ l₂, better v b = false) :
    (l₁ ++ v :: l₂).foldl (pick better) none = some v := by
  rw [List.foldl_append, List.foldl_cons]
  have hv : pick better (l₁.foldl (pick better) none) v = some v := by
    cases hb : l₁.foldl (pick better) none with
    | none => rfl
    | some a =>
      rw [pick, if_pos (hbefore a ((mem_of_foldl_pick better hb).resolve_right (by simp)))]
  rw [hv, foldl_pick_keeps better hbehind]

end fold

theorem replacementVictim_eq (s : State) : replacementVictim s =
    (s.sources.filter fun e => !isSelected s e).foldl (pick (removedBefore s.now)) none := by
  unfold replacementVictim
  congr 1
  funext best e
  cases best <;> rfl

theorem replacementVictim_some {v : Source} (hv : v ∈ s.sources) (hsel : isSelected s v = false) :
    ∃ c, replacementVictim s = some c := by
  rw [replacementVictim_eq]
  cases hl : s.sources.filter fun e => !isSelected s e with
  | nil =>
    have hmem : v ∈ s.sources.filter fun e => !isSelected s e := List.mem_filter.mpr ⟨hv, by rw [hsel]; rfl⟩
    rw [hl] at hmem
    cases hmem
  | cons x l => exact foldl_pick_some _ l x

theorem keyBefore_asymm {a b : Source} (h : keyBefore a b = true) : keyBefore b a = false := by
  rw [Bool.eq_false_iff]
  intro hba
  have hne := keyBefore_ne (keyBefore_trans a b a h hba)
  simp [Source.hasKey] at hne

/-- The entry given up is the one of the lowest quality, then the oldest, then the last in order (R70). -/
theorem replacementVictim_of_worst (hord : SourcesOrdered s.sources) {v : Source} (hv : v ∈ s.sources)
    (hsel : isSelected s v = false) (hworst : ∀ x ∈ s.sources, isSelected s x = false → x ≠ v → v.quality < x.quality ∨
      (v.quality = x.quality ∧ (age s.now x.lastHeard < age s.now v.lastHeard ∨
        (age s.now x.lastHeard = age s.now v.lastHeard ∧ keyBefore x v = true)))) : replacementVictim s = some v := by
  have hmem : v ∈ s.sources.filter fun e => !isSelected s e := List.mem_filter.mpr ⟨hv, by rw [hsel]; rfl⟩
  obtain ⟨l₁, l₂, hl⟩ := List.append_of_mem hmem
  have hpair : (l₁ ++ v :: l₂).Pairwise fun a b => keyBefore a b = true := hl ▸ hord.filter _
  have hin {x : Source} (hx : x ∈ l₁ ++ v :: l₂) : x ∈ s.sources ∧ isSelected s x = false := by
    rw [← hl] at hx
    simpa using hx
  obtain ⟨-, hbehind, hcross⟩ := List.pairwise_append.mp hpair
  rw [replacementVictim_eq, hl]
  refine foldl_pick_eq _ (fun a ha => ?_) fun b hb => ?_
  · have hkey := hcross a ha v List.mem_cons_self
    obtain ⟨hain, hasel⟩ := hin (List.mem_append_left _ ha)
    have hne : a ≠ v := by
      rintro rfl
      rw [keyBefore_asymm hkey] at hkey
      cases hkey
    obtain hq | ⟨hq, hage⟩ := hworst a hain hasel hne
    · simp [removedBefore, hq, hq.ne]
    · have hle : age s.now a.lastHeard ≤ age s.now v.lastHeard := by
        obtain h | ⟨h, -⟩ := hage
        · exact le_of_lt h
        · exact le_of_eq h
      simp [removedBefore, hq, hle]
  · have hkey := (List.pairwise_cons.mp hbehind).1 b hb
    obtain ⟨hbin, hbsel⟩ := hin (List.mem_append_right _ (List.mem_cons_of_mem v hb))
    have hne : b ≠ v := by
      rintro rfl
      rw [keyBefore_asymm hkey] at hkey
      cases hkey
    obtain hq | ⟨hq, hage⟩ := hworst b hbin hbsel hne
    · simp [removedBefore, hq.ne', hq.le]
    · have hlt : age s.now b.lastHeard < age s.now v.lastHeard := by
        obtain h | ⟨-, h⟩ := hage
        · exact h
        · rw [keyBefore_asymm hkey] at h
          cases h
      simp [removedBefore, hq, hlt]

/-! ### The source table's entries after a frame (R68 to R72) -/

theorem mem_placeSource_iff {e x : Source} {es : List Source} : x ∈ placeSource e es ↔ x = e ∨ x ∈ es := by
  rw [placeSource_eq, List.mem_orderedInsert]

section entry

variable {heard : Slot} {latest : Option Nat}

/-- The entry of a slot and a station. -/
abbrev Source.Of (heard : Slot) (f : Frame) (e : Source) : Prop := e.slot = heard ∧ e.station = f.station

theorem sourceFrame_unmatched (hm : matchesCarry s f = false) (e : Source) :
    e ∈ (takeSourceFrame f heard noise latest s).sources ↔ e ∈ s.sources ∧ ¬e.Of heard f := by
  rw [takeSourceFrame_removes hm, List.mem_filter, Bool.not_eq_true', Bool.eq_false_iff, Ne, hasKey_iff]

theorem findSource_eq_none (h : ∀ x ∈ s.sources, ¬x.Of heard f) : findSource heard f.station s.sources = none := by
  cases hfind : findSource heard f.station s.sources with
  | none => rfl
  | some x =>
    obtain ⟨hx, hkey⟩ := findSource_some hfind
    exact absurd hkey (h x hx)

theorem findSource_eq_some {x : Source} (hx : x ∈ s.sources) (hmine : x.Of heard f) :
    ∃ y, findSource heard f.station s.sources = some y := by
  cases hfind : findSource heard f.station s.sources with
  | some y => exact ⟨y, rfl⟩
  | none =>
    have hno := findSource_none hfind x hx
    rw [(hasKey_iff _ _ _).mpr hmine] at hno
    cases hno

theorem admitSource_room {e : Source} (h : s.sources.length < 32) : admitSource s e = placeSource e s.sources := by
  rw [admitSource, if_pos (by exact h)]

theorem admitSource_full {e v : Source} (h : s.sources.length = 32) (hv : replacementVictim s = some v) :
    admitSource s e = placeSource e (s.sources.filter fun x => !x.hasKey v.slot v.station) := by
  rw [admitSource, if_neg (by rw [h]; decide), hv]

theorem sourceFrame_others_updated {x : Source} (hm : matchesCarry s f = true) (hx : x ∈ s.sources) (hmine : x.Of heard f)
    {e : Source} (he : ¬e.Of heard f) : e ∈ (takeSourceFrame f heard noise latest s).sources ↔ e ∈ s.sources := by
  obtain ⟨y, hfind⟩ := findSource_eq_some hx hmine
  rw [(takeSourceFrame_updates hm hfind).mem_iff he, List.mem_map]
  constructor
  · rintro ⟨z, hz, rfl⟩
    split at he
    · rename_i hkey
      exact absurd hkey he
    · rename_i hkey
      rwa [if_neg hkey]
  · exact fun h => ⟨e, h, if_neg he⟩

theorem sourceFrame_others_room (hm : matchesCarry s f = true) (hnone : ∀ x ∈ s.sources, ¬x.Of heard f)
    (hroom : s.sources.length < 32) {e : Source} (he : ¬e.Of heard f) :
    e ∈ (takeSourceFrame f heard noise latest s).sources ↔ e ∈ s.sources := by
  rw [takeSourceFrame_admits hm (findSource_eq_none hnone), admitSource_room hroom, mem_placeSource_iff]
  refine or_iff_right ?_
  rintro rfl
  exact he ⟨rfl, rfl⟩

theorem sourceFrame_others_full (hord : SourcesOrdered s.sources) (hm : matchesCarry s f = true)
    (hnone : ∀ x ∈ s.sources, ¬x.Of heard f) (hfull : s.sources.length = 32) {v : Source} (hv : v ∈ s.sources)
    (hvictim : replacementVictim s = some v) {e : Source} (he : ¬e.Of heard f) :
    e ∈ (takeSourceFrame f heard noise latest s).sources ↔ e ∈ s.sources ∧ e ≠ v := by
  rw [takeSourceFrame_admits hm (findSource_eq_none hnone), admitSource_full hfull hvictim, mem_placeSource_iff, List.mem_filter]
  have hkey (hmem : e ∈ s.sources) : (!e.hasKey v.slot v.station) = true ↔ e ≠ v := by
    rw [Bool.not_eq_true', Bool.eq_false_iff, Ne, hasKey_iff]
    refine not_congr ⟨fun ⟨hs, hst⟩ => hord.eq_of_key_eq hmem hv hs hst, ?_⟩
    rintro rfl
    exact ⟨rfl, rfl⟩
  refine ⟨fun h => ?_, fun ⟨hmem, hne⟩ => .inr ⟨hmem, (hkey hmem).mpr hne⟩⟩
  obtain rfl | ⟨hmem, hk⟩ := h
  · exact absurd ⟨rfl, rfl⟩ he
  · exact ⟨hmem, (hkey hmem).mp hk⟩

/-- What a frame writes into its entry, with the measurement it takes (R69, R71, R73, R78). -/
structure EntryWritten (p : Params) (now : Time) (f : Frame) (latest : Option Nat) (e : Source) : Prop where
  programme : e.programme = f.programme
  depth : e.depth = f.depth
  upstream : e.upstream = if f.depth = 0 then none else some f.upstream
  absent : e.absent = f.absent
  lastHeard : e.lastHeard = now
  quality : e.quality = if f.absent then 0 else min e.levelGrade e.integrityGrade
  level : ∀ m, latest = some m → e.m = m ∧ e.levelGrade = levelGrade p m

theorem upstreamOf_eq (f : Frame) : f.upstreamOf = if f.depth = 0 then none else some f.upstream := by
  simp [Frame.upstreamOf]

theorem newSource_written (s : State) (f : Frame) (heard : Slot) (noise : Nat) (latest : Option Nat) :
    EntryWritten s.params s.now f latest (newSource s f heard noise latest) where
  programme := rfl
  depth := rfl
  upstream := upstreamOf_eq f
  absent := rfl
  lastHeard := rfl
  quality := rfl
  level m hm := by
    subst hm
    exact ⟨rfl, rfl⟩

theorem updateSource_written (s : State) (f : Frame) (noise : Nat) (latest : Option Nat) (x : Source) (b : Option Time) :
    EntryWritten s.params s.now f latest { updateSource s f noise latest x with barredUntil := b } where
  programme := rfl
  depth := rfl
  upstream := upstreamOf_eq f
  absent := rfl
  lastHeard := rfl
  quality := rfl
  level m hm := by
    subst hm
    exact ⟨rfl, rfl⟩

/-- Where the table admits the frame's station, its new entry stands. -/
theorem sourceFrame_new (hm : matchesCarry s f = true) (hnone : ∀ x ∈ s.sources, ¬x.Of heard f)
    (hroom : s.sources.length < 32 ∨ ∃ v ∈ s.sources, isSelected s v = false) :
    newSource s f heard noise latest ∈ (takeSourceFrame f heard noise latest s).sources := by
  rw [takeSourceFrame_admits hm (findSource_eq_none hnone), admitSource]
  split
  · exact mem_placeSource_iff.mpr (.inl rfl)
  · rename_i hfull
    obtain hroom | ⟨v, hv, hsel⟩ := hroom
    · exact absurd hroom hfull
    · obtain ⟨c, hc⟩ := replacementVictim_some hv hsel
      rw [hc]
      exact mem_placeSource_iff.mpr (.inl rfl)

/-- An entry of the frame's key where none stood before is the new one. -/
theorem sourceFrame_only_new (hm : matchesCarry s f = true) (hnone : ∀ x ∈ s.sources, ¬x.Of heard f) {e : Source}
    (he : e ∈ (takeSourceFrame f heard noise latest s).sources) :
    e = newSource s f heard noise latest ∨ (e ∈ s.sources ∧ ¬e.Of heard f) := by
  rw [takeSourceFrame_admits hm (findSource_eq_none hnone)] at he
  obtain ⟨-, h⟩ | ⟨v, -, -, h⟩ | h := admitSource_cases s (newSource s f heard noise latest)
  · rw [h, mem_placeSource_iff] at he
    exact he.imp_right fun hmem => ⟨hmem, hnone e hmem⟩
  · rw [h, mem_placeSource_iff, List.mem_filter] at he
    exact he.imp_right fun hmem => ⟨hmem.1, hnone e hmem.1⟩
  · rw [h] at he
    exact .inr ⟨he, hnone e he⟩

theorem sourceFrame_updated {x : Source} (hm : matchesCarry s f = true) (hx : x ∈ s.sources) (hmine : x.Of heard f) :
    ∃ b, { updateSource s f noise latest x with barredUntil := b } ∈ (takeSourceFrame f heard noise latest s).sources := by
  obtain ⟨y, hfind⟩ := findSource_eq_some hx hmine
  exact (takeSourceFrame_updates hm hfind).exists_key (List.mem_map.mpr ⟨x, hx, if_pos hmine⟩)

end entry

/-! ### A good frame of a station that the list holds after it -/

/-- The state before the source table's act on a frame, as far as that act and the statements read it. -/
structure BeforeSources (released : Option StationId) (s u : State) : Prop where
  sources : u.sources = s.sources.filter fun e => some e.station != released
  params : u.params = s.params
  now : u.now = s.now
  carry : ∀ j, u.carryOf j = s.carryOf j
  selected : ∀ e : Source, some e.station ≠ released → isSelected u e = isSelected s e

theorem listed_now (ns : List Neighbour) (o : Bool) (s : State) : (s.listed ns o).now = s.now := rfl
theorem listed_params (ns : List Neighbour) (o : Bool) (s : State) : (s.listed ns o).params = s.params := rfl
theorem listed_carryOf (ns : List Neighbour) (o : Bool) (s : State) (j : PathIx) :
    (s.listed ns o).carryOf j = s.carryOf j := rfl
theorem listed_rxOf (ns : List Neighbour) (o : Bool) (s : State) (ix : FramerIx) :
    (s.listed ns o).rxOf ix = s.rxOf ix := by cases ix <;> rfl
theorem listed_latest (ns : List Neighbour) (o : Bool) (s : State) (ix : FramerIx) :
    latestMeasurement (s.listed ns o) ix = latestMeasurement s ix := by cases ix <;> rfl

theorem rested_latest (ix : FramerIx) (o : FrameOutcome) (s : State) (jx : FramerIx) :
    latestMeasurement (s.rested ix o) jx = latestMeasurement s jx := by cases ix <;> cases jx <;> rfl

theorem rested_isSelected (ix : FramerIx) (o : FrameOutcome) (s : State) (e : Source) :
    isSelected (s.rested ix o) e = isSelected s e := by
  simp only [isSelected, rested_path]

theorem framerOutcome_held {bs : List Byte} {released : Option StationId} (ho : (s.framer ix).outcome = some (.good bs noise))
    (hix : ix ≠ .monitor) (hst : s.station = .listen ∨ s.station = .running)
    (hown : (readFrame bs).station ≠ s.params.stationId) (hord : NeighboursOrdered s.neighbours)
    (h : FrameHeld s (readFrame bs) released) :
    (∀ k, ((framerOutcome ix order s).slot k).peers = replacePeer (readFrame bs).station (readFrame bs).claims
      (heardSlot (s.rxOf ix).word) (laterS s.now s.params.neighbourTimeout) k
      ((s.slot k).peers.filter fun p => some p.station != released)) ∧
    ∃ u, BeforeSources released s u ∧ (framerOutcome ix order s).sources =
      (takeSourceFrame (readFrame bs) (heardSlot (s.rxOf ix).word) noise (latestMeasurement s ix) u).sources := by
  have hheld : FrameHeld (s.rested ix (.good bs noise)) (readFrame bs) released := by
    unfold FrameHeld
    simp only [rested_neighbours, rested_now]
    exact h
  obtain ⟨htaken, hholds⟩ := takeNeighbour_taken (order := order.release) (kind := kindOf ix)
    (s := s.rested ix (.good bs noise)) (by rw [rested_neighbours]; exact hord) hheld
  rw [framerOutcome_good ho hix hst hown, routeOther, if_pos hholds]
  generalize takeNeighbour order.release (readFrame bs) (kindOf ix) (s.rested ix (.good bs noise)) = v at *
  have hheard : heardBy v ix = heardSlot (s.rxOf ix).word := by
    rw [heardBy, htaken.frame.rxOf_eq, listed_rxOf, rested_rxOf]
  have hparams : v.params = s.params := by rw [htaken.frame.params_eq, listed_params, rested_params]
  have hnow : v.now = s.now := by rw [htaken.frame.now_eq, listed_now, rested_now]
  have hclaims := claimsTaken_act ix order.cancelAfter (readFrame bs) v
  refine ⟨fun k => ?_, v.claimsTaken ix order.cancelAfter (readFrame bs), ⟨?_, ?_, ?_, fun j => ?_, fun e he => ?_⟩, ?_⟩
  · rw [settleDwell_slot, routeHeld_peers ix hix, hheard, hparams, hnow, htaken.peers, rested_slot]
  · rw [claimsTaken_sources, htaken.sources, rested_sources]
  · rw [hclaims.params_eq, hparams]
  · rw [hclaims.now_eq, hnow]
  · rw [hclaims.carryOf_eq, htaken.frame.carryOf_eq, listed_carryOf, rested_carryOf]
  · rw [(claimsTaken_selections ix order.cancelAfter (readFrame bs) v fun _ _ => False).isSelected_eq id,
      htaken.selections.isSelected_eq he, rested_isSelected]
  · rw [settleDwell_sources, routeHeld_sources ix hix, State.sourceTaken, hheard, hclaims.latest_eq, htaken.frame.latest_eq,
      listed_latest, rested_latest]

/-! ### The peer list of a slot after a frame (R91) -/

theorem mem_placePeer {p q : Peer} {ps : List Peer} : q ∈ placePeer p ps ↔ q = p ∨ q ∈ ps := by
  rw [placePeer_eq, List.mem_orderedInsert]

theorem mem_dropLast_iff {ps : List Peer} (h : ps.Pairwise fun a b => a.station < b.station) {top : Peer}
    (htop : ps.getLast? = some top) {q : Peer} : q ∈ ps.dropLast ↔ q ∈ ps ∧ q ≠ top := by
  obtain ⟨l, rfl⟩ : ∃ l, ps = l ++ [top] := by
    rw [List.getLast?_eq_some_iff] at htop
    exact htop
  rw [List.dropLast_concat]
  obtain ⟨-, -, hcross⟩ := List.pairwise_append.mp h
  refine ⟨fun hq => ⟨List.mem_append_left _ hq, ?_⟩, fun ⟨hq, hne⟩ => ?_⟩
  · rintro rfl
    exact BitVec.lt_irrefl _ (hcross q hq q (by simp))
  · exact (List.mem_append.mp hq).resolve_right (by simpa using hne)

/-- What a frame's claim set says of a slot it holds (R91). -/
def claimedPeer (st : StationId) (listed : Option Claim) (heard k : Slot) (expiry : Time) : Peer :=
  { station := st, phase := if k = heard then .held else (listed.map fun c => c.phase).getD .held
    pinned := (listed.map fun c => c.pinned).getD false, expiry := expiry }

theorem replacePeer_unclaimed {st : StationId} {claims : List Claim} {heard k : Slot} {expiry : Time} {ps : List Peer}
    (hk : k ≠ heard) (hlist : claims.find? (fun c => c.slot == k) = none) :
    replacePeer st claims heard expiry k ps = ps.filter fun p => p.station != st := by
  simp [replacePeer, claimOn, hlist, hk, removePeer]

theorem replacePeer_claimed {st : StationId} {claims : List Claim} {heard k : Slot} {expiry : Time} {ps : List Peer}
    (h : k = heard ∨ (claims.find? (fun c => c.slot == k)).isSome = true) : replacePeer st claims heard expiry k ps =
      writePeer (claimedPeer st (claims.find? fun c => c.slot == k) heard k expiry) ps := by
  unfold replacePeer claimOn claimedPeer
  cases hf : claims.find? fun c => c.slot == k with
  | some c =>
    dsimp only
    by_cases hk : k = heard <;> simp [hk]
  | none =>
    rw [hf] at h
    have hk : k = heard := h.resolve_right (by simp)
    simp [hk]

theorem writePeer_held {p : Peer} {ps : List Peer} (h : ∃ q ∈ ps, q.station = p.station) :
    writePeer p ps = ps.map fun q => if q.station = p.station then p else q := by
  rw [writePeer, if_pos (by simpa using h)]
  exact List.map_congr_left fun q _ => by simp only [beq_iff_eq]

theorem writePeer_new {p : Peer} {ps : List Peer} (h : ∀ q ∈ ps, q.station ≠ p.station) : writePeer p ps = insertPeer p ps := by
  rw [writePeer, if_neg (by simpa using h)]

theorem mem_insertPeer_room {p q : Peer} {ps : List Peer} (h : ps.length < 4) : q ∈ insertPeer p ps ↔ q = p ∨ q ∈ ps := by
  rw [insertPeer, if_pos (by exact h), mem_placePeer]

theorem insertPeer_full {p top : Peer} {ps : List Peer} (h : ps.length = 4) (htop : ps.getLast? = some top) :
    insertPeer p ps = if p.station < top.station then placePeer p ps.dropLast else ps := by
  rw [insertPeer, if_neg (by rw [h]; decide), htop]

end Sys2Proof.Machine

namespace Sys2Proof

open Machine

/-- Settles O27: behind any mass release each slot's list takes what the frame's claim set says of it. -/
theorem goodFrameReplacesPeerClaims : Obligations.GoodFrameReplacesPeerClaims := by
  intro ix order bs noise released s ho hix hst hown htables hheld
  obtain ⟨-, -, ⟨-, hord⟩, -, -, -, hpeers⟩ := htables
  obtain ⟨hnew, -⟩ := framerOutcome_held (order := order) ho hix hst hown hord hheld
  rw [answers_iff, effect]
  intro k f heard listed claimed old new
  have hold : PeersOk old := (hpeers k).filter _
  have hnew : new = replacePeer f.station f.claims heard (laterS s.now s.params.neighbourTimeout) k old := hnew k
  refine ⟨fun hk hl => hnew.trans (replacePeer_unclaimed hk hl), fun hk => ?_⟩
  have hwritten : new = writePeer claimed old := hnew.trans (replacePeer_claimed hk)
  refine ⟨fun h => hwritten.trans (writePeer_held h), fun hno hroom p => ?_, fun hno hfull top htop => ⟨fun hlt => ?_, fun hlt p => ?_⟩⟩
  · rw [hwritten, writePeer_new hno, mem_insertPeer_room hroom]
  · rw [hwritten, writePeer_new hno, insertPeer_full hfull htop, if_neg (BitVec.not_lt.mpr (BitVec.le_of_lt hlt))]
  · rw [hwritten, writePeer_new hno, insertPeer_full hfull htop, if_pos (by exact hlt), mem_placePeer,
      mem_dropLast_iff hold.2 htop]

/-- Settles O29: behind any mass release the table removes, updates or admits the frame's entry. -/
theorem goodFrameSourceEntry : Obligations.GoodFrameSourceEntry := by
  intro ix order bs noise released s ho hix hst hown htables hheld
  obtain ⟨-, -, ⟨-, hord⟩, ⟨hlen, hsorted⟩, -, -, -⟩ := htables
  obtain ⟨-, u, hu, hes⟩ := framerOutcome_held (order := order) ho hix hst hown hord hheld
  rw [answers_iff, effect, hes]
  intro f heard latest target base mine fits
  have hlatest : latestMeasurement s ix = latest := by cases ix <;> rfl
  have hbase : u.sources = base := hu.sources
  have hfits : matchesCarry u f = true ↔ fits := by
    rw [matchesCarry_iff, hu.params]
    simp only [hu.carry]
    exact Iff.rfl
  have hsel {x : Source} (hx : x ∈ base) : isSelected u x = isSelected s x :=
    hu.selected x (by simpa [base] using (List.mem_filter.mp hx).2)
  have hbord : SourcesOrdered base := hsorted.filter _
  have hcap : base.length ≤ 32 := (List.length_filter_le _ _).trans hlen
  rw [hlatest]
  refine ⟨fun hn e => ?_, fun hf h e he => ?_, fun hf hnone hfull v hv hvsel hworst e he => ?_, fun hf h => ?_⟩
  · rw [sourceFrame_unmatched (Bool.eq_false_iff.mpr (mt hfits.mp hn)), hbase]
  · rw [← hbase] at h ⊢
    obtain ⟨x, hx, hmine⟩ | hroom := h
    · exact sourceFrame_others_updated (hfits.mpr hf) hx hmine he
    · by_cases hex : ∃ x ∈ u.sources, x.Of heard f
      · obtain ⟨x, hx, hmine⟩ := hex
        exact sourceFrame_others_updated (hfits.mpr hf) hx hmine he
      · exact sourceFrame_others_room (hfits.mpr hf) (fun x hx hmine => hex ⟨x, hx, hmine⟩) hroom he
  · have hvictim : replacementVictim u = some v := by
      refine replacementVictim_of_worst (by rw [hbase]; exact hbord) (by rw [hbase]; exact hv) ((hsel hv).trans hvsel)
        fun x hx hxsel hne => ?_
      rw [hbase] at hx
      rw [hu.now]
      exact hworst x hx ((hsel hx).symm.trans hxsel) hne
    rw [← hbase] at hnone hfull hv ⊢
    exact sourceFrame_others_full (by rw [hbase]; exact hbord) (hfits.mpr hf) hnone hfull hv hvictim he
  · by_cases hex : ∃ x ∈ base, mine x
    · obtain ⟨x, hx, hmine⟩ := hex
      obtain ⟨b, hmem⟩ := sourceFrame_updated (noise := noise) (latest := latest) (hfits.mpr hf) (by rw [hbase]; exact hx) hmine
      have hw := updateSource_written u f noise latest x b
      rw [hu.params, hu.now] at hw
      refine ⟨_, hmem, hmine, hw.programme, hw.depth, hw.upstream, hw.absent, hw.lastHeard, hw.quality, hw.level,
        fun hno => absurd hmine (hno x hx), fun y hy hymine => ?_⟩
      rw [hbord.eq_of_key_eq hy hx (hymine.1.trans hmine.1.symm) (hymine.2.trans hmine.2.symm)]
      rfl
    · have hnone : ∀ x ∈ u.sources, ¬x.Of heard f := fun x hx hmine => hex ⟨x, hbase ▸ hx, hmine⟩
      have hroom : u.sources.length < 32 ∨ ∃ v ∈ u.sources, isSelected u v = false := by
        rw [hbase]
        obtain h | h | ⟨v, hv, hvsel⟩ := h
        · exact absurd h hex
        · exact .inl h
        · exact .inr ⟨v, hv, (hsel hv).trans hvsel⟩
      have hw := newSource_written u f heard noise latest
      rw [hu.params, hu.now] at hw
      exact ⟨_, sourceFrame_new (hfits.mpr hf) hnone hroom, ⟨rfl, rfl⟩, hw.programme, hw.depth, hw.upstream, hw.absent,
        hw.lastHeard, hw.quality, hw.level, fun _ => ⟨rfl, rfl⟩, fun y hy hymine => absurd ⟨y, hy, hymine⟩ hex⟩

end Sys2Proof
end
section
/-! PROOFS. The neighbour list after a good frame: its records, the candidate of a full list and what a mass release leaves
(O26). -/

namespace Sys2Proof.Machine

open Sys2Proof

variable {s t u : State} {k : Slot} {ix : FramerIx} {order : OutcomeOrder} {f : Frame} {noise : Nat}

/-! ### The candidate of a full list (R59) -/

section fold
variable {α : Type} {better : α → α → Bool}

/-- With an order that is transitive and total on the list, the choice falls on the entry that beats every other. -/
theorem foldl_pick_best (htrans : ∀ a b c, better a b = true → better b c = true → better a c = true) (l : List α)
    (a : α) (htotal : ∀ x ∈ a :: l, ∀ y ∈ a :: l, x = y ∨ better x y = true ∨ better y x = true) {c : α}
    (h : l.foldl (pick better) (some a) = some c) : ∀ x ∈ a :: l, x = c ∨ better x c = true := by
  induction l generalizing a with
  | nil =>
    cases h
    exact fun x hx => .inl (by simpa using hx)
  | cons b l ih =>
    rw [List.foldl_cons, pick] at h
    have hin {x y : α} (hx : x = y ∨ x ∈ l) (hy : y ∈ a :: b :: l) : x ∈ a :: b :: l := by
      rcases hx with rfl | hx
      · exact hy
      · exact List.mem_cons_of_mem _ (List.mem_cons_of_mem _ hx)
    have hrest {y : α} (hy : y ∈ a :: b :: l) (hc : l.foldl (pick better) (some y) = some c) :
        ∀ x ∈ y :: l, x = c ∨ better x c = true :=
      ih y (fun x hx z hz => htotal x (hin (List.mem_cons.mp hx) hy) z (hin (List.mem_cons.mp hz) hy)) hc
    have hbeaten {x y : α} (hxy : better x y = true) (hy : y = c ∨ better y c = true) : better x c = true := by
      rcases hy with rfl | hy
      · exact hxy
      · exact htrans x y c hxy hy
    intro x hx
    split at h
    · rename_i hab
      have hall := hrest (y := b) (by simp) h
      obtain rfl | hx := List.mem_cons.mp hx
      · exact .inr (hbeaten hab (hall b List.mem_cons_self))
      · exact hall x hx
    · rename_i hab
      have hall := hrest (y := a) (by simp) h
      obtain rfl | hx := List.mem_cons.mp hx
      · exact hall x List.mem_cons_self
      · obtain rfl | hx := List.mem_cons.mp hx
        · obtain rfl | hba | hba := htotal x (by simp) a (by simp)
          · exact hall x List.mem_cons_self
          · exact .inr (hbeaten hba (hall a List.mem_cons_self))
          · exact absurd hba hab
        · exact hall x (List.mem_cons_of_mem a hx)

end fold

/-- Record c gives up its place before record r (R59). -/
abbrev GivesWay (now : Time) (c r : Neighbour) : Prop :=
  age now r.lastHeard < age now c.lastHeard ∨ (age now r.lastHeard = age now c.lastHeard ∧
    ((c.whereHeard = .survey ∧ r.whereHeard ≠ .survey) ∨ ((c.whereHeard = .survey ↔ r.whereHeard = .survey) ∧
      (r.lowestDepth < c.lowestDepth ∨ (r.lowestDepth = c.lowestDepth ∧
        ((c.lastAbsent = true ∧ r.lastAbsent = false) ∨ (c.lastAbsent = r.lastAbsent ∧ r.station < c.station)))))))

theorem candidateBefore_iff (now : Time) (c r : Neighbour) : candidateBefore now c r = true ↔ GivesWay now c r := by
  have hwhere : ((c.whereHeard == .survey) != (r.whereHeard == .survey)) = true ↔
      ¬(c.whereHeard = .survey ↔ r.whereHeard = .survey) := by
    cases c.whereHeard <;> cases r.whereHeard <;> decide
  unfold candidateBefore GivesWay
  by_cases hage : age now c.lastHeard = age now r.lastHeard
  · rw [if_neg (by simpa using hage)]
    by_cases hw : c.whereHeard = .survey ↔ r.whereHeard = .survey
    · rw [if_neg (mt hwhere.mp (not_not.mpr hw))]
      by_cases hdepth : c.lowestDepth = r.lowestDepth
      · rw [if_neg (by simpa using hdepth)]
        by_cases habs : c.lastAbsent = r.lastAbsent
        · rw [if_neg (by simpa using habs)]
          simp [hage, hw, hdepth, habs]
        · rw [if_pos (by simpa using habs)]
          have hbits : c.lastAbsent = true ↔ c.lastAbsent = true ∧ r.lastAbsent = false := by
            revert habs
            cases c.lastAbsent <;> cases r.lastAbsent <;> decide
          simp [hage, hw, hdepth, habs, ← hbits]
      · rw [if_pos (by simpa using hdepth)]
        have hne : r.lowestDepth ≠ c.lowestDepth := fun h => hdepth h.symm
        simp [hage, hw, hne]
    · rw [if_pos (hwhere.mpr hw)]
      have hyes : c.whereHeard = .survey ↔ c.whereHeard = .survey ∧ r.whereHeard ≠ .survey :=
        ⟨fun hc => ⟨hc, fun hr => hw ⟨fun _ => hr, fun _ => hc⟩⟩, And.left⟩
      simp only [hage, hw, false_and, or_false, lt_self_iff_false, false_or, true_and, beq_iff_eq]
      exact hyes
  · rw [if_pos (by simpa using hage)]
    have hne : age now r.lastHeard ≠ age now c.lastHeard := fun h => hage h.symm
    simp [hne]

/-- The order of giving way, as numbers. -/
def givesWayKey (now : Time) (r : Neighbour) : Nat ×ₗ Nat ×ₗ Nat ×ₗ Nat ×ₗ Nat :=
  toLex (age now r.lastHeard, toLex (if r.whereHeard = .survey then 1 else 0, toLex (r.lowestDepth,
    toLex (if r.lastAbsent then 1 else 0, r.station.toNat))))

theorem givesWay_iff_key (now : Time) (c r : Neighbour) : GivesWay now c r ↔ givesWayKey now r < givesWayKey now c := by
  simp only [givesWayKey, Prod.Lex.toLex_lt_toLex, GivesWay, BitVec.lt_def]
  refine or_congr_right (and_congr_right fun _ => or_congr ?_ (and_congr ?_ (or_congr_right (and_congr_right fun _ =>
    or_congr ?_ (and_congr_left fun _ => ?_)))))
  · by_cases hc : c.whereHeard = .survey <;> by_cases hr : r.whereHeard = .survey <;> simp [hc, hr]
  · by_cases hc : c.whereHeard = .survey <;> by_cases hr : r.whereHeard = .survey <;> simp [hc, hr]
  · cases c.lastAbsent <;> cases r.lastAbsent <;> simp
  · cases c.lastAbsent <;> cases r.lastAbsent <;> simp

/-- The candidate gives way before every other record of the list (R59). -/
theorem replacementCandidate_spec {ns : List Neighbour} (hord : NeighboursOrdered ns) (hne : ns ≠ []) (now : Time) :
    ∃ c ∈ ns, replacementCandidate now ns = some c ∧ ∀ r ∈ ns, r ≠ c → GivesWay now c r := by
  have hpick : replacementCandidate now ns = ns.foldl (pick fun b r => candidateBefore now r b) none := by
    unfold replacementCandidate
    congr 1
    funext best e
    cases best <;> rfl
  obtain ⟨a, l, rfl⟩ := List.exists_cons_of_ne_nil hne
  obtain ⟨c, hc⟩ := foldl_pick_some (fun b r => candidateBefore now r b) l a
  have hcand : replacementCandidate now (a :: l) = some c := hpick.trans hc
  refine ⟨c, replacementCandidate_mem hcand, hcand, fun r hr hrc => ?_⟩
  have hbest := foldl_pick_best (better := fun b r => candidateBefore now r b) (fun x y z hxy hyz => ?_) l a
    (fun x hx y hy => ?_) hc r hr
  · exact (candidateBefore_iff now c r).mp (hbest.resolve_left hrc)
  · rw [candidateBefore_iff, givesWay_iff_key] at hxy hyz ⊢
    exact hxy.trans hyz
  · simp only [candidateBefore_iff, givesWay_iff_key]
    obtain h | h | h := lt_trichotomy (givesWayKey now x) (givesWayKey now y)
    · exact .inr (.inl h)
    · refine .inl (hord.unique hx hy ?_)
      simp only [givesWayKey, toLex_inj, Prod.mk.injEq] at h
      exact BitVec.eq_of_toNat_eq h.2.2.2.2
    · exact .inr (.inr h)

/-! ### What a frame leaves of records, dwells and other stations -/

theorem takeNeighbour_survey (order : ReleaseOrder) (f : Frame) (kind : FramerKind) (s : State) :
    (takeNeighbour order f kind s).survey = s.survey := by
  unfold takeNeighbour
  split
  · split
    · rfl
    · exact (massRelease_act s order f.station).survey_eq
  · split
    · rfl
    · unfold meetFullList
      split
      · rfl
      · split
        · exact (massRelease_act (dropNeighbour _ s) order _).survey_eq
        · rfl

theorem routeOther_survey (ix : FramerIx) (order : OutcomeOrder) (f : Frame) (noise : Nat) (s : State) :
    (routeOther ix order f noise s).survey = s.survey := by
  unfold routeOther
  dsimp only
  split
  · rw [(routeHeld_act _ _ _ _ _).survey_eq, takeNeighbour_survey]
  · exact takeNeighbour_survey _ _ _ s

theorem routeOther_overflow (ix : FramerIx) (order : OutcomeOrder) (f : Frame) (noise : Nat) (s : State) :
    (routeOther ix order f noise s).neighbourOverflow = (takeNeighbour order.release f (kindOf ix) s).neighbourOverflow := by
  unfold routeOther
  dsimp only
  split
  · exact (routeHeld_act _ _ _ _ _).neighbourOverflow_eq
  · rfl

theorem mem_replacePeer {st : StationId} {claims : List Claim} {heard k : Slot} {expiry : Time} {ps : List Peer} {p : Peer}
    (h : p ∈ replacePeer st claims heard expiry k ps) : p.station = st ∨ p ∈ ps := by
  have hinsert {q : Peer} (hq : p ∈ insertPeer q ps) : p = q ∨ p ∈ ps := by
    unfold insertPeer at hq
    split at hq
    · exact mem_placePeer.mp hq
    · split at hq
      · exact mem_placePeer.mp hq
      · split at hq
        · exact (mem_placePeer.mp hq).imp_right List.mem_of_mem_dropLast
        · exact .inr hq
  unfold replacePeer at h
  split at h
  · exact .inr (List.mem_filter.mp h).1
  · unfold writePeer at h
    split at h
    · obtain ⟨q, hq, hp⟩ := List.mem_map.mp h
      split at hp
      · exact .inl (by rw [← hp])
      · exact .inr (hp ▸ hq)
    · exact (hinsert h).imp_left fun hp => by rw [hp]

/-- An entry behind a frame is of the frame's station or stood before. -/
theorem mem_takeSourceFrame {heard : Slot} {latest : Option Nat} {e : Source}
    (h : e ∈ (takeSourceFrame f heard noise latest s).sources) : e.station = f.station ∨ e ∈ s.sources := by
  by_cases hmine : e.Of heard f
  · exact .inl hmine.2
  · refine .inr ?_
    cases hm : matchesCarry s f with
    | false => exact ((sourceFrame_unmatched hm e).mp h).1
    | true =>
      by_cases hex : ∃ x ∈ s.sources, x.Of heard f
      · obtain ⟨x, hx, hxmine⟩ := hex
        exact (sourceFrame_others_updated hm hx hxmine hmine).mp h
      · obtain rfl | ⟨he, -⟩ := sourceFrame_only_new hm (fun x hx hxmine => hex ⟨x, hx, hxmine⟩) h
        · exact absurd ⟨rfl, rfl⟩ hmine
        · exact he

/-- Where no entry of the frame's station stood, each is the new one. -/
theorem takeSourceFrame_station {heard : Slot} {latest : Option Nat} (hnone : ∀ x ∈ s.sources, x.station ≠ f.station)
    {e : Source} (h : e ∈ (takeSourceFrame f heard noise latest s).sources) (hst : e.station = f.station) :
    e = newSource s f heard noise latest := by
  cases hm : matchesCarry s f with
  | false => exact absurd hst (hnone e ((sourceFrame_unmatched hm e).mp h).1)
  | true =>
    exact (sourceFrame_only_new hm (fun x hx hmine => hnone x hx hmine.2) h).resolve_right fun he => hnone e he.1 hst

theorem mem_rewritten {ns : List Neighbour} {st : StationId} {g : Neighbour → Neighbour} {r y : Neighbour}
    (hord : NeighboursOrdered ns) (hr : r ∈ ns) (hst : r.station = st) (hy : g r = y) (x : Neighbour) :
    x ∈ (ns.map fun x => if x.station == st then g x else x) ↔ x = y ∨ (x ∈ ns ∧ x.station ≠ st) := by
  rw [List.mem_map]
  constructor
  · rintro ⟨z, hz, rfl⟩
    split
    · rename_i h
      rw [hord.unique hz hr ((eq_of_beq h).trans hst.symm), hy]
      exact .inl rfl
    · rename_i h
      exact .inr ⟨hz, by simpa using h⟩
  · rintro (rfl | ⟨hx, hne⟩)
    · exact ⟨r, hr, by rw [if_pos (by simpa using hst), hy]⟩
    · exact ⟨x, hx, if_neg (by simpa using hne)⟩

/-- A record refreshed by a frame (R61). -/
theorem refresh_eq (now : Time) (f : Frame) (kind : FramerKind) (r : Neighbour) : r.refresh now f kind = { r with
    lastHeard := now, lastAbsent := f.absent
    lowestDepth := if f.depth ≤ r.lowestDepth ∨ 60000 < age now r.lowestDepthTime then f.depth else r.lowestDepth
    lowestDepthTime := if f.depth ≤ r.lowestDepth ∨ 60000 < age now r.lowestDepthTime then now else r.lowestDepthTime
    whereHeard := if r.whereHeard = (newNeighbour now f kind).whereHeard then r.whereHeard else .both } := by
  have hwhere : r.whereHeard.add kind = if r.whereHeard = (newNeighbour now f kind).whereHeard then r.whereHeard else .both :=
    if_congr beq_iff_eq rfl rfl
  have hlower : (decide (f.depth ≤ r.lowestDepth) || decide (60000 < age now r.lowestDepthTime)) = true ↔
      f.depth ≤ r.lowestDepth ∨ 60000 < age now r.lowestDepthTime := by simp
  rw [← hwhere]
  by_cases h : f.depth ≤ r.lowestDepth ∨ 60000 < age now r.lowestDepthTime
  · simp only [Neighbour.refresh, if_pos h, if_pos (hlower.mpr h)]
  · simp only [Neighbour.refresh, if_neg h, if_neg (mt hlower.mp h)]

end Sys2Proof.Machine

namespace Sys2Proof

open Machine

/-- Settles O26: the list's own act on the frame, and what it hands on. -/
theorem goodFrameMeetsNeighbours : Obligations.GoodFrameMeetsNeighbours := by
  intro ix order bs noise s ho hix hst hown htables
  obtain ⟨-, -, ⟨hcap, hord⟩, -, -, -, -⟩ := htables
  have heff := framerOutcome_good (order := order) ho hix hst hown
  have hns : (framerOutcome ix order s).neighbours =
      (takeNeighbour order.release (readFrame bs) (kindOf ix) (s.rested ix (.good bs noise))).neighbours := by
    rw [heff, settleDwell_neighbours, routeOther_neighbours]
  have hover : (framerOutcome ix order s).neighbourOverflow =
      (takeNeighbour order.release (readFrame bs) (kindOf ix) (s.rested ix (.good bs noise))).neighbourOverflow := by
    rw [heff, settleDwell_overflow, routeOther_overflow]
  rw [answers_iff, effect]
  intro f fresh
  have hfresh : newNeighbour s.now f (kindOf ix) = fresh := by
    cases ix with
    | path i => rfl
    | survey => rfl
    | monitor => exact absurd rfl hix
  refine ⟨fun r hr hrst hnet => ?_, fun r hr hrst hnet => ?_, fun hnew hroom => ?_, fun hnew hfull => ?_, fun d hd => ?_,
    fun hd => ?_⟩
  · have hheld : FrameHeld s f (some f.station) := .inl ⟨r, hr, hrst, by rw [if_neg hnet]⟩
    have hfind := findNeighbour_of_mem hord hr hrst
    obtain ⟨hpeers, u, hu, hes⟩ := framerOutcome_held (order := order) ho hix hst hown hord hheld
    have htake := takeNeighbour_afresh (s := s.rested ix (.good bs noise)) (order := order.release) (kind := kindOf ix)
      (by rw [rested_neighbours]; exact hfind) hnet
    rw [htake, listed_neighbours, rested_neighbours, rested_now] at hns
    rw [htake] at hover
    refine ⟨fun x => ?_, hover.trans (rested_overflow _ _ s), fun k hk hc p hp => ?_, fun e he hest => ?_⟩
    · rw [hns, mem_rewritten hord hr hrst hfresh]
    · have hlist : f.claims.find? (fun c => c.slot == k) = none := by simpa using hc
      rw [hpeers k, replacePeer_unclaimed hk hlist] at hp
      simpa using (List.mem_filter.mp hp).2
    · rw [hes] at he
      have hnew := takeSourceFrame_station (fun x hx => by
        rw [hu.sources] at hx
        simpa using (List.mem_filter.mp hx).2) he hest
      rw [hnew]
      exact ⟨rfl, hu.now, rfl⟩
  · have htake := takeNeighbour_known (s := s.rested ix (.good bs noise)) (order := order.release) (kind := kindOf ix)
      (by rw [rested_neighbours]; exact findNeighbour_of_mem hord hr hrst) hnet
    rw [htake, listed_neighbours, rested_neighbours, rested_now] at hns
    rw [htake] at hover
    refine ⟨fun x => ?_, hover.trans (rested_overflow _ _ s)⟩
    rw [hns, mem_rewritten (y := _) hord hr hrst (refresh_eq s.now f (kindOf ix) r), ← hfresh]
  · have htake := takeNeighbour_room (s := s.rested ix (.good bs noise)) (f := f) (order := order.release)
      (kind := kindOf ix) (by rw [rested_neighbours]; exact hnew) (by rw [rested_neighbours]; exact hroom)
    rw [htake, listed_neighbours, rested_neighbours, rested_now, hfresh] at hns
    rw [htake] at hover
    refine ⟨fun x => ?_, hover⟩
    rw [hns, mem_placeNeighbour]
  · obtain ⟨c, hc, hcand, hbest⟩ := replacementCandidate_spec hord (fun h => by rw [h] at hfull; cases hfull) s.now
    refine ⟨c, hc, hcand, hbest, fun hage => ?_, fun hage => ?_⟩
    · have hheld : FrameHeld s f (some c.station) := .inr ⟨hnew, .inr ⟨hfull, c, hcand, hage, rfl⟩⟩
      obtain ⟨hpeers, u, hu, hes⟩ := framerOutcome_held (order := order) ho hix hst hown hord hheld
      have htake := takeNeighbour_evicts (s := s.rested ix (.good bs noise)) (f := f) (order := order.release)
        (kind := kindOf ix) (c := c) (by rw [rested_neighbours]; exact hnew) (by rw [rested_neighbours]; exact hfull)
        (by rw [rested_neighbours, rested_now]; exact hcand) (by rw [rested_now]; exact hage)
      rw [htake, listed_neighbours, rested_neighbours, rested_now, hfresh] at hns
      rw [htake] at hover
      have hcf : c.station ≠ f.station := hnew c hc
      refine ⟨fun x => ?_, hover, fun k p hp hpc => ?_, fun e he hec => ?_⟩
      · rw [hns, mem_placeNeighbour, List.mem_filter]
        refine or_congr_right (and_congr_right fun hx => ?_)
        rw [bne_iff_ne]
        exact not_congr ⟨fun h => hord.unique hx hc h, fun h => by rw [h]⟩
      · rw [hpeers k] at hp
        obtain h | h := mem_replacePeer hp
        · exact hcf (hpc.symm.trans h)
        · have hne := (List.mem_filter.mp h).2
          rw [hpc] at hne
          simp at hne
      · rw [hes] at he
        obtain h | h := mem_takeSourceFrame he
        · exact hcf (hec.symm.trans h)
        · rw [hu.sources] at h
          have hne := (List.mem_filter.mp h).2
          rw [hec] at hne
          simp at hne
    · have htake := takeNeighbour_full (s := s.rested ix (.good bs noise)) (f := f) (order := order.release)
        (k := kindOf ix) (by rw [rested_neighbours]; exact findNeighbour_none_iff.mpr hnew)
        (by rw [rested_neighbours, hfull]; decide) fun d hd => by
          rw [rested_neighbours, rested_now, hcand] at hd
          cases hd
          rw [rested_now]
          exact Nat.not_lt.mpr hage
      have hdrop : framerOutcome ix order s =
          settleDwell ix { s.rested ix (.good bs noise) with neighbourOverflow := true } := by
        rw [heff, routeOther, htake, if_neg]
        rw [holdsNeighbour, Bool.not_eq_true, Option.isSome_eq_false_iff, Option.isNone_iff_eq_none, findNeighbour_none_iff]
        intro x hx
        exact hnew x (by rwa [← rested_neighbours ix (.good bs noise) s])
      refine ⟨?_, ?_, ?_, ?_, ?_⟩
      · rw [hdrop, settleDwell_neighbours]
        exact rested_neighbours _ _ s
      · rw [hdrop, settleDwell_overflow]
      · rw [hdrop, settleDwell_slots]
        exact rested_slots _ _ s
      · rw [hdrop, settleDwell_sources]
        exact rested_sources _ _ s
      · rw [hdrop, settleDwell_paths]
        exact rested_paths _ _ s
  · rw [heff, settleDwell_dwell_some (d := d) (by rw [routeOther_survey, rested_dwell]; exact hd)]
  · rw [heff, settleDwell_dwell_none (by rw [routeOther_survey, rested_dwell]; exact hd)]

end Sys2Proof
end
section
/-! PROOFS. A frame of a station without earlier records meets the own claims: withdrawals and collision timings (O28). -/

namespace Sys2Proof.Machine

open Sys2Proof

variable {s t u : State} {k : Slot} {ix : FramerIx} {order : OutcomeOrder} {f : Frame} {noise : Nat} {j : PathIx}

/-! ### The tuning queue and the marks through the re-tests -/

theorem retestSlot_tuning_subset (c : Nat) (k : Slot) (s : State) : ∀ e ∈ (retestSlot c k s).tuning, e ∈ s.tuning := by
  have hlose : ∀ e ∈ (loseToPeer c k .claimWithdrawn s).tuning, e ∈ s.tuning := by
    cases howner : (s.slot k).ownPath with
    | none => simp [loseToPeer, howner]
    | some i =>
      rw [loseToPeer_tuning howner]
      split
      · exact fun e he => (List.mem_filter.mp he).1
      · exact fun e he => he
  unfold retestSlot
  split
  · exact fun e he => he
  · split
    · exact hlose
    · exact fun e he => he
  · exact fun e he => he

theorem retestTurn_tuning_subset (c : Nat) (s t : State) (k : Slot) (u : State) :
    ∀ e ∈ (retestTurn c s t k u).tuning, e ∈ u.tuning := by
  unfold retestTurn
  split
  · exact fun e he => he
  · exact retestSlot_tuning_subset c k u

/-- With cancellations that are owed, the re-tests leave the queue as it is. -/
theorem retestedEvent_tuning_owed {c : Nat} (hc : c ≠ 0) (g : Slot → List Peer → List Peer) (s : State) :
    (retestedEvent c g s).tuning = s.tuning := by
  unfold retestedEvent
  rw [pinnedUpdate_tuning, retestChanged_eq]
  refine forSlots_keeps (P := fun u => u.tuning = s.tuning) (fun k u hu => ?_) (rewritePeers_tuning g s)
  have hlose : (loseToPeer c k .claimWithdrawn u).tuning = u.tuning := by
    cases howner : (u.slot k).ownPath with
    | none => simp [loseToPeer, howner]
    | some i => rw [loseToPeer_tuning howner, if_neg hc]
  unfold retestTurn
  split
  · exact hu
  · unfold retestSlot
    split
    · exact hu
    · split
      · exact hlose.trans hu
      · exact hu
    · exact hu

/-- With cancellations taken at once, a withdrawn path has no transmit entry left (R98, R123). -/
theorem retestChanged_tuning_cancelled (howner : (t.slot k).ownPath = some j) (hchanged : (t.slot k).peers ≠ (s.slot k).peers)
    (hw : (t.slot k).withdrawn t.params.stationId = true) :
    ∀ e ∈ (retestChanged 0 s t).tuning, ¬(e.path = j ∧ e.side = .transmit) := by
  have hkeep := forSlots_keeps
    (P := fun u => ActFrame t u ∧ (u.slot k = t.slot k ∨ ∀ e ∈ u.tuning, ¬(e.path = j ∧ e.side = .transmit)))
    (f := retestTurn 0 s t) (fun m u ⟨hact, hu⟩ => ?_) (s := t) ⟨rfl, .inl rfl⟩
  · rw [← retestChanged_eq] at hkeep
    refine hkeep.2.resolve_left fun hk => ?_
    have hend := retestChanged_slot 0 s t k
    rw [if_neg (by simpa using hchanged), SlotEntry.retest_withdrawn hw, hk] at hend
    rw [hend] at howner
    cases howner
  · refine ⟨hact.trans (retestTurn_act 0 s t m u), ?_⟩
    obtain hk | hnone := hu
    · rcases eq_or_ne m k with rfl | hne
      · refine .inr ?_
        unfold retestTurn
        rw [if_neg (by simpa using hchanged), retestSlot_of_withdrawn u 0 m (by rw [hk, hact.params_eq]; exact hw),
          loseToPeer_tuning (by rw [hk]; exact howner), if_pos rfl]
        exact fun e he => (mem_filter_isNamed.mp he).2
      · exact .inl (by rw [retestTurn_slot_ne u (Ne.symm hne), hk])
    · exact .inr fun e he => hnone e (retestTurn_tuning_subset _ _ _ _ _ e he)

theorem retestedEvent_tuning_cancelled {g : Slot → List Peer → List Peer} {s : State} (howner : (s.slot k).ownPath = some j)
    (hchanged : g k (s.slot k).peers ≠ (s.slot k).peers)
    (hw : ({ s.slot k with peers := g k (s.slot k).peers } : SlotEntry).withdrawn s.params.stationId = true) :
    ∀ e ∈ (retestedEvent 0 g s).tuning, ¬(e.path = j ∧ e.side = .transmit) := by
  have hslot := rewritePeers_slot g s k
  have hparams := rewritePeers_params g s
  unfold retestedEvent
  rw [pinnedUpdate_tuning]
  generalize s.rewritePeers g = t at *
  exact retestChanged_tuning_cancelled (by rw [hslot]; exact howner) (by rw [hslot]; exact hchanged)
    (by rw [hslot, hparams]; exact hw)

/-- What the withdrawal of its only slot makes of a claiming path (R98, R122, R105). -/
theorem retestedEvent_path_withdrawn {c : Nat} {g : Slot → List Peer → List Peer} {s : State}
    (howner : (s.slot k).ownPath = some j) (honly : ∀ m, (s.slot m).ownPath = some j → m = k)
    (hclaiming : (s.path j).state = .claiming) (hchanged : g k (s.slot k).peers ≠ (s.slot k).peers)
    (hw : ({ s.slot k with peers := g k (s.slot k).peers } : SlotEntry).withdrawn s.params.stationId = true) :
    (retestedEvent c g s).path j = { s.path j with
      state := .waitSlot, event := some .claimWithdrawn, output := none, txPending := false, holdoverDeadline := none
      cond := .off, cancelOwed := if c = 0 then (s.path j).cancelOwed else c } ∧
    (retestedEvent c g s).wait j = { freed := false, retryDeadline := some (laterS s.now s.params.claimHoldOff) } := by
  have hslot := rewritePeers_slot g s
  have hparams := rewritePeers_params g s
  have hpath := rewritePeers_path g s j
  have hnow : (s.rewritePeers g).now = s.now := (slots_act s _).now_eq
  unfold retestedEvent
  rw [pinnedUpdate_path, pinnedUpdate_wait]
  generalize s.rewritePeers g = t at *
  obtain ⟨hp, hwait⟩ := retestChanged_path_withdrawn c (s := s) (t := t) (i := j) (k := k) (by rw [hslot]; exact howner)
    (fun m hm => honly m (by rwa [hslot] at hm)) (by rw [hslot]; exact hchanged) (by rw [hslot, hparams]; exact hw)
  rw [hp, hwait, slotLost_path_self, hpath, hnow, hparams, hclaiming]
  refine ⟨?_, rfl⟩
  rw [condOf_silent (by simp [slotLostState])]
  rfl

theorem MarksServed.retested (hs : MarksServed s) (c : Nat) (g : Slot → List Peer → List Peer) :
    MarksServed (retestedEvent c g s) := by
  refine MarksServed.congr (s := retestChanged c s (s.rewritePeers g)) ?_ fun i hi => by
    unfold retestedEvent at hi
    rwa [pinnedUpdate_wait] at hi
  rw [retestChanged_eq]
  refine forSlots_keeps (fun k t ht => ?_) (hs.congr fun i hi => by rwa [rewritePeers_wait] at hi)
  unfold retestTurn
  split
  · exact ht
  · unfold retestSlot
    split
    · exact ht
    · split
      · exact ht.loseToPeer c k _
      · exact ht
    · exact ht

/-! ### A frame of a station without earlier records -/

/-- No slot holds a record of the station, so a frame's claims leave no list empty that was not. -/
theorem replacePeer_eq_nil {st : StationId} {claims : List Claim} {heard k : Slot} {expiry : Time} {ps : List Peer}
    (hnone : ∀ p ∈ ps, p.station ≠ st) (h : replacePeer st claims heard expiry k ps = []) : ps = [] := by
  unfold replacePeer at h
  split at h
  · rwa [removePeer, List.filter_eq_self.mpr fun p hp => by simpa using hnone p hp] at h
  · rename_i phase pinned _
    rw [writePeer_new (by exact hnone)] at h
    have hin : (⟨st, phase, pinned, expiry⟩ : Peer) ∈ placePeer ⟨st, phase, pinned, expiry⟩ ps := mem_placePeer.mpr (.inl rfl)
    unfold insertPeer at h
    split at h
    · rw [h] at hin; cases hin
    · split at h
      · rw [h] at hin; cases hin
      · split at h
        · have hin' : (⟨st, phase, pinned, expiry⟩ : Peer) ∈ placePeer ⟨st, phase, pinned, expiry⟩ ps.dropLast :=
            mem_placePeer.mpr (.inl rfl)
          rw [h] at hin'; cases hin'
        · exact h

/-- An event that leaves no list empty that was not makes no slot eligible. -/
theorem settleNotices_retestedEvent {c : Nat} {g : Slot → List Peer → List Peer} (hmarks : MarksServed s)
    (hnil : ∀ k, g k (s.slot k).peers = [] → (s.slot k).peers = []) :
    settleNotices s (retestedEvent c g s) = retestedEvent c g s := by
  refine settleNotices_of_none ?_ (hmarks.retested c g)
  rw [newlyEligible_eq_false_iff]
  intro k hk
  obtain ⟨-, -, hpeers, -⟩ := (eligible_iff _ _).mp hk
  rw [retestedEvent_peers] at hpeers
  have hslot : (retestedEvent c g s).slot k = s.slot k := by
    rw [retestedEvent_slot, if_pos (by rw [hpeers, hnil k hpeers]; rfl)]
  have hguard := guarded_congr (retestedEvent_rxSlot c g s) (retestedEvent_act c g s).params_eq k
  have hsame := eligible_congr (s := s) (t := retestedEvent c g s) (k := k) (by rw [hslot]) (by rw [hslot]) (by rw [hslot]) hguard
  exact hsame ▸ hk

theorem takeClaims_of_new {c : Nat} {st : StationId} {claims : List Claim} {heard : Slot} (hmarks : MarksServed s)
    (hnone : ∀ k, ∀ p ∈ (s.slot k).peers, p.station ≠ st) : takeClaims c st claims heard s =
      retestedEvent c (replacePeer st claims heard (laterS s.now s.params.neighbourTimeout)) s := by
  have hsettle := settleNotices_retestedEvent (c := c) hmarks
    (g := replacePeer st claims heard (laterS s.now s.params.neighbourTimeout)) fun k hk => replacePeer_eq_nil (hnone k) hk
  rw [← peerEvent_settled] at hsettle
  exact hsettle

/-- No path has selected a source of the station. -/
abbrev NoneSelects (st : StationId) (s : State) : Prop := ∀ (j : PathIx) (x : Selected), (s.path j).selected = some x → x.station ≠ st

theorem selects_of_noneSelects {st : StationId} (h : NoneSelects st s) (j : PathIx) (k : Slot) :
    (s.path j).selects k st = false := by
  rw [Bool.eq_false_iff, Ne, SelectedBut.selects_iff]
  exact fun ⟨x, hx, _, hst⟩ => h j x hx hst

theorem noticeChanged_of_noneSelects {e : Source} (h : NoneSelects e.station s) : noticeChanged e s = s :=
  forPaths_keeps (P := fun u => u = s) (fun j u hu => by
    rw [hu, takeChanged, selects_of_noneSelects h, if_neg (by decide)]) rfl

theorem removeSources_of_noneSelects {gone : Source → Bool} {st : StationId} (h : NoneSelects st s)
    (hgone : ∀ e, gone e = true → e.station = st) :
    removeSources gone s = { s with sources := s.sources.filter fun e => !gone e } := by
  refine foldl_keeps_mem (P := fun u => u = { s with sources := s.sources.filter fun e => !gone e }) _ (fun e he u hu => ?_) rfl
  have hst := hgone e (List.mem_filter.mp he).2
  refine forPaths_keeps (P := fun u => u = { s with sources := s.sources.filter fun e => !gone e }) (fun j u hu => ?_) hu
  have hsel : NoneSelects e.station u := by
    rw [hst, hu]
    exact h
  rw [takeRemoved, selects_of_noneSelects hsel, if_neg (by decide)]
  exact hu

/-- A frame of a station that no path has selected changes the table alone. -/
theorem takeSourceFrame_of_noneSelects {heard : Slot} {latest : Option Nat} (h : NoneSelects f.station s) :
    takeSourceFrame f heard noise latest s =
      { s with sources := (takeSourceFrame f heard noise latest s).sources } := by
  cases hfind : findSource heard f.station s.sources with
  | none =>
    simp only [takeSourceFrame, hfind]
    split <;> rfl
  | some e =>
    obtain ⟨-, -, hst⟩ := findSource_some hfind
    simp only [takeSourceFrame, hfind]
    split
    · rw [noticeChanged_of_noneSelects (by rw [(updateSource_key s f noise latest e).2, hst]; exact h)]
      rfl
    · rw [removeSources_of_noneSelects h fun e he => ((hasKey_iff _ _ _).mp he).2]

theorem takeGoodFrame_of_noneSelects {i : PathIx} {pr : ProgrammeId} {heard : Slot} {st : StationId} (h : NoneSelects st s) :
    takeGoodFrame i st pr heard s = s := by
  have hof : ofSelected s i st pr heard = false := by
    unfold ofSelected
    split
    · rfl
    · rename_i x hx
      have hne := h i x hx
      simp [hne]
  rw [takeGoodFrame, hof, if_neg (by decide)]

/-- s with another source table. -/
def State.withSources (es : List Source) (s : State) : State := { s with sources := es }

section withSources
variable (es : List Source) (s : State)
theorem withSources_slot (k : Slot) : (s.withSources es).slot k = s.slot k := rfl
theorem withSources_path (j : PathIx) : (s.withSources es).path j = s.path j := rfl
theorem withSources_wait (j : PathIx) : (s.withSources es).wait j = s.wait j := rfl
theorem withSources_tuning : (s.withSources es).tuning = s.tuning := rfl
end withSources

theorem NoneSelects.withSources {st : StationId} (h : NoneSelects st s) (es : List Source) :
    NoneSelects st (s.withSources es) := fun j x hx => h j x (by rwa [withSources_path] at hx)

/-- Outside the source table, a frame whose station no path has selected is taken by the slot claim table alone. -/
theorem routeHeld_of_noneSelects (hix : ix ≠ .monitor) {c : Nat} (h : NoneSelects f.station s) :
    ∃ es, routeHeld ix c f noise s = (s.claimsTaken ix c f).withSources es := by
  have hsel : NoneSelects f.station (s.claimsTaken ix c f) := fun j x hx => by
    obtain hj | ⟨-, -, hfalse, -⟩ := claimsTaken_selections ix c f s (fun _ _ => False) j
    · exact h j x (hj ▸ hx)
    · exact hfalse.elim
  have hsource := takeSourceFrame_of_noneSelects (noise := noise) (heard := heardBy s ix)
    (latest := latestMeasurement (s.claimsTaken ix c f) ix) hsel
  generalize hes : (takeSourceFrame f (heardBy s ix) noise (latestMeasurement (s.claimsTaken ix c f) ix)
    (s.claimsTaken ix c f)).sources = es at hsource
  have hsource : s.sourceTaken ix c f noise = (s.claimsTaken ix c f).withSources es := hsource
  suffices h : routeHeld ix c f noise s = s.sourceTaken ix c f noise from ⟨es, h.trans hsource⟩
  cases ix with
  | path i =>
    rw [routeHeld_path]
    have hsel' : NoneSelects f.station ((s.claimsTaken (.path i) c f).withSources es) :=
      hsel.withSources es
    exact takeGoodFrame_of_noneSelects (st := f.station) (hsource ▸ hsel')
  | survey => exact routeHeld_survey c s
  | monitor => exact absurd rfl hix

/-- The state in which the slot claim table meets the frame of a known station: s but for the list and the framer. -/
structure Meets (s v : State) : Prop where
  slot : ∀ k, v.slot k = s.slot k
  path : ∀ j, v.path j = s.path j
  wait : ∀ j, v.wait j = s.wait j
  tuning : v.tuning = s.tuning
  params : v.params = s.params
  gov : v.gov = s.gov
  now : v.now = s.now
  sources : v.sources = s.sources
  permitted : v.claimingPermitted = s.claimingPermitted
  carryOf : ∀ j, v.carryOf j = s.carryOf j
  rxOf : ∀ ix, v.rxOf ix = s.rxOf ix

theorem meets_listed (ix : FramerIx) (o : FrameOutcome) (ns : List Neighbour) (b : Bool) (s : State) :
    Meets s ((s.rested ix o).listed ns b) where
  slot := rested_slot ix o s
  path := rested_path ix o s
  wait := rested_wait ix o s
  tuning := rested_tuning ix o s
  params := rested_params ix o s
  gov := rested_gov ix o s
  now := rested_now ix o s
  sources := rested_sources ix o s
  permitted := rested_permitted ix o s
  carryOf := rested_carryOf ix o s
  rxOf := rested_rxOf ix o s

/-- A good frame of a station that the list holds with the frame's network is refreshed there and goes on. -/
theorem framerOutcome_of_known {bs : List Byte} {r : Neighbour} (ho : (s.framer ix).outcome = some (.good bs noise))
    (hix : ix ≠ .monitor) (hst : s.station = .listen ∨ s.station = .running)
    (hown : (readFrame bs).station ≠ s.params.stationId) (hord : NeighboursOrdered s.neighbours)
    (hr : r ∈ s.neighbours) (hrst : r.station = (readFrame bs).station) (hnet : r.network = (readFrame bs).network) :
    ∃ v, Meets s v ∧ framerOutcome ix order s = settleDwell ix (routeHeld ix order.cancelAfter (readFrame bs) noise v) := by
  have htake := takeNeighbour_known (s := s.rested ix (.good bs noise)) (order := order.release) (kind := kindOf ix)
    (by rw [rested_neighbours]; exact findNeighbour_of_mem hord hr hrst) hnet
  have hholds : holdsNeighbour (takeNeighbour order.release (readFrame bs) (kindOf ix) (s.rested ix (.good bs noise)))
      (readFrame bs).station = true := by
    refine (takeNeighbour_taken (released := none) (by rw [rested_neighbours]; exact hord) (.inl ⟨r, ?_, hrst, ?_⟩)).2
    · rw [rested_neighbours]; exact hr
    · rw [if_pos hnet]
  rw [framerOutcome_good ho hix hst hown, routeOther, if_pos hholds, htake]
  exact ⟨_, meets_listed ix (.good bs noise) _ _ s, rfl⟩

/-- A frame of a known station without earlier records, whose sources no path has selected: outside the source table it is
the event on the peer lists alone. -/
theorem framerOutcome_of_new {bs : List Byte} {r : Neighbour} (ho : (s.framer ix).outcome = some (.good bs noise))
    (hix : ix ≠ .monitor) (hst : s.station = .listen ∨ s.station = .running)
    (hown : (readFrame bs).station ≠ s.params.stationId) (hord : NeighboursOrdered s.neighbours) (hmarks : MarksServed s)
    (hr : r ∈ s.neighbours) (hrst : r.station = (readFrame bs).station) (hnet : r.network = (readFrame bs).network)
    (hnone : ∀ k, ∀ p ∈ (s.slot k).peers, p.station ≠ (readFrame bs).station) (hsel : NoneSelects (readFrame bs).station s) :
    ∃ (v : State) (g : Slot → List Peer → List Peer) (es : List Source), Meets s v ∧
      framerOutcome ix order s = settleDwell ix ((retestedEvent order.cancelAfter g v).withSources es) := by
  obtain ⟨v, hmeets, heff⟩ := framerOutcome_of_known (order := order) ho hix hst hown hord hr hrst hnet
  rw [heff]
  obtain ⟨es, hes⟩ := routeHeld_of_noneSelects (s := v) (f := readFrame bs) (noise := noise) (c := order.cancelAfter) hix
    fun j x hx => hsel j x (hmeets.path j ▸ hx)
  refine ⟨v, replacePeer (readFrame bs).station (readFrame bs).claims (heardBy v ix) (laterS v.now v.params.neighbourTimeout),
    es, hmeets, ?_⟩
  rw [hes, State.claimsTaken, takeClaims_of_new (fun j => by rw [hmeets.wait]; exact hmarks j) fun k => by
    rw [hmeets.slot]; exact hnone k]

end Sys2Proof.Machine

namespace Sys2Proof

open Machine

/-- Settles O28: with no earlier records of its station, the frame is one event on the peer lists, and each slot whose list
changed is tested again. -/
theorem goodFrameMeetsOwnClaims : Obligations.GoodFrameMeetsOwnClaims := by
  intro ix order bs noise r s ho hix hst hown htables hclaims hmarks hr hrst hnet hnone hsel
  obtain ⟨-, -, ⟨-, hord⟩, -, -, -, -⟩ := htables
  obtain ⟨v, g, es, hv, heff⟩ := framerOutcome_of_new (order := order) ho hix hst hown hord hmarks hr hrst hnet
    (fun k p hp => hrst ▸ hnone k p hp) fun j x hx => hrst ▸ hsel j x hx
  rw [answers_iff, effect, heff]
  intro k old peers
  have hslot : (settleDwell ix ((retestedEvent order.cancelAfter g v).withSources es)).slot k =
      if g k old.peers == old.peers then old
      else ({ old with peers := g k old.peers } : SlotEntry).retest s.params.stationId s.collisionStart := by
    rw [settleDwell_slot, withSources_slot, retestedEvent_slot, hv.slot, hv.params, State.collisionStart, hv.now, hv.params]
    rfl
  have hpeers : peers = g k old.peers := by
    have hp : peers = ((retestedEvent order.cancelAfter g v).slot k).peers := by
      rw [← withSources_slot es, ← settleDwell_slot ix]
    rw [hp, retestedEvent_peers, hv.slot]
  rw [← hpeers] at hslot
  have hretest (hne : peers ≠ old.peers) :
      (settleDwell ix ((retestedEvent order.cancelAfter g v).withSources es)).slot k =
        ({ old with peers := peers } : SlotEntry).retest s.params.stationId s.collisionStart := by
    rw [hslot, if_neg (by simpa using hne)]
  have honly {j : PathIx} (howner : old.ownPath = some j) (m : Slot) (hm : (s.slot m).ownPath = some j) : m = k := by
    have hmk := (hclaims.owner_iff.mp hm).symm.trans (hclaims.owner_iff.mp howner)
    exact Option.some.inj hmk
  have hstays {j : PathIx} (howner : old.ownPath = some j)
      (hnot : ({ old with peers := peers } : SlotEntry).withdrawn s.params.stationId = false) :
      (settleDwell ix ((retestedEvent order.cancelAfter g v).withSources es)).path j = s.path j := by
    rw [settleDwell_path, withSources_path, (retestedEvent_path order.cancelAfter g v fun m hm _ => ?_).1, hv.path]
    rw [hv.slot] at hm
    rw [honly howner m hm, hv.slot, hv.params, ← hpeers]
    exact hnot
  refine ⟨fun h => ?_, fun j hint howner hne => ⟨fun hwith => ?_, fun hnot => ?_⟩, fun j hheld howner hne => ?_⟩
  · by_cases hp : peers = old.peers
    · rw [hslot, if_pos (by simpa using hp), hp]
    · rw [hretest hp, SlotEntry.retest_none (e := { old with peers := peers }) (h.resolve_left hp)]
  · have hw : ({ old with peers := peers } : SlotEntry).withdrawn s.params.stationId = true :=
      (SlotEntry.withdrawn_iff _ _).mpr ⟨hint, hwith⟩
    obtain ⟨i, hi, -, hclaiming⟩ := hclaims.claiming_of_intent hint
    obtain rfl : i = j := Option.some.inj (hi.symm.trans howner)
    have hchanged : g k (v.slot k).peers ≠ (v.slot k).peers := by rw [hv.slot, ← hpeers]; exact hne
    have hwv : ({ v.slot k with peers := g k (v.slot k).peers } : SlotEntry).withdrawn v.params.stationId = true := by
      rw [hv.slot, hv.params, ← hpeers]
      exact hw
    obtain ⟨hpath, hwait⟩ := retestedEvent_path_withdrawn (c := order.cancelAfter) (by rw [hv.slot]; exact howner)
      (fun m hm => honly howner m (by rwa [hv.slot] at hm)) (by rw [hv.path]; exact hclaiming) hchanged hwv
    refine ⟨?_, ?_, ?_, fun hc => ?_, fun hc e he => ?_⟩
    · rw [hretest hne, SlotEntry.retest_withdrawn hw]
      rfl
    · rw [settleDwell_path, withSources_path, hpath, hv.path]
    · rw [settleDwell_wait, withSources_wait, hwait, hv.now, hv.params]
    · rw [settleDwell_tuning, withSources_tuning, hc]
      exact retestedEvent_tuning_cancelled (by rw [hv.slot]; exact howner) hchanged hwv
    · rw [settleDwell_tuning, withSources_tuning, retestedEvent_tuning_owed hc, hv.tuning]
  · have hnw : ({ old with peers := peers } : SlotEntry).withdrawn s.params.stationId = false := by
      rw [Bool.eq_false_iff, Ne, SlotEntry.withdrawn_iff]
      rintro ⟨-, p, hp, h⟩
      obtain ⟨hpin, hphase, hle⟩ := hnot p hp
      rcases h with h | h | h
      · rw [hpin] at h; cases h
      · rw [hphase] at h; cases h
      · exact absurd h (BitVec.not_lt.mpr hle)
    exact ⟨by rw [hretest hne, SlotEntry.retest_intent (e := { old with peers := peers }) hint hnw], hstays howner hnw⟩
  · have hnw : ({ old with peers := peers } : SlotEntry).withdrawn s.params.stationId = false := by
      simp [SlotEntry.withdrawn, hheld]
    refine ⟨?_, hstays howner hnw⟩
    rw [hretest hne, SlotEntry.retest_held (e := { old with peers := peers }) hheld]
    have hcol : SlotEntry.inCollision { old with peers := peers } = true ↔
        old.ownPinned = false ∧ ∃ p ∈ peers, p.phase = .held ∨ p.pinned = true := by
      rw [SlotEntry.inCollision_iff]
      exact and_iff_right hheld
    simp only [hcol]
    rfl

end Sys2Proof
end
section
/-! PROOFS. A good frame of the source that a path has selected: the notice of its entry, and the end of an acquisition
(O45). -/

namespace Sys2Proof.Machine

open Sys2Proof

variable {s t u v : State} {i j : PathIx} {k : Slot} {order : OutcomeOrder} {f : Frame} {noise : Nat}

/-! ### A step done for every path that acts for one of them alone -/

theorem forPaths_of_one {F : PathIx → State → State} (hbefore : ∀ j, j ≠ i → F j s = s)
    (hafter : ∀ j, j ≠ i → F j (F i s) = F i s) : forPaths F s = F i s := by
  have hid : ∀ (l : List PathIx) (u : State), i ∉ l → (∀ j, j ≠ i → F j u = u) → l.foldl (fun t j => F j t) u = u := by
    intro l
    induction l with
    | nil => exact fun _ _ _ => rfl
    | cons a l ih =>
      intro u hl hu
      obtain ⟨ha, hl⟩ : i ≠ a ∧ i ∉ l := by simpa using hl
      rw [List.foldl_cons, hu a (Ne.symm ha)]
      exact ih u hl hu
  obtain ⟨l₁, l₂, hl⟩ := List.append_of_mem (mem_indices (n := 12) i)
  have hnd := indices_nodup 12
  rw [hl] at hnd
  obtain ⟨-, hnd₂, hcross⟩ := List.nodup_append.mp hnd
  have h₁ : i ∉ l₁ := fun h => hcross i h i List.mem_cons_self rfl
  have h₂ : i ∉ l₂ := (List.nodup_cons.mp hnd₂).1
  rw [forPaths, hl, List.foldl_append, hid l₁ s h₁ hbefore, List.foldl_cons, hid l₂ _ h₂ hafter]

/-! ### The entry of the selected source (R71, R81) -/

/-- A path's selected source with another hop depth (R81). -/
def State.redepth (i : PathIx) (d : Nat) (s : State) : State :=
  s.modPath i fun p => { p with selected := p.selected.map fun x => { x with depth := d } }

theorem redepth_path_self (s : State) (i : PathIx) (d : Nat) : (s.redepth i d).path i =
    { s.path i with selected := (s.path i).selected.map fun x => { x with depth := d } } := State.path_modPath_self s i _
theorem redepth_path_ne (s : State) (d : Nat) (h : j ≠ i) : (s.redepth i d).path j = s.path j :=
  State.path_modPath_ne s i _ h
theorem redepth_slot (s : State) (i : PathIx) (d : Nat) (k : Slot) : (s.redepth i d).slot k = s.slot k := rfl

/-- A changed entry that is fit for the one path that has selected it tells that path its hop depth. -/
theorem noticeChanged_of_one {e : Source} {x : Selected} (hsel : (s.path i).selected = some x) (hslot : x.slot = e.slot)
    (hst : x.station = e.station) (hother : ∀ j, j ≠ i → (s.path j).selects e.slot e.station = false)
    (hfit : lostByChange s i e = false) : noticeChanged e s = s.redepth i e.depth := by
  have hone : takeChanged e i s = s.redepth i e.depth := by
    rw [takeChanged, if_pos ((SelectedBut.selects_iff _ _ _).mpr ⟨x, hsel, hslot, hst⟩), if_neg (by rw [hfit]; decide)]
    rfl
  have hrest := forPaths_of_one (F := takeChanged e) (s := s) (i := i) (fun j hj => ?_) fun j hj => ?_
  · exact hrest.trans hone
  · rw [takeChanged, hother j hj, if_neg (by decide)]
  · rw [hone, takeChanged, redepth_path_ne s e.depth hj, hother j hj, if_neg (by decide)]

/-- A frame of the one path's selected source, which the path may keep, writes its entry and the path's hop depth. -/
theorem takeSourceFrame_of_one {x : Selected} {latest : Option Nat} (hsel : (s.path i).selected = some x)
    (hst : x.station = f.station) (hother : ∀ j, j ≠ i → (s.path j).selects x.slot f.station = false)
    (hentry : ∃ e ∈ s.sources, e.slot = x.slot ∧ e.station = f.station) (hm : matchesCarry s f = true)
    (habs : f.absent = false) (hpr : f.programme = (s.carryOf i).programme) (hdepth : f.depth ≤ 14)
    (hup : f.upstream ≠ s.params.stationId) :
    ∃ es, takeSourceFrame f x.slot noise latest s = (s.withSources es).redepth i f.depth := by
  obtain ⟨e, he, hmine⟩ := hentry
  obtain ⟨y, hy⟩ := findSource_eq_some (f := f) he hmine
  obtain ⟨-, hyslot, hyst⟩ := findSource_some hy
  obtain ⟨hkslot, hkst⟩ := updateSource_key s f noise latest y
  have hfit : lostByChange (s.withSources (s.sources.map fun e =>
      if e.hasKey x.slot f.station then updateSource s f noise latest e else e)) i (updateSource s f noise latest y) = false := by
    have hupstream : (updateSource s f noise latest y).upstream ≠ some s.params.stationId := by
      have hread : (updateSource s f noise latest y).upstream = if f.depth = 0 then none else some f.upstream :=
        (updateSource_written s f noise latest y (updateSource s f noise latest y).barredUntil).upstream
      rw [hread]
      split
      · simp
      · simpa using hup
    have hup' : ((updateSource s f noise latest y).upstream == some s.params.stationId) = false := by simpa using hupstream
    have hcarry : (s.withSources (s.sources.map fun e =>
      if e.hasKey x.slot f.station then updateSource s f noise latest e else e)).carryOf i = s.carryOf i := rfl
    have hd : (updateSource s f noise latest y).depth = f.depth := rfl
    have ha : (updateSource s f noise latest y).absent = f.absent := rfl
    have hp : (updateSource s f noise latest y).programme = f.programme := rfl
    simp only [lostByChange, hcarry, ha, habs, hp, hpr, hd]
    have hne : f.depth ≠ 15 := by omega
    have hparams : ∀ es, (s.withSources es).params = s.params := fun _ => rfl
    rw [hparams]
    simpa [hne] using hupstream
  refine ⟨s.sources.map fun e => if e.hasKey x.slot f.station then updateSource s f noise latest e else e, ?_⟩
  rw [takeSourceFrame, hy]
  simp only [hm, if_true]
  have hd : (updateSource s f noise latest y).depth = f.depth := rfl
  rw [← hd]
  exact noticeChanged_of_one hsel (by rw [hkslot, hyslot]) (by rw [hkst, hyst, hst])
    (fun j hj => by rw [hkslot, hkst, hyslot, hyst]; exact hother j hj) hfit

/-! ### The slot claim table's act on the frame -/

/-- What the claims of a frame leave of a path that claims no slot and waits for none, and of the tables' agreement. -/
structure ClaimsMet (s u : State) : Prop where
  act : ActFrame s u
  sources : u.sources = s.sources
  selected : ∀ j, (u.path j).selected = (s.path j).selected
  rxSlot : ∀ j, (u.path j).rxSlot = (s.path j).rxSlot
  quiet : ∀ j, (s.path j).state ≠ .waitSlot → (s.path j).state ≠ .claiming → u.path j = s.path j
  watching : ∀ j, (s.path j).state = .waitSlot ∨ (s.path j).state = .claiming → watching (u.path j).state = true
  held : HeldClaimsStand s u
  attr : ∀ k, (u.slot k).attr = (s.slot k).attr
  claims : ClaimsOk u
  marks : MarksServed u

/-- A path that does not claim is not withdrawn by an event of the table. -/
theorem retestedEvent_path_quiet (hclaims : ClaimsOk s) {c : Nat} {g : Slot → List Peer → List Peer}
    (hst : (s.path j).state ≠ .claiming) :
    (retestedEvent c g s).path j = s.path j ∧ (retestedEvent c g s).wait j = s.wait j := by
  refine retestedEvent_path c g s fun k ho _ => Bool.eq_false_iff.mpr fun hw => ?_
  obtain ⟨hintent, -⟩ := (SlotEntry.withdrawn_iff _ _).mp hw
  obtain ⟨m, hm, -, hclaiming⟩ := hclaims.claiming_of_intent hintent
  rw [ho] at hm
  cases hm
  exact hst hclaiming

/-- A claiming path claims on or waits, by an event of the table. -/
theorem retestedEvent_watching (hclaims : ClaimsOk s) {c : Nat} {g : Slot → List Peer → List Peer}
    (hst : (s.path j).state = .claiming) : watching ((retestedEvent c g s).path j).state = true := by
  by_cases h : ∃ k, (s.slot k).ownPath = some j ∧ g k (s.slot k).peers ≠ (s.slot k).peers ∧
      ({ s.slot k with peers := g k (s.slot k).peers } : SlotEntry).withdrawn s.params.stationId = true
  · obtain ⟨k, ho, hne, hw⟩ := h
    rw [(retestedEvent_path_withdrawn ho (fun m hm => ?_) hst hne hw).1]
    · rfl
    · exact Option.some.inj ((hclaims.owner_iff.mp hm).symm.trans (hclaims.owner_iff.mp ho))
  · rw [(retestedEvent_path c g s fun k ho hne => Bool.eq_false_iff.mpr fun hw => h ⟨k, ho, hne, hw⟩).1, hst]
    rfl

theorem claimsMet_takeClaims {c : Nat} {st : StationId} {cs : List Claim} {heard : Slot} (hclaims : ClaimsOk s)
    (hmarks : MarksServed s) : ClaimsMet s (takeClaims c st cs heard s) := by
  have hreplace : ∀ k ps, PeersOk ps →
      PeersOk (replacePeer st cs heard (laterS s.now s.params.neighbourTimeout) k ps) := fun _ _ hp => hp.replacePeer
  have hact := takeClaims_act s c st cs heard
  have hclaims' := claimsOk_acts.peers (c := c) hreplace hclaims
  have hmarks' := marksServed_acts.peers (c := c) hreplace hmarks
  unfold takeClaims at hact ⊢
  generalize replacePeer st cs heard (laterS s.now s.params.neighbourTimeout) = g at *
  have hserved := settleNotices_served s (retestedEvent c g s)
  rw [← peerEvent_settled] at hserved
  refine ⟨hact, peerEvent_sources c g s, peerEvent_selected c g s, fun j => ?_, fun j hwait hclaiming => ?_, fun j hj => ?_,
    peerEvent_heldStand c g s, fun k => ?_, hclaims', hmarks'⟩
  · rw [hserved.rxSlot_eq, retestedEvent_rxSlot]
  · have hquiet := (retestedEvent_path_quiet hclaims (c := c) (g := g) hclaiming).1
    rw [hserved.path_eq (by rw [hquiet]; exact hwait), hquiet]
  · have hmid : watching ((retestedEvent c g s).path j).state = true := by
      rcases hj with hj | hj
      · rw [(retestedEvent_path_quiet hclaims (c := c) (g := g) (by rw [hj]; decide)).1, hj]
        rfl
      · exact retestedEvent_watching hclaims hj
    obtain h | ⟨k, hk⟩ := hserved.path j
    · rw [h]; exact hmid
    · exact watching_of (.inr hk.state_cases)
  · rw [hserved.acts.attr_eq, retestedEvent_attr]

/-! ### What the path controller meets -/

theorem Meets.claimsOk (h : Meets s v) (hs : ClaimsOk s) : ClaimsOk v :=
  hs.congr (fun k => by rw [h.slot]; exact ⟨rfl, rfl, rfl, rfl⟩) (fun k => by rw [h.slot]; exact .inl rfl)
    (fun i => by rw [h.path]) fun i => by rw [h.path]; exact .inl rfl

theorem Meets.marksServed (h : Meets s v) (hs : MarksServed s) : MarksServed v := fun j => by
  rw [h.wait]
  exact hs j

/-- The state in which the path controller meets a good frame of the source that path i has selected: the claims of the
frame are taken, and the path's record of its source has the hop depth d. -/
structure SourceMet (s v : State) (i : PathIx) (d : Nat) : Prop where
  now : v.now = s.now
  gov : v.gov = s.gov
  params : v.params = s.params
  permitted : v.claimingPermitted = s.claimingPermitted
  carryOf : ∀ j, v.carryOf j = s.carryOf j
  claims : ClaimsOk v
  freed : (v.wait i).freed = false
  selected : (v.path i).selected = (s.path i).selected.map fun x => { x with depth := d }
  rxSlot : (v.path i).rxSlot = (s.path i).rxSlot
  quiet : (s.path i).state ≠ .waitSlot → (s.path i).state ≠ .claiming →
    v.path i = { s.path i with selected := (s.path i).selected.map fun x => { x with depth := d } }
  watching : (s.path i).state = .waitSlot ∨ (s.path i).state = .claiming → watching (v.path i).state = true
  others : ∀ j, j ≠ i → (s.path j).state ≠ .waitSlot → (s.path j).state ≠ .claiming → v.path j = s.path j
  held : HeldClaimsStand s v
  attr : ∀ k, (v.slot k).attr = (s.slot k).attr

theorem ClaimsMet.sourceMet {es : List Source} {d : Nat} (hv : Meets s v) (hu : ClaimsMet v u) :
    SourceMet s ((u.withSources es).redepth i d) i d where
  now := hu.act.now_eq.trans hv.now
  gov := hu.act.gov_eq.trans hv.gov
  params := hu.act.params_eq.trans hv.params
  permitted := hu.act.permitted_eq.trans hv.permitted
  carryOf j := (hu.act.carryOf_eq j).trans (hv.carryOf j)
  claims := by
    refine hu.claims.congr (fun k => ⟨rfl, rfl, rfl, rfl⟩) (fun k => .inl rfl) (fun j => ?_) fun j => .inl ?_
    all_goals
      rcases eq_or_ne j i with rfl | hne
      · rw [redepth_path_self, withSources_path]
      · rw [redepth_path_ne _ _ hne, withSources_path]
  freed := hu.marks i
  selected := by rw [redepth_path_self, withSources_path, hu.selected, hv.path]
  rxSlot := by rw [redepth_path_self, withSources_path, hu.rxSlot, hv.path]
  quiet hwait hclaiming := by
    rw [redepth_path_self, withSources_path, hu.quiet i (by rw [hv.path]; exact hwait) (by rw [hv.path]; exact hclaiming), hv.path]
  watching h := by
    rw [redepth_path_self, withSources_path]
    exact hu.watching i (by rw [hv.path]; exact h)
  others j hne hwait hclaiming := by
    rw [redepth_path_ne _ _ hne, withSources_path,
      hu.quiet j (by rw [hv.path]; exact hwait) (by rw [hv.path]; exact hclaiming), hv.path]
  held k hk := by
    have h := hu.held k (by rw [hv.slot]; exact hk)
    rw [hv.slot] at h
    exact h
  attr k := by rw [redepth_slot, withSources_slot, hu.attr, hv.slot]

/-- A good frame of the source that a path has selected comes to the path controller. -/
theorem framerOutcome_of_source {bs : List Byte} {r : Neighbour} {x : Selected}
    (ho : (s.framer (.path i)).outcome = some (.good bs noise)) (hst : s.station = .listen ∨ s.station = .running)
    (htables : TablesOk s) (hclaims : ClaimsOk s) (hmarks : MarksServed s)
    (hr : r ∈ s.neighbours) (hrst : r.station = (readFrame bs).station) (hnet : r.network = (readFrame bs).network)
    (hown : (readFrame bs).station ≠ s.params.stationId) (hxst : (readFrame bs).station = x.station)
    (hpr : (readFrame bs).programme = (s.carryOf i).programme) (hen : (s.carryOf i).enabled = true)
    (hfnet : (readFrame bs).network = s.params.networkId) (habs : (readFrame bs).absent = false)
    (hdepth : (readFrame bs).depth ≤ 14) (hup : (readFrame bs).upstream ≠ s.params.stationId)
    (hsel : (s.path i).selected = some x) (hword : (s.rxSide i).word = slotWord x.slot)
    (hentry : ∃ e ∈ s.sources, e.slot = x.slot ∧ e.station = x.station)
    (hother : ∀ (j : PathIx) (y : Selected), j ≠ i → (s.path j).selected = some y → ¬(y.slot = x.slot ∧ y.station = x.station)) :
    ∃ v, SourceMet s v i (readFrame bs).depth ∧
      framerOutcome (.path i) order s = takeGoodFrame i x.station (s.carryOf i).programme x.slot v := by
  obtain ⟨v, hv, heff⟩ := framerOutcome_of_known (order := order) ho (by simp) hst hown htables.2.2.1.2 hr hrst hnet
  have hheard : heardBy v (.path i) = x.slot := by
    have hrx : (s.rxOf (.path i)).word = slotWord x.slot := hword
    rw [heardBy, hv.rxOf, hrx, heardSlot_slotWord]
  have hmet := claimsMet_takeClaims (c := order.cancelAfter) (st := (readFrame bs).station) (cs := (readFrame bs).claims)
    (heard := heardBy v (.path i)) (hv.claimsOk hclaims) (hv.marksServed hmarks)
  rw [heff, routeHeld_path, State.sourceTaken, State.claimsTaken]
  generalize takeClaims order.cancelAfter _ _ _ v = u at *
  have hparams : u.params = s.params := hmet.act.params_eq.trans hv.params
  have hcarry (j : PathIx) : u.carryOf j = s.carryOf j := (hmet.act.carryOf_eq j).trans (hv.carryOf j)
  obtain ⟨es, hes⟩ := takeSourceFrame_of_one (s := u) (i := i) (f := readFrame bs) (noise := noise) (x := x)
    (latest := latestMeasurement u (.path i)) (by rw [hmet.selected, hv.path]; exact hsel) hxst.symm
    (fun j hj => by
      rw [Bool.eq_false_iff, Ne, SelectedBut.selects_iff]
      rintro ⟨y, hy, hslot, hyst⟩
      rw [hmet.selected, hv.path] at hy
      exact hother j y hj hy ⟨hslot, hyst.trans hxst⟩)
    (by rw [hmet.sources, hv.sources, hxst]; exact hentry)
    ((matchesCarry_iff _ _).mpr ⟨⟨i, by rw [hcarry]; exact ⟨hen, hpr.symm⟩⟩, .inl (by rw [hparams]; exact hfnet)⟩)
    habs (by rw [hcarry]; exact hpr) hdepth (by rw [hparams]; exact hup)
  refine ⟨(u.withSources es).redepth i (readFrame bs).depth, hmet.sourceMet hv, ?_⟩
  rw [hheard, hes, hxst, hpr]
  rfl

/-! ### The end of an acquisition (R117, R121) -/

theorem takeGoodFrame_of_selected {x : Selected} {pr : ProgrammeId} {heard : Slot} (hsel : (s.path i).selected = some x)
    (hpr : (s.carryOf i).programme = pr) (hrx : (s.path i).rxSlot = some heard) :
    takeGoodFrame i x.station pr heard s =
      if acquiring (s.path i).state then (if (s.path i).check == .passed then acquire i s else s)
      else if watching (s.path i).state then s.modPath i fun p => { p with lastSourceFrame := some s.now } else s := by
  rw [takeGoodFrame, if_pos (by simp [ofSelected, hsel, hpr, hrx])]

/-- What the request of a path that has just acquired its source makes of it (R95, R96, R99, R117, R121). -/
structure Requests (s t : State) (i : PathIx) : Prop where
  path : t.path i = { s.path i with
    state := (t.path i).state, event := (t.path i).event, acquireDeadline := none
    lastSourceFrame := some s.now, lowCarrier := 0, acquired := true, output := (t.path i).output
    txPending := (t.path i).txPending, cond := condOf s.gov.site (t.path i)
    cancelOwed := if (t.path i).output = none then (s.path i).cancelOwed else 0 }
  freed : (t.wait i).freed = false
  refused : s.claimingPermitted = false → (t.path i).state = .waitSlot ∧ (t.path i).event = some .acquired ∧
    (t.path i).output = none ∧ (t.path i).txPending = (s.path i).txPending
  asked : s.claimingPermitted = true →
    ((t.path i).state = .waitSlot ∧ (t.path i).event = some .acquired ∧ (t.path i).output = none ∧ anyEligible t = false) ∨
    (∃ k : Slot, (t.path i).state = .claiming ∧ (t.path i).event = some .acquired ∧
      (t.path i).output = some k ∧ (t.path i).txPending = true ∧ (t.wait i).retryDeadline = none ∧
      t.slot k = { attr := (s.slot k).attr, own := .intent, ownPath := some i, ownPinned := false
                   ownDeadline := some (laterS s.now s.params.claimHoldOff), collision := none, peers := [] } ∧
      mayTransmit (s.slot k).attr = true ∧ guarded t k = false ∧
      (∀ j : Slot, eligible t j = true →
        slotDistance k (s.carryOf i).preferred < slotDistance j (s.carryOf i).preferred ∨
        (slotDistance k (s.carryOf i).preferred = slotDistance j (s.carryOf i).preferred ∧ k < j))) ∨
    ((s.carryOf i).pinned = true ∧ (t.path i).state = .on ∧ (t.path i).event = some .claimWon ∧
      (t.path i).output = some (s.carryOf i).preferred ∧ (t.path i).txPending = true ∧
      (t.wait i).retryDeadline = none ∧
      (t.slot (s.carryOf i).preferred).own = .held ∧ (t.slot (s.carryOf i).preferred).ownPath = some i ∧
      (t.slot (s.carryOf i).preferred).ownPinned = true ∧
      ∀ q ∈ (t.slot (s.carryOf i).preferred).peers, q.pinned = false)
  unpinned : (s.carryOf i).pinned = true → (t.path i).state ≠ .on → s.claimingPermitted = true →
    pinnedEligible t (s.carryOf i).preferred = false

/-- Claims leave no pinned claim possible where none was. -/
theorem Served.pinnedEligible_of (h : Served s t) {k : Slot} (hk : pinnedEligible t k = true) : pinnedEligible s k = true := by
  obtain ⟨hattr, hown, hpeers, hguard⟩ := (pinnedEligible_iff t k).mp hk
  have hslot := h.slot_eq_of_free hown
  rw [hslot] at hattr hown hpeers
  rw [h.guarded_eq] at hguard
  exact (pinnedEligible_iff s k).mpr ⟨hattr, hown, hpeers, hguard⟩

theorem chooseAndClaim_forbidden (hp : s.claimingPermitted = false) : chooseAndClaim i s = refuseClaim i s := by
  rw [chooseAndClaim, if_pos (by rw [hp]; rfl)]

theorem chooseAndClaim_nothing (hp : s.claimingPermitted = true) (hh : holdsSlot s i = false)
    (hpin : (s.carryOf i).pinned = false ∨ pinnedEligible s (s.carryOf i).preferred = false)
    (hk : nearestEligible s (s.carryOf i).preferred = none) : chooseAndClaim i s = refuseClaim i s := by
  unfold chooseAndClaim
  rw [if_neg (by simp [hp]), if_neg (by simp [hh]), if_neg (by rcases hpin with h | h <;> simp [h]), hk]

/-- The record of a path whose acquisition has ended in WAIT_SLOT (R117). -/
def PathRec.acquiredWaiting (now : Time) (site : Site) (p : PathRec) : PathRec :=
  { acquiredRecord now p with
    state := .waitSlot, event := some .acquired, cond := condOf site { p with state := .waitSlot } }

theorem acquireAct_path_acquiring (hst : (s.path i).state = .acquiring) :
    (acquireAct i s).path i = (s.path i).acquiredWaiting s.now s.gov.site := by
  rw [acquireAct_path_self (by rw [hst]; decide)]
  simp [hst, PathRec.acquiredWaiting, acquiredRecord]

section requests

variable (hclaims : ClaimsOk s) (hst : (s.path i).state = .acquiring)
include hclaims hst

theorem acquiring_output : (s.path i).output = none := hclaims.output_eq_none (by rw [hst]; simp)

theorem acquireAct_holdsNone : holdsSlot (acquireAct i s) i = false := by
  rw [holdsSlot_eq_false_iff]
  intro k hk
  rw [acquireAct_slot] at hk
  have hout := hclaims.owner_iff.mp hk
  rw [acquiring_output hclaims hst] at hout
  cases hout

/-- A refused request leaves the path waiting. -/
theorem requests_refused (hany : s.claimingPermitted = true → anyEligible (refuseClaim i (acquireAct i s)) = false)
    (hpin : (s.carryOf i).pinned = true → s.claimingPermitted = true →
      pinnedEligible (refuseClaim i (acquireAct i s)) (s.carryOf i).preferred = false) :
    Requests s (refuseClaim i (acquireAct i s)) i := by
  have hout := acquiring_output hclaims hst
  have hpath : (refuseClaim i (acquireAct i s)).path i = (s.path i).acquiredWaiting s.now s.gov.site :=
    acquireAct_path_acquiring hst
  refine ⟨?_, by simp [refuseClaim], fun _ => ?_, fun hp => .inl ?_, fun h _ hp => hpin h hp⟩
  · rw [hpath]
    simp [PathRec.acquiredWaiting, acquiredRecord, hout, condOf]
  · rw [hpath]
    exact ⟨rfl, rfl, hout, rfl⟩
  · rw [hpath]
    exact ⟨rfl, rfl, hout, hany hp⟩

omit hclaims in
theorem requests_intent {k : Slot} (hp : s.claimingPermitted = true)
    (hk : nearestEligible (acquireAct i s) (s.carryOf i).preferred = some k)
    (hserved : Served (acquireAct i s) (takeIntent i k (acquireAct i s)))
    (hpin : (s.carryOf i).pinned = true → pinnedEligible (acquireAct i s) (s.carryOf i).preferred = false) :
    Requests s (takeIntent i k (acquireAct i s)) i := by
  have hact := (Acts.acquireAct s i).frame
  have hpath := takeIntent_path_self (s := acquireAct i s) (i := i)
    (by rw [acquireAct_path_acquiring hst]; simp [PathRec.acquiredWaiting]) k
  rw [acquireAct_path_acquiring hst, hact.gov_eq] at hpath
  obtain ⟨hel, hbest⟩ := nearestEligible_spec hk
  obtain ⟨hattr, -, hpeers, hguard⟩ := (eligible_iff _ k).mp hel
  have hslot := takeIntent_slot_self (acquireAct i s) i k
  rw [acquireAct_slot] at hattr hpeers hslot
  refine ⟨?_, by rw [takeIntent_wait_self], fun h => (by rw [hp] at h; cases h), fun _ => .inr (.inl ⟨k, ?_⟩), fun h _ _ => ?_⟩
  · rw [hpath]
    simp [PathRec.claiming, PathRec.acquiredWaiting, acquiredRecord, condOf]
  · rw [hpath, takeIntent_wait_self, hslot, hserved.guarded_eq]
    refine ⟨rfl, rfl, rfl, rfl, rfl, ?_, hattr, hguard, fun j hj => ?_⟩
    · rw [SlotEntry.intended, hpeers, hact.now_eq, hact.params_eq]
    · refine (hbest j (hserved.eligible_of hj)).imp_right (And.imp_right fun hle => lt_of_le_of_ne hle ?_)
      rintro rfl
      obtain ⟨-, hown, -⟩ := (eligible_iff _ _).mp hj
      rw [hslot] at hown
      cases hown
  · exact Bool.eq_false_iff.mpr fun hel => Bool.eq_false_iff.mp (hpin h) (hserved.pinnedEligible_of hel)

omit hclaims in
theorem requests_pinned (hp : s.claimingPermitted = true) (hpin : (s.carryOf i).pinned = true)
    (hel : pinnedEligible (acquireAct i s) (s.carryOf i).preferred = true) :
    Requests s (takePinned i (s.carryOf i).preferred (acquireAct i s)) i := by
  have hact := (Acts.acquireAct s i).frame
  have hpath := takePinned_path_self (s := acquireAct i s) (i := i) (s.carryOf i).preferred
  rw [acquireAct_path_acquiring hst, hact.gov_eq] at hpath
  obtain ⟨-, -, hpeers, -⟩ := (pinnedEligible_iff _ _).mp hel
  have hslot := takePinned_slot_self (acquireAct i s) i (s.carryOf i).preferred
  rw [acquireAct_slot] at hpeers hslot
  refine ⟨?_, by rw [takePinned_wait_self], fun h => (by rw [hp] at h; cases h), fun _ => .inr (.inr ?_), fun _ h => ?_⟩
  · rw [hpath]
    simp [PathRec.pinnedOn, PathRec.acquiredWaiting, acquiredRecord, condOf]
  · rw [hpath, takePinned_wait_self, hslot]
    exact ⟨hpin, rfl, rfl, rfl, rfl, rfl, rfl, rfl, rfl, hpeers⟩
  · rw [hpath] at h
    exact absurd rfl h

theorem requests_chooseAndClaim : Requests s (chooseAndClaim i (acquireAct i s)) i := by
  have hact := (Acts.acquireAct s i).frame
  have hnone := acquireAct_holdsNone hclaims hst
  have hcarry := hact.carryOf_eq i
  have hserved : Served (acquireAct i s) (chooseAndClaim i (acquireAct i s)) :=
    chooseAndClaim_served (by rw [acquireAct_path_acquiring hst]; rfl)
  cases hp : s.claimingPermitted with
  | false =>
    have hforbidden := chooseAndClaim_forbidden (i := i) (hact.permitted_eq.trans hp)
    rw [hforbidden]
    refine requests_refused hclaims hst (fun h => ?_) fun _ h => ?_ <;> rw [hp] at h <;> cases h
  | true =>
    have hp' := hact.permitted_eq.trans hp
    by_cases hpin : (s.carryOf i).pinned = true ∧ pinnedEligible (acquireAct i s) (s.carryOf i).preferred = true
    · obtain ⟨hpin, hel⟩ := hpin
      rw [chooseAndClaim_pinned hp' hnone (by rw [hcarry]; exact hpin) (by rw [hcarry]; exact hel), hcarry]
      exact requests_pinned hst hp hpin hel
    · have hpin' : (s.carryOf i).pinned = true → pinnedEligible (acquireAct i s) (s.carryOf i).preferred = false :=
        fun h => Bool.eq_false_iff.mpr fun hel => hpin ⟨h, hel⟩
      have hor : ((acquireAct i s).carryOf i).pinned = false ∨
          pinnedEligible (acquireAct i s) ((acquireAct i s).carryOf i).preferred = false := by
        rw [hcarry]
        cases h : (s.carryOf i).pinned with
        | false => exact .inl rfl
        | true => exact .inr (hpin' h)
      cases hk : nearestEligible (acquireAct i s) (s.carryOf i).preferred with
      | none =>
        have hnothing := chooseAndClaim_nothing hp' hnone hor (by rw [hcarry]; exact hk)
        rw [hnothing]
        rw [hnothing] at hserved
        refine requests_refused hclaims hst (fun _ => hserved.anyEligible_of ?_) fun h _ => ?_
        · exact (anyEligible_eq_false_iff _).mpr ((nearestEligible_eq_none_iff _ _).mp hk)
        · exact Bool.eq_false_iff.mpr fun hel => Bool.eq_false_iff.mp (hpin' h) (hserved.pinnedEligible_of hel)
      | some k =>
        have hintent := chooseAndClaim_intent hp' hnone hor (by rw [hcarry]; exact hk)
        rw [hintent]
        rw [hintent] at hserved
        exact requests_intent hst hp hk hserved hpin'

end requests

/-! ### The end of an acquisition beside its path -/

theorem acquire_switching (hst : (s.path i).state = .switching) : acquire i s = acquireAct i s := by
  rw [acquire_eq, if_pos hst]

theorem acquire_acquiring (hst : (s.path i).state = .acquiring) : acquire i s = chooseAndClaim i (acquireAct i s) := by
  rw [acquire_eq, if_neg (by rw [hst]; decide)]

/-- An acquisition's end leaves the other paths and the claims that are taken. -/
theorem acquire_beside (hst : acquiring (s.path i).state = true) :
    (∀ j, j ≠ i → (s.path j).state ≠ .waitSlot → (acquire i s).path j = s.path j) ∧ HeldClaimsStand s (acquire i s) := by
  rcases (acquiring_iff _).mp hst with h | h
  · have hserved : Served (acquireAct i s) (chooseAndClaim i (acquireAct i s)) :=
      chooseAndClaim_served (by rw [acquireAct_path_acquiring h]; rfl)
    rw [acquire_acquiring h]
    refine ⟨fun j hj hw => ?_, fun k hk => ?_⟩
    · have hself := acquireAct_path_ne s hj
      rw [hserved.path_eq (by rw [hself]; exact hw), hself]
    · rw [hserved.slot_eq (by rw [acquireAct_slot, hk]; decide), acquireAct_slot]
      exact ⟨hk, rfl, rfl⟩
  · rw [acquire_switching h]
    refine ⟨fun j hj _ => acquireAct_path_ne s hj, fun k hk => ?_⟩
    rw [acquireAct_slot]
    exact ⟨hk, rfl, rfl⟩

/-- A good frame of the selected source leaves the other paths and the claims that are taken. -/
theorem takeGoodFrame_beside {st : StationId} {pr : ProgrammeId} {heard : Slot} :
    (∀ j, j ≠ i → (s.path j).state ≠ .waitSlot → (takeGoodFrame i st pr heard s).path j = s.path j) ∧
      HeldClaimsStand s (takeGoodFrame i st pr heard s) := by
  have hid : HeldClaimsStand s s := fun k hk => ⟨hk, rfl, rfl⟩
  unfold takeGoodFrame
  split
  · split
    · rename_i hacq
      split
      · exact acquire_beside hacq
      · exact ⟨fun _ _ _ => rfl, hid⟩
    · split
      · exact ⟨fun j hj _ => State.path_modPath_ne _ _ _ hj, hid⟩
      · exact ⟨fun _ _ _ => rfl, hid⟩
  · exact ⟨fun _ _ _ => rfl, hid⟩

theorem HeldClaimsStand.trans (h : HeldClaimsStand s t) (g : HeldClaimsStand t u) : HeldClaimsStand s u := fun k hk => by
  obtain ⟨hown, hpath, hpin⟩ := h k hk
  obtain ⟨hown', hpath', hpin'⟩ := g k hown
  exact ⟨hown', hpath'.trans hpath, hpin'.trans hpin⟩

end Sys2Proof.Machine

namespace Sys2Proof

open Machine

/-- Settles O45: the frame's claims move no path that neither claims nor waits, the source keeps its entry, and the path
controller ends the acquisition, lets it go on or notes the frame by the path's state. -/
theorem acquisitionEndsAsAcquired : Obligations.AcquisitionEndsAsAcquired := by
  intro i order bs noise r x s ho hst htables hclaims hmarks hr hrst hnet hown hxst hpr hen hfnet habs hdepth hup hsel hrx
    hword hentry hother
  obtain ⟨v, hv, heff⟩ := framerOutcome_of_source (order := order) ho hst htables hclaims hmarks hr hrst hnet hown hxst hpr
    hen hfnet habs hdepth hup hsel hword hentry hother
  have hvsel : (v.path i).selected = some { x with depth := (readFrame bs).depth } := by rw [hv.selected, hsel]; rfl
  have htake := takeGoodFrame_of_selected hvsel (pr := (s.carryOf i).programme) (by rw [hv.carryOf]) (hv.rxSlot.trans hrx)
  obtain ⟨hothers, hheld⟩ := takeGoodFrame_beside (s := v) (i := i) (st := x.station) (pr := (s.carryOf i).programme)
    (heard := x.slot)
  rw [answers_iff, effect, heff]
  have hquiet (h : (s.path i).state ≠ .waitSlot ∧ (s.path i).state ≠ .claiming) :
      v.path i = { s.path i with selected := some { x with depth := (readFrame bs).depth } } := by
    rw [hv.quiet h.1 h.2, hsel]
    rfl
  refine ⟨fun j hj hw hc => ?_, HeldClaimsStand.trans hv.held hheld, fun hsw hp => ?_, fun hacq hp => ?_, fun hst hp => ?_,
    fun hon => ?_, fun hwatch => ?_⟩
  · have hself := hv.others j hj hw hc
    rw [hothers j hj (by rw [hself]; exact hw), hself]
  · have hvi := hquiet (by rw [hsw]; decide)
    rw [htake, if_pos (by rw [hvi]; simp [acquiring, hsw]), if_pos (by rw [hvi]; simp [hp]),
      acquire_switching (by rw [hvi]; exact hsw), acquireAct_path_self (by rw [hvi]; simp [hsw]), hvi, hv.now, hv.gov]
    simp [hsw, acquiredRecord, condOf]
  · have hvi := hquiet (by rw [hacq]; decide)
    have hvst : (v.path i).state = .acquiring := by rw [hvi]; exact hacq
    have hreq := requests_chooseAndClaim hv.claims hvst
    rw [htake, if_pos (by rw [hvst]; rfl), if_pos (by rw [hvi]; simp [hp]), acquire_acquiring hvst]
    generalize chooseAndClaim i (acquireAct i v) = t at *
    obtain ⟨hpath, hfreed, hrefused, hasked, hunpinned⟩ := hreq
    simp only [hv.permitted, hv.carryOf, hv.now, hv.gov, hv.params, hv.attr] at hpath hrefused hasked hunpinned
    rw [hvi] at hpath hrefused
    exact ⟨hpath, hfreed, hrefused, hasked, hunpinned⟩
  · have hvi := hquiet (by rcases hst with h | h <;> rw [h] <;> decide)
    rw [htake, if_pos (by rw [hvi]; rcases hst with h | h <;> simp [acquiring, h]), if_neg (by rw [hvi]; simpa using hp)]
    exact hvi
  · have hvi := hquiet (by rw [hon]; decide)
    rw [htake, if_neg (by rw [hvi]; simp [acquiring, hon]), if_pos (by rw [hvi]; simp [watching, hon]),
      State.path_modPath_self, hvi, hv.now]
  · have hw := hv.watching hwatch
    rw [htake, if_neg (by rw [not_acquiring_of_watching hw]; decide), if_pos hw, State.path_modPath_self, hvsel, hv.now]
    exact ⟨rfl, rfl⟩

end Sys2Proof
end
section
/-! PROOFS. The sweeps: records, peer records and source entries of what has fallen silent go, and the waiting paths ask
(O52). -/

namespace Sys2Proof.Machine

open Sys2Proof

variable {s t u v : State} {i j : PathIx} {k : Slot}

/-! ### What events that only remove records leave (R63, R79, R103) -/

/-- From s to t records have been removed and claims made or given up: own HELD claims stand, the waiting paths have asked,
a path comes to wait only from an INTENT with peer records, and a new INTENT has none. -/
structure Swept (s t : State) : Prop where
  claims : ClaimsOk t
  permitted : t.claimingPermitted = s.claimingPermitted
  held : HeldClaimsStand s t
  asks : WaitersAsk s t
  waits : ∀ i, (t.path i).state = .waitSlot → (s.path i).state = .waitSlot ∨
    ∃ k, (s.slot k).own = .intent ∧ (s.slot k).ownPath = some i ∧ (s.slot k).peers ≠ []
  intent : ∀ k, (t.slot k).own = .intent → (t.slot k).peers = [] ∨
    ((s.slot k).own = .intent ∧ (s.slot k).ownPath = (t.slot k).ownPath ∧ ((s.slot k).peers = [] → (t.slot k).peers = []))

theorem ClaimsOk.holdsNone (hs : ClaimsOk s) (hw : (s.path i).state = .waitSlot) : holdsSlot s i = false := by
  rw [holdsSlot_eq_false_iff]
  intro k hk
  have hout := hs.owner_iff.mp hk
  rw [hs.output_eq_none (by rw [hw]; simp)] at hout
  cases hout

namespace Swept

theorem refl (hs : ClaimsOk s) : Swept s s where
  claims := hs
  permitted := rfl
  held _ hk := ⟨hk, rfl, rfl⟩
  asks _ _ _ _ hk := hk
  waits _ h := .inl h
  intent _ h := .inr ⟨h, rfl, id⟩

/-- A path that waited without a slot has not come to wait anew. -/
theorem stillWaits (h : Swept s u) (g : Swept u t) (hi : WaitsOn s t i) : (u.path i).state = .waitSlot := by
  obtain ⟨-, hnone, hon⟩ := hi
  refine (g.waits i hon).resolve_right fun ⟨k, hown, howner, hpeers⟩ => ?_
  obtain hnil | ⟨-, ho, -⟩ := h.intent k hown
  · exact hpeers hnil
  · exact (holdsSlot_eq_false_iff s i).mp hnone k (ho.trans howner)

theorem trans (h : Swept s u) (g : Swept u t) : Swept s t where
  claims := g.claims
  permitted := g.permitted.trans h.permitted
  held := HeldClaimsStand.trans h.held g.held
  asks hp i hi k hk := by
    have hw := h.stillWaits g hi
    obtain ⟨hs, hnone, hon⟩ := hi
    exact h.asks hp i ⟨hs, hnone, hw⟩ k (g.asks (h.permitted.trans hp) i ⟨hw, h.claims.holdsNone hw, hon⟩ k hk)
  waits i hi := by
    rcases g.waits i hi with hw | ⟨k, hown, howner, hpeers⟩
    · exact h.waits i hw
    · obtain hnil | ⟨ho, hpath, himp⟩ := h.intent k hown
      · exact absurd hnil hpeers
      · exact .inr ⟨k, ho, hpath.trans howner, fun hnil => hpeers (himp hnil)⟩
  intent k hk := by
    rcases g.intent k hk with hnil | ⟨hown, hpath, himp⟩
    · exact .inl hnil
    · exact (h.intent k hown).imp himp fun ⟨ho, hp, hq⟩ => ⟨ho, hp.trans hpath, himp ∘ hq⟩

/-- An act on one path, which does not leave it waiting and gives up no HELD claim, with the requests behind it. -/
theorem of_act (h : ActOn i s u) (hclaims : ClaimsOk (settleNotices s u)) (hw : (u.path i).state ≠ .waitSlot)
    (hheld : ∀ k, (s.slot k).own = .held → u.slot k = s.slot k) : Swept s (settleNotices s u) := by
  have hserved := settleNotices_served s u
  refine ⟨hclaims, h.settled_frame.permitted_eq, fun k hk => ?_, h.settled_asks hw, fun j hj => .inl ?_, fun k hk => ?_⟩
  · rw [hserved.slot_eq (by rw [hheld k hk, hk]; decide), hheld k hk]
    exact ⟨hk, rfl, rfl⟩
  · have hu := hserved.path_eq_of_waits hj
    rw [hu] at hj
    exact h.others j (by rintro rfl; exact hw hj) ▸ hj
  · obtain he | ⟨j, hj⟩ := hserved.slot k
    · rw [he] at hk ⊢
      obtain hs | ⟨-, hs⟩ := h.slot k
      · rw [hs] at hk ⊢
        exact .inr ⟨hk, rfl, id⟩
      · rw [hs] at hk
        cases hk
    · obtain ⟨hnil, he, -⟩ | ⟨-, -, -, he, -⟩ := hj.taken
      · rw [he]
        exact .inl hnil
      · rw [he] at hk
        cases hk

theorem sourceLost (hs : ClaimsOk s) (i : PathIx) : Swept s (sourceLost i s) := by
  obtain he | ⟨-, ha, he⟩ | ⟨-, hw, he⟩ := sourceLost_cases s i
  · rw [he]
    exact .refl hs
  · rw [he]
    have hclaims : ClaimsOk (settleNotices s (failAct i s)) := claimsOk_acts.fail ha hs
    have hslot := failAct_slot s i
    have hact := actOn_failAct (s := s) i
    have hwait := failAct_keepsWait ha
    generalize failAct i s = u at *
    exact of_act hact hclaims hwait fun k _ => hslot k
  · rw [he]
    refine of_act (u := loseSource i s) (actOn_loseSource i) (claimsOk_acts.lose hw hs) (loseSource_keepsWait hw) fun k hk => ?_
    rw [loseSource_slot, if_neg]
    rintro ⟨hst, howner⟩
    obtain ⟨hn, -⟩ | ⟨m, hm, ⟨-, hintent⟩ | ⟨h | h | h, -⟩⟩ := (outputFits_iff s i).mp (hs.fits i)
    · rw [hs.owner_iff.mp howner] at hn; cases hn
    · obtain rfl : m = k := Option.some.inj (hm.symm.trans (hs.owner_iff.mp howner))
      rw [hk] at hintent; cases hintent
    all_goals rw [hst] at h; cases h

/-- An event that makes no peer list of an empty one. -/
theorem peerEvent {f : Slot → List Peer → List Peer} (hs : ClaimsOk s) (hf : ∀ k ps, PeersOk ps → PeersOk (f k ps))
    (hnil : ∀ k, f k [] = []) : Swept s (serveMarks (peerEvent 0 f s)) := by
  have hclaims := claimsOk_acts.peers (c := 0) hf hs
  have hasks := peerEvent_waitersAsk 0 f s
  have hheld := peerEvent_heldStand 0 f s
  have hpermitted := ((peerEvent_act s 0 f).trans (serveMarks_act _)).permitted_eq
  have hserved := settleNotices_served s (retestedEvent 0 f s)
  have hslot := retestedEvent_slot 0 f s
  have hpath := fun j => retestedEvent_path (i := j) 0 f s
  rw [← peerEvent_settled] at hserved
  generalize retestedEvent 0 f s = u at *
  have hchanged (k : Slot) (h : f k (s.slot k).peers ≠ (s.slot k).peers) : (s.slot k).peers ≠ [] := by
    intro he
    rw [he, hnil] at h
    exact h rfl
  refine ⟨hclaims, hpermitted, hheld, hasks, fun j hj => ?_, fun k hk => ?_⟩
  · by_cases h : ∃ k, (s.slot k).ownPath = some j ∧ f k (s.slot k).peers ≠ (s.slot k).peers ∧
        ({ s.slot k with peers := f k (s.slot k).peers } : SlotEntry).withdrawn s.params.stationId = true
    · obtain ⟨k, howner, hne, hw⟩ := h
      exact .inr ⟨k, ((SlotEntry.withdrawn_iff _ _).mp hw).1, howner, hchanged k hne⟩
    · have hself := (hpath j fun k ho hne => Bool.eq_false_iff.mpr fun hw => h ⟨k, ho, hne, hw⟩).1
      rw [hserved.path_eq_of_waits hj, hself] at hj
      exact .inl hj
  · obtain he | ⟨i, hi⟩ := hserved.slot k
    · rw [he] at hk ⊢
      rw [hslot] at hk ⊢
      split at hk
      · rename_i hsame
        rw [if_pos hsame]
        exact .inr ⟨hk, rfl, id⟩
      · rename_i hne
        rw [if_neg hne]
        have hintent : (s.slot k).own = .intent := by
          cases hown : (s.slot k).own with
          | none => rw [SlotEntry.retest_none (by exact hown), hown] at hk; cases hk
          | intent => rfl
          | held => rw [SlotEntry.retest_held (by exact hown), hown] at hk; cases hk
        cases hw : ({ s.slot k with peers := f k (s.slot k).peers } : SlotEntry).withdrawn s.params.stationId with
        | true =>
          rw [SlotEntry.retest_withdrawn hw] at hk
          cases hk
        | false =>
          rw [SlotEntry.retest_intent (by exact hintent) hw]
          exact .inr ⟨hintent, rfl, fun he => (by rw [he]; exact hnil k)⟩
    · obtain ⟨hnone, he, -⟩ | ⟨-, -, -, he, -⟩ := hi.taken
      · rw [he]
        exact .inl hnone
      · rw [he] at hk
        cases hk

theorem sourcesOnly (hs : ClaimsOk s) (es : List Source) : Swept s (s.withSources es) where
  claims := hs
  permitted := rfl
  held _ hk := ⟨hk, rfl, rfl⟩
  asks _ _ _ _ hk := hk
  waits _ h := .inl h
  intent _ h := .inr ⟨h, rfl, id⟩

theorem listedOnly (hs : ClaimsOk s) (ns : List Neighbour) (o : Bool) : Swept s (s.listed ns o) where
  claims := hs
  permitted := rfl
  held _ hk := ⟨hk, rfl, rfl⟩
  asks _ _ _ _ hk := hk
  waits _ h := .inl h
  intent _ h := .inr ⟨h, rfl, id⟩

theorem removeSources (hs : ClaimsOk s) (gone : Source → Bool) : Swept s (removeSources gone s) := by
  refine foldl_keeps (P := Swept s) (fun u e hu => ?_) _ (sourcesOnly hs (s.sources.filter fun e => !gone e))
  refine forPaths_keeps (P := Swept s) (fun i v hv => ?_) hu
  unfold takeRemoved
  split
  · exact hv.trans (sourceLost hv.claims i)
  · exact hv

theorem releaseStationClaims (hs : ClaimsOk s) (st : StationId) : Swept s (releaseStationClaims st s) :=
  peerEvent hs (fun _ _ h => h.filter _) fun _ => rfl

theorem massRelease (hs : ClaimsOk s) (order : ReleaseOrder) (st : StationId) : Swept s (massRelease order st s) := by
  cases order
  · rw [massRelease_claimsFirst]
    have h := releaseStationClaims hs st
    exact h.trans (removeSources h.claims _)
  · rw [massRelease_sourcesFirst]
    have h := removeSources hs fun e => e.station == st
    exact h.trans (releaseStationClaims h.claims st)

end Swept

/-! ### The sweep of the neighbour list (R63, R64) -/

theorem ActFrame.listed (h : ActFrame s t) (ns : List Neighbour) (o : Bool) : ActFrame (s.listed ns o) (t.listed ns o) :=
  congrArg (State.listed ns o) h

/-- From s to t the stations that are gone have left every table. -/
structure Removes (gone : StationId → Bool) (s t : State) : Prop where
  neighbours : t.neighbours = s.neighbours.filter fun r => !gone r.station
  sources : t.sources = s.sources.filter fun e => !gone e.station
  peers : ∀ k, (t.slot k).peers = (s.slot k).peers.filter fun p => !gone p.station
  swept : Swept s t
  frame : ActFrame (s.listed t.neighbours s.neighbourOverflow) t

namespace Removes

variable {gone gone' : StationId → Bool}

theorem now_eq (h : Removes gone s t) : t.now = s.now := h.frame.now_eq
theorem params_eq (h : Removes gone s t) : t.params = s.params := h.frame.params_eq
theorem overflow_eq (h : Removes gone s t) : t.neighbourOverflow = s.neighbourOverflow := h.frame.neighbourOverflow_eq

theorem congr (h : Removes gone s t) (hgone : ∀ st, gone st = gone' st) : Removes gone' s t := by
  obtain rfl : gone = gone' := funext hgone
  exact h

theorem refl (hs : ClaimsOk s) : Removes (fun _ => false) s s where
  neighbours := by simp
  sources := by simp
  peers _ := by simp
  swept := .refl hs
  frame := rfl

theorem trans (h : Removes gone s u) (g : Removes gone' u t) : Removes (fun st => gone st || gone' st) s t where
  neighbours := by simp [g.neighbours, h.neighbours, List.filter_filter, Bool.and_comm]
  sources := by simp [g.sources, h.sources, List.filter_filter, Bool.and_comm]
  peers k := by simp [g.peers, h.peers, List.filter_filter, Bool.and_comm]
  swept := h.swept.trans g.swept
  frame := by
    have hframe := ActFrame.listed h.frame t.neighbours u.neighbourOverflow
    have gframe := g.frame
    rw [h.overflow_eq] at hframe gframe
    exact hframe.trans gframe

/-- A record that is dropped with the mass release of its station (R63, R64). -/
theorem release (hs : ClaimsOk s) (order : ReleaseOrder) (st : StationId) :
    Removes (· == st) s (massRelease order st (dropNeighbour st s)) := by
  rw [dropNeighbour_eq]
  have hlist := Swept.listedOnly hs (s.neighbours.filter fun r => r.station != st) s.neighbourOverflow
  have hact := massRelease_act (s.listed (s.neighbours.filter fun r => r.station != st) s.neighbourOverflow) order st
  refine ⟨hact.neighbours_eq, massRelease_sources order st _, massRelease_peers order st _,
    hlist.trans (.massRelease hlist.claims order st), ?_⟩
  rw [hact.neighbours_eq]
  exact hact

theorem sweepStep (hs : ClaimsOk s) (order : List StationId) (r : Neighbour) :
    Removes (fun st => r.station == st && agedOut s.params s.now r.lastHeard) s (sweepStep order s r) := by
  unfold Machine.sweepStep
  cases h : agedOut s.params s.now r.lastHeard with
  | true => exact (release hs (sweepOrder order r.station) r.station).congr fun st => by rw [Bool.and_true, Bool.beq_comm]
  | false => exact (refl hs).congr fun st => by rw [Bool.and_false]

theorem sweep (order : List StationId) (rs : List Neighbour) (hs : ClaimsOk s) :
    Removes (fun st => rs.any fun r => r.station == st && agedOut s.params s.now r.lastHeard) s
      (rs.foldl (Machine.sweepStep order) s) := by
  induction rs generalizing s with
  | nil => exact refl hs
  | cons r rs ih =>
    have hstep := sweepStep hs order r
    have hrest := ih hstep.swept.claims
    rw [hstep.now_eq, hstep.params_eq] at hrest
    exact (hstep.trans hrest).congr fun st => rfl

end Removes

end Sys2Proof.Machine

namespace Sys2Proof

open Machine

/-- Settles O52: the sweep is a sequence of mass releases, each of which is swept of one station. -/
theorem sweepsRemoveTheSilent : Obligations.SweepsRemoveTheSilent := by
  refine ⟨fun order s _ hclaims hwhole => ?_, fun s htables hclaims hwhole => ?_, fun order s hwhole => ?_⟩
  · rw [answers_iff, effect, neighbourSweep, if_pos hwhole]
    obtain ⟨hneighbours, hsources, hpeers, hswept, hframe⟩ := Removes.sweep order s.neighbours hclaims
    exact ⟨hneighbours, hsources, hpeers, hswept.held, hswept.asks, hframe⟩
  · obtain ⟨-, -, -, ⟨-, hord⟩, -⟩ := htables
    have hswept := Swept.removeSources hclaims fun e => agedOut s.params s.now e.lastHeard
    rw [answers_iff, effect, sourceSweep, if_pos hwhole]
    refine ⟨?_, removeSources_peers _ s, hswept.held, hswept.asks, removeSources_act s _⟩
    rw [removeSources_sources fun a ha b hb hgone hslot hst => ?_]
    · exact List.filter_congr fun e _ => by
        rw [agedOut, ← decide_not]
        exact decide_eq_decide.mpr Nat.not_le
    · rwa [hord.eq_of_key_eq ha hb hslot hst] at hgone
  · rw [exec_eq, exec_eq, effect, effect, neighbourSweep, sourceSweep, if_neg (by simp [hwhole]), if_neg (by simp [hwhole])]
    exact ⟨rfl, rfl⟩

end Sys2Proof
end
section
/-! PROOFS. The site transmit state derived again with all that follows (R139), and the commands that cause it: the permit,
the ends of a mute and a lockout, the end of listening (O8, O46, O47) and the silent release (O48). -/

namespace Sys2Proof.Machine

open Sys2Proof

variable {s t u : State} {i j : PathIx} {k : Slot} {new : Site}

/-! ### The levels of a new site transmit state -/

theorem cutWrite_same (new : Site) (s : State) :
    Same s (if s.gov.site == .transmitting then cutVisit (writeSite new s) else writeSite new s) := by
  have hcut : Same (writeSite new s) (cutVisit (writeSite new s)) := {}
  split
  · exact (Same.writeSite s new).trans hcut
  · exact Same.writeSite s new

theorem siteLevels_same (new : Site) (s : State) : Same s (siteLevels new s) := by
  have halarm (u : State) : Same u (alarmUpdate u) := {}
  exact ((cutWrite_same new s).trans (.refreshAll _)).trans (halarm _)

theorem siteLevels_tuning (new : Site) (s : State) : (siteLevels new s).tuning = s.tuning := by
  have hwrite : (if s.gov.site == .transmitting then cutVisit (writeSite new s) else writeSite new s).tuning = s.tuning := by
    split <;> rfl
  unfold siteLevels
  have halarm (u : State) : (alarmUpdate u).tuning = u.tuning := rfl
  rw [halarm]
  exact forPaths_keeps (P := fun u => u.tuning = s.tuning) (fun j u hu => by rw [refreshPath_tuning, hu]) hwrite

theorem refreshAll_visit_none (h : s.mon.visit = none) : (refreshAll s).mon.visit = none := by
  unfold refreshAll
  exact forPaths_keeps (P := fun u => u.mon.visit = none) (fun j u hu => refreshPath_visit_none (s := u) (i := j) hu) h

/-- A site that leaves TRANSMITTING cuts the visit (R150). -/
theorem siteLevels_visit (new : Site) (h : s.gov.site = .transmitting) : (siteLevels new s).mon.visit = none := by
  unfold siteLevels
  rw [if_pos (by simp [h])]
  have halarm (u : State) : (alarmUpdate u).mon = u.mon := rfl
  rw [halarm]
  exact refreshAll_visit_none rfl

theorem ActFrame.inhibit_eq (h : ActFrame s t) : t.lines.inhibitAlarmDeadline = s.lines.inhibitAlarmDeadline ∧
    t.lines.inhibitAlarm = s.lines.inhibitAlarm := by
  unfold ActFrame at h
  exact ⟨by rw [h], by rw [h]⟩

/-- The inhibit alarm and its deadline follow the change alone (R155). -/
theorem siteLevels_inhibit (new : Site) (s : State) :
    (siteLevels new s).lines.inhibitAlarmDeadline = (writeSite new s).lines.inhibitAlarmDeadline ∧
    (siteLevels new s).lines.inhibitAlarm = (writeSite new s).lines.inhibitAlarm := by
  unfold siteLevels
  have halarm (u : State) : (alarmUpdate u).lines.inhibitAlarmDeadline = u.lines.inhibitAlarmDeadline ∧
    (alarmUpdate u).lines.inhibitAlarm = u.lines.inhibitAlarm := ⟨rfl, rfl⟩
  have hact (u : State) := (Acts.refreshAll u).frame.inhibit_eq
  rw [(halarm _).1, (halarm _).2, (hact _).1, (hact _).2]
  split <;> exact ⟨rfl, rfl⟩

/-- TXKEY is asserted, and its hold has not begun or began at this time. -/
def KeyHeldFrom (now : Time) (s : State) : Prop :=
  KeyOk s ∧ s.now = now ∧ s.lines.txkey = true ∧
    (s.lines.keyHoldDeadline = none ∨ s.lines.keyHoldDeadline = some (later now 10000))

theorem KeyHeldFrom.refreshPath {now : Time} (h : KeyHeldFrom now s) (i : PathIx) : KeyHeldFrom now (refreshPath i s) := by
  obtain ⟨hkey, hnow, htx, hhold⟩ := h
  refine ⟨keyOk_refreshPath hkey i, (refreshPath_act s i).now_eq.trans hnow, ?_⟩
  unfold Machine.refreshPath
  dsimp only
  split
  · exact ⟨htx, hhold⟩
  · unfold turnCond
    dsimp only
    have hlines : (if condOf s.gov.site (s.path i) == .off then
        (cutVisitOf i (s.modPath i fun p => { p with cond := condOf s.gov.site (s.path i) })).setVerdict i none
        else cutVisitOf i (s.modPath i fun p => { p with cond := condOf s.gov.site (s.path i) })).lines = s.lines ∧
        (if condOf s.gov.site (s.path i) == .off then
        (cutVisitOf i (s.modPath i fun p => { p with cond := condOf s.gov.site (s.path i) })).setVerdict i none
        else cutVisitOf i (s.modPath i fun p => { p with cond := condOf s.gov.site (s.path i) })).now = s.now := by
      unfold cutVisitOf
      split <;> split <;> first | exact ⟨rfl, rfl⟩ | (split <;> exact ⟨rfl, rfl⟩)
    generalize (if condOf s.gov.site (s.path i) == .off then _ else _ : State) = u at *
    obtain ⟨hlines, hunow⟩ := hlines
    unfold keyUpdate
    rw [hlines, hunow, htx, hnow]
    split
    · exact ⟨rfl, .inl rfl⟩
    · split
      · exact ⟨htx, .inr rfl⟩
      · rw [hlines]
        exact ⟨htx, hhold⟩

theorem KeyHeldFrom.siteLevels {now : Time}
    (h : KeyHeldFrom now (if s.gov.site == .transmitting then cutVisit (writeSite new s) else writeSite new s)) :
    KeyHeldFrom now (siteLevels new s) := by
  have halarm {u : State} (hu : KeyHeldFrom now u) : KeyHeldFrom now (alarmUpdate u) := by
    obtain ⟨hkey, hrest⟩ := hu
    exact ⟨keyOk_alarmUpdate hkey, hrest⟩
  unfold Machine.siteLevels refreshAll
  exact halarm (forPaths_keeps (fun i _ hu => hu.refreshPath i) h)

/-- TXKEY is held from the time at which the last path turns OFF (R156). -/
theorem siteLevels_keyHold (hkey : KeyOk s) (hair : s.anyOnAir = true) (hnew : new ≠ .transmitting) :
    (siteLevels new s).lines.txkey = true ∧ (siteLevels new s).lines.keyHoldDeadline = some (later s.now 10000) := by
  obtain ⟨hon, hoff⟩ := hkey
  have htx := hon hair
  have hhold : s.lines.keyHoldDeadline = none := by
    rw [htx, hair] at hoff
    simpa using hoff
  obtain ⟨hwkey, hwhold, -⟩ := writeSite_lines new s
  have hwrite : KeyHeldFrom s.now (if s.gov.site == .transmitting then cutVisit (writeSite new s) else writeSite new s) := by
    have hk : KeyHeldFrom s.now (writeSite new s) :=
      ⟨KeyOk.congr ⟨hon, hoff⟩ (fun i => by simp only [writeSite, State.path]) hwkey hwhold, rfl, hwkey.trans htx,
        .inl (hwhold.trans hhold)⟩
    split
    · exact hk
    · exact hk
  obtain ⟨⟨-, hend⟩, -, htx', hhold'⟩ := hwrite.siteLevels
  have hoffair : (siteLevels new s).anyOnAir = false := by
    rw [Bool.eq_false_iff, Ne, anyOnAir_iff]
    rintro ⟨i, hi⟩
    rw [siteLevels_path] at hi
    exact hi (by simp [condOf, hnew])
  rw [htx', hoffair] at hend
  refine ⟨htx', hhold'.resolve_left fun hnone => ?_⟩
  rw [hnone] at hend
  cases hend

/-! ### A change of the site transmit state -/

theorem claimingPermitted_of_site (h : s.gov.site ≠ .transmitting) : s.claimingPermitted = false := by
  simp [State.claimingPermitted, h]

theorem enterSite_silent (h : new ≠ .transmitting) (s : State) : enterSite new s = siteLevels new s := by
  rw [enterSite_eq, if_neg]
  rw [claimingPermitted_of_site (by rw [siteLevels_site]; exact h)]
  decide

theorem enterSite_act (new : Site) (s : State) : ActFrame (siteLevels new s) (enterSite new s) := by
  rw [enterSite_eq]
  generalize siteLevels new s = u
  split
  · exact (noticeWaiting_act u).trans (serveMarks_act _)
  · rfl

theorem enterSite_gov (new : Site) (s : State) : (enterSite new s).gov = (writeSite new s).gov := by
  rw [(enterSite_act new s).gov_eq, siteLevels_gov]

theorem enterSite_inhibit (new : Site) (s : State) :
    (enterSite new s).lines.inhibitAlarmDeadline = (writeSite new s).lines.inhibitAlarmDeadline ∧
    (enterSite new s).lines.inhibitAlarm = (writeSite new s).lines.inhibitAlarm := by
  obtain ⟨hdeadline, halarm⟩ := siteLevels_inhibit new s
  rw [← hdeadline, ← halarm]
  exact (enterSite_act new s).inhibit_eq

/-- Every path that does not wait has its condition derived again, and the paths that wait have asked (R104, R121, R126). -/
theorem sitePaths_enterSite (new : Site) (s : State) : SitePaths s (enterSite new s) := by
  have hgov : (enterSite new s).gov.site = new := by rw [enterSite_gov]; rfl
  have hpath := siteLevels_path new s
  have hnone (i : PathIx) (h : holdsSlot s i = false) : holdsSlot (siteLevels new s) i = false := by
    rw [holdsSlot_eq_false_iff] at h ⊢
    intro k hk
    rw [(siteLevels_same new s).slot] at hk
    exact h k hk
  unfold SitePaths rederived
  rw [hgov]
  refine ⟨fun i hi => ?_, fun hp i hw hh hon => ?_⟩
  · rw [enterSite_eq, ← hpath]
    split
    · rw [(serveMarks_served _).path_eq (by rw [noticeWaiting_path, hpath]; exact hi), noticeWaiting_path]
    · rfl
  · have hmid : (siteLevels new s).claimingPermitted = true := (enterSite_act new s).permitted_eq.symm.trans hp
    rw [enterSite_eq, if_pos hmid] at hon ⊢
    refine anyEligible_of_serveMarks (i := i) ?_ ?_ ?_ hon
    · rw [(noticeWaiting_act _).permitted_eq, hmid]
    · rw [noticeWaiting_wait, if_pos (by rw [hpath]; exact hw)]
    · have h := hnone i hh
      rw [holdsSlot_eq_false_iff] at h ⊢
      intro k
      rw [noticeWaiting_slot]
      exact h k

theorem rederiveSite_of_ne (h : s.derivedSite ≠ s.gov.site) : rederiveSite s = enterSite s.derivedSite s := by
  rw [rederiveSite, if_neg (by simpa using h)]

theorem rederiveSite_of_eq (h : s.derivedSite = s.gov.site) : rederiveSite s = s := by
  rw [rederiveSite, if_pos (by simpa using h)]

theorem rederiveSite_site (s : State) : (rederiveSite s).gov.site = s.derivedSite := by
  by_cases h : s.derivedSite = s.gov.site
  · rw [rederiveSite_of_eq h, h]
  · rw [rederiveSite_of_ne h, enterSite_gov]
    rfl

/-- A site that is not TRANSMITTING before its state is derived again: the paths are derived again with it. -/
theorem sitePaths_rederiveSite (hconds : CondsOk s) (hsite : s.gov.site ≠ .transmitting) : SitePaths s (rederiveSite s) := by
  by_cases h : s.derivedSite = s.gov.site
  · rw [rederiveSite_of_eq h]
    refine ⟨fun i _ => ?_, fun hp => ?_⟩
    · rw [rederived, ← hconds i]
    · rw [claimingPermitted_of_site hsite] at hp
      cases hp
  · rw [rederiveSite_of_ne h]
    exact sitePaths_enterSite _ s

/-- A site that runs without mute and lockout follows the permit (R139). -/
theorem derivedSite_running (hst : s.station = .running) (hlock : s.gov.lockoutDeadline = none)
    (hmute : s.gov.muteDeadline = none) : s.derivedSite = if s.lines.permit then .transmitting else .inhibited := by
  cases hp : s.lines.permit <;> simp [State.derivedSite, siteOf, hst, hlock, hmute, hp]

/-- A site that does not run, or has a mute or a lockout, does not read the permit (R139). -/
theorem siteOf_permit {st : Station} {lockout mute : Option Time} (h : st ≠ .running ∨ lockout ≠ none ∨ mute ≠ none)
    (a b : Bool) : siteOf st lockout mute a = siteOf st lockout mute b := by
  unfold siteOf
  by_cases hst : st = .running
  · rcases h.resolve_left (· hst) with h | h
    · simp [hst, Option.isSome_iff_ne_none.mpr h]
    · simp [hst, Option.isSome_iff_ne_none.mpr h]
  · simp [hst]

theorem enterSite_grace (new : Site) (s : State) : (enterSite new s).gov.graceDeadline =
    graceAfter s.now s.params.silenceGrace s.gov.site new s.gov.graceDeadline := by
  rw [enterSite_gov]
  rfl

theorem enterSite_inhibitDeadline (new : Site) (s : State) : (enterSite new s).lines.inhibitAlarmDeadline =
    (linesAfter s.now s.params.silenceGrace s.gov.site new s.lines).inhibitAlarmDeadline := by
  rw [(enterSite_inhibit new s).1]
  rfl

theorem enterSite_inhibitAlarm (new : Site) (s : State) : (enterSite new s).lines.inhibitAlarm =
    (linesAfter s.now s.params.silenceGrace s.gov.site new s.lines).inhibitAlarm := by
  rw [(enterSite_inhibit new s).2]
  rfl

/-- s with another held level of the permit (R155). -/
def State.withPermit (level : Bool) (s : State) : State := { s with lines := { s.lines with permit := level } }

theorem txpermitChange_eq {level : Bool} (h : level ≠ s.lines.permit) :
    txpermitChange level s = rederiveSite (s.withPermit level) := by
  rw [txpermitChange, if_neg (by simpa using h)]
  rfl

theorem withPermit_derived_running (level : Bool) (hst : s.station = .running) (hlock : s.gov.lockoutDeadline = none)
    (hmute : s.gov.muteDeadline = none) : (s.withPermit level).derivedSite = if level then .transmitting else .inhibited :=
  derivedSite_running hst hlock hmute

theorem condOf_silenced {site : Site} (h : site ≠ .transmitting) (p : PathRec) : condOf site p = .off := by
  simp [condOf, h]

/-! ### The end of a mute or a lockout (R141, R143, R144) -/

theorem station_of_inhibited (h : s.derivedSite = .inhibited) : s.station = .running := by
  by_contra hne
  rw [State.derivedSite, siteOf, if_pos (by simpa using hne)] at h
  cases h

/-- A site that a mute or a lockout holds is silenced, unless it does not run (R139). -/
theorem silenced_of_fault (hlevels : LevelsOk s) (h : s.gov.lockoutDeadline ≠ none ∨ s.gov.muteDeadline ≠ none) :
    (s.station = .running → s.gov.site = .muted ∨ s.gov.site = .lockedOut) ∧
      (s.gov.site = .silent ∨ s.gov.site = .muted ∨ s.gov.site = .lockedOut) := by
  rw [hlevels.1, State.derivedSite, siteOf]
  by_cases hst : s.station = .running
  · cases hl : s.gov.lockoutDeadline with
    | some d => simp [hst]
    | none =>
      rw [hl] at h
      obtain ⟨d, hm⟩ := Option.ne_none_iff_exists'.mp (h.resolve_left fun hn => hn rfl)
      simp [hst, hm]
  · simp [hst]

/-- What follows when a site that a mute or a lockout held has its state derived again (R139, R145, R155). -/
structure Unsilenced (s t : State) : Prop where
  frame : SiteFrame s t
  site : t.gov.site = s.derivedSite
  paths : SitePaths s t
  transmitting : t.gov.site = .transmitting → t.gov.graceDeadline = none
  inhibited : t.gov.site = .inhibited → t.gov.graceDeadline = s.gov.graceDeadline ∧
    t.lines.inhibitAlarmDeadline = some (laterS s.now s.params.silenceGrace)
  elsewhere : t.gov.site ≠ .inhibited → t.lines.inhibitAlarmDeadline = s.lines.inhibitAlarmDeadline
  alarm : t.lines.inhibitAlarm = s.lines.inhibitAlarm

theorem unsilenced_rederiveSite (hconds : CondsOk s)
    (hrun : s.station = .running → s.gov.site = .muted ∨ s.gov.site = .lockedOut)
    (hold : s.gov.site = .silent ∨ s.gov.site = .muted ∨ s.gov.site = .lockedOut) : Unsilenced s (rederiveSite s) := by
  have hne : s.gov.site ≠ .transmitting ∧ s.gov.site ≠ .inhibited := by rcases hold with h | h | h <;> rw [h] <;> decide
  have hsite := rederiveSite_site s
  refine ⟨rederiveSite_frame s, hsite, sitePaths_rederiveSite hconds hne.1, fun h => ?_, fun h => ?_, fun h => ?_, ?_⟩
  all_goals try rw [hsite] at h
  · rw [rederiveSite_of_ne (by rw [h]; exact hne.1.symm), enterSite_grace, h]
    rfl
  · rw [rederiveSite_of_ne (by rw [h]; exact hne.2.symm), enterSite_grace, enterSite_inhibitDeadline, h]
    rcases hrun (station_of_inhibited h) with h' | h' <;> rw [h'] <;> exact ⟨rfl, rfl⟩
  · by_cases heq : s.derivedSite = s.gov.site
    · rw [rederiveSite_of_eq heq]
    · rw [rederiveSite_of_ne heq, enterSite_inhibitDeadline]
      simp [linesAfter, h, hne.2]
  · by_cases heq : s.derivedSite = s.gov.site
    · rw [rederiveSite_of_eq heq]
    · rw [rederiveSite_of_ne heq, enterSite_inhibitAlarm, linesAfter]
      split
      · rfl
      · simp [hne.2]

/-- The governor behind a mute (R141, R144). -/
def State.muteEnded (s : State) : State :=
  { s with gov := { s.gov with muteDeadline := none, lastMuteEnd := some s.now, cap := 64 } }

/-- The governor behind a lockout (R143, R144). -/
def State.lockoutEnded (s : State) : State :=
  { s with gov := { s.gov with
    lockoutDeadline := none, faultHistory := [], lastMuteEnd := none, lockoutFlag := false, cap := 64 } }

theorem muteEnd_due {d : Time} (hd : s.gov.muteDeadline = some d) (h : reached s.now d = true) :
    muteEnd s = rederiveSite s.muteEnded := by
  rw [muteEnd, if_pos (by rw [hd, dueAt_some, h])]
  rfl

theorem lockoutEnd_due {d : Time} (hd : s.gov.lockoutDeadline = some d) (h : reached s.now d = true) :
    lockoutEnd s = rederiveSite s.lockoutEnded := by
  rw [lockoutEnd, if_pos (by rw [hd, dueAt_some, h])]
  rfl

/-! ### The end of listening (R164) -/

/-- The station runs (R164). -/
def State.running (s : State) : State :=
  { s with station := .running, loader := { s.loader with endOfListening := none } }

end Sys2Proof.Machine

namespace Sys2Proof

open Machine

/-- Settles O46: the site state is derived again on a RUNNING site, and stands where it does not read the permit. -/
theorem permitDrivesSite : Obligations.PermitDrivesSite := by
  refine ⟨fun s hlevels hst hlock hmute hpermit => ?_, fun s hlevels hst hlock hmute hpermit => ?_,
    fun level s hlevels hne hsite => ?_, fun s => ?_⟩
  · have hsite : s.gov.site = .transmitting := by rw [hlevels.1, derivedSite_running hst hlock hmute, hpermit]; rfl
    have hkey : KeyOk (s.withPermit false) := hlevels.2.2.2
    have hnew : (s.withPermit false).derivedSite = .inhibited := withPermit_derived_running false hst hlock hmute
    have hsite' : (s.withPermit false).gov.site = .transmitting := hsite
    have hsame := siteLevels_same .inhibited (s.withPermit false)
    have hframe := siteLevels_frame .inhibited (s.withPermit false)
    rw [answers_iff, effect, txpermitChange_eq (by rw [hpermit]; decide),
      rederiveSite_of_ne (by rw [hnew, hsite']; decide), hnew]
    refine ⟨enterSite_frame _ _, ?_, fun i => ?_, ?_, ?_, ?_, fun hair => ?_, ?_⟩
    · rw [enterSite_gov]; rfl
    · rw [enterSite_silent (by decide), siteLevels_path, condOf_silenced (by decide)]
      rfl
    · rw [enterSite_silent (by decide), siteLevels_visit _ hsite']
    · rw [enterSite_grace, hsite']; rfl
    · rw [enterSite_inhibitDeadline]; rfl
    · rw [enterSite_silent (by decide)]
      exact siteLevels_keyHold hkey hair (by decide)
    · rw [enterSite_silent (by decide)]
      exact ⟨hsame.slots, hsame.waits, siteLevels_tuning _ _, hsame.sources⟩
  · have hsite : (s.withPermit true).gov.site = .inhibited := by
      have h : s.gov.site = .inhibited := by rw [hlevels.1, derivedSite_running hst hlock hmute, hpermit]; rfl
      exact h
    have hnew : (s.withPermit true).derivedSite = .transmitting := withPermit_derived_running true hst hlock hmute
    rw [answers_iff, effect, txpermitChange_eq (by rw [hpermit]; decide),
      rederiveSite_of_ne (by rw [hnew, hsite]; decide), hnew]
    refine ⟨enterSite_frame _ _, ?_, sitePaths_enterSite _ (s.withPermit true), ?_, ?_, ?_⟩
    · rw [enterSite_gov]; rfl
    · rw [enterSite_grace]; rfl
    · rw [enterSite_inhibitDeadline, hsite]; rfl
    · rw [enterSite_inhibitAlarm, hsite]; rfl
  · have hsame : (s.withPermit level).derivedSite = s.derivedSite := siteOf_permit hsite level s.lines.permit
    rw [exec_eq, effect, txpermitChange_eq hne, rederiveSite_of_eq (hsame.trans hlevels.1.symm)]
    rfl
  · rw [exec_eq, effect, txpermitChange, if_pos (beq_self_eq_true _)]

/-- Settles O47: the site was silenced or did not run, and its state is derived again without the deadline. -/
theorem muteAndLockoutEnd : Obligations.MuteAndLockoutEnd := by
  refine ⟨fun d s hlevels hd hreached => ?_, fun d s hlevels hd hreached => ?_, fun s h => ?_, fun s h => ?_⟩
  · obtain ⟨hrun, hold⟩ := silenced_of_fault hlevels (.inr (by rw [hd]; simp))
    have h := unsilenced_rederiveSite (s := s.muteEnded) hlevels.2.1 hrun hold
    rw [answers_iff, effect, muteEnd_due hd hreached]
    exact ⟨h.frame, fun hst hl => h.site.trans (derivedSite_running hst hl rfl), h.paths, h.transmitting, h.inhibited,
      h.elsewhere, h.alarm⟩
  · obtain ⟨hrun, hold⟩ := silenced_of_fault hlevels (.inl (by rw [hd]; simp))
    have h := unsilenced_rederiveSite (s := s.lockoutEnded) hlevels.2.1 hrun hold
    rw [answers_iff, effect, lockoutEnd_due hd hreached]
    exact ⟨h.frame, fun hst hm => h.site.trans (derivedSite_running hst rfl hm), h.paths, h.transmitting, h.inhibited,
      h.elsewhere, h.alarm⟩
  · rw [exec_eq, effect, muteEnd, h, if_neg (by simp [dueAt])]
  · rw [exec_eq, effect, lockoutEnd, h, if_neg (by simp [dueAt])]

/-- Settles O8: a listening site is SILENT, and running it follows the permit. -/
theorem endOfListeningRuns : Obligations.EndOfListeningRuns := by
  refine ⟨fun d s hlevels hst hd hreached hlock hmute => ?_, fun s h => ?_⟩
  · have hsite : s.running.gov.site = .silent := by
      have h : s.gov.site = .silent := by rw [hlevels.1, State.derivedSite, siteOf, hst]; rfl
      exact h
    have hnew : s.running.derivedSite = if s.lines.permit then .transmitting else .inhibited :=
      derivedSite_running rfl hlock hmute
    have heff : endOfListening s = rederiveSite s.running := by
      rw [endOfListening, if_pos (by rw [hst, hd, dueAt_some, hreached]; rfl)]
      rfl
    have hne : s.running.derivedSite ≠ s.running.gov.site := by
      rw [hnew, hsite]
      split <;> decide
    rw [answers_iff, effect, heff, rederiveSite_of_ne hne, hnew]
    refine ⟨enterSite_frame _ _, ?_, sitePaths_enterSite _ s.running, fun hp => ?_, fun hp => ?_⟩
    · rw [enterSite_gov]; rfl
    · rw [hp, enterSite_grace, enterSite_inhibitDeadline, hsite]
      exact ⟨rfl, rfl⟩
    · rw [hp, enterSite_grace, enterSite_inhibitDeadline, hsite]
      exact ⟨rfl, rfl⟩
  · rw [exec_eq, effect, endOfListening, if_neg (by simp [h])]

end Sys2Proof
end
section
/-! PROOFS. A silent release (R108) and the grace deadline that orders it (O48). -/

namespace Sys2Proof.Machine

open Sys2Proof

variable {s t u : State} {i j : PathIx} {k : Slot}

/-- The record of a path whose slot is given up by a silent release (R108, R122 to R124). -/
def PathRec.released (p : PathRec) : PathRec :=
  { p with
    state := match p.state with
      | .on => .waitSlot
      | .claiming => .waitSlot
      | .switching => .acquiring
      | _ => .seeking
    event := some .slotReleased, output := none, txPending := false, holdoverDeadline := none, cond := .off
    candidate := if p.state = .on then none else p.candidate
    candidateCount := if p.state = .on then 0 else p.candidateCount }

theorem slotLost_released (h : (s.path i).state = .claiming ∨ (s.path i).state = .on ∨ (s.path i).state = .switching ∨
    (s.path i).state = .holdover) : (slotLost 0 i .slotReleased s).path i = (s.path i).released := by
  rw [slotLost_path_self, condOf_silent (by simpa using slotLostState_of_held h)]
  rcases h with h | h | h | h <;> simp [PathRec.released, slotLostState, h]

/-- A path without a slot is left alone. -/
theorem silentReleaseAll_path_without (h : ∀ k, (s.slot k).ownPath ≠ some i) : (silentReleaseAll s).path i = s.path i := by
  have hflags (u : State) (a b : Bool) : State.path { u with silentRelease := a, pinnedCollision := b } i = u.path i := rfl
  unfold silentReleaseAll
  rw [hflags]
  refine (forSlots_keeps (P := fun u => (∀ k, (u.slot k).ownPath ≠ some i) ∧ u.path i = s.path i) (fun k u ⟨hu, hp⟩ => ?_)
    ⟨h, rfl⟩).2
  rw [silentSlot_eq]
  split
  · exact ⟨hu, hp⟩
  · refine ⟨fun m hm => ?_, (giveUp_path_ne (hu k) _ _).trans hp⟩
    rcases eq_or_ne m k with rfl | hne
    · rw [giveUp_slot_self] at hm
      cases hm
    · rw [giveUp_slot_ne _ _ _ hne] at hm
      exact hu m hm

/-- The path of the only slot that names it takes SLOT_RELEASED (R108). -/
theorem silentReleaseAll_path_owner (howner : (s.slot k).ownPath = some i) (honly : ∀ m, (s.slot m).ownPath = some i → m = k)
    (hown : (s.slot k).own ≠ .none) : (silentReleaseAll s).path i = (slotLost 0 i .slotReleased s).path i := by
  have hflags (u : State) (a b : Bool) : State.path { u with silentRelease := a, pinnedCollision := b } i = u.path i := rfl
  have hslot : ∀ u : State, ∀ a b : Bool, State.slot { u with silentRelease := a, pinnedCollision := b } k = u.slot k :=
    fun _ _ _ => rfl
  have hend := silentReleaseAll_own s k
  unfold silentReleaseAll at hend ⊢
  rw [hslot] at hend
  rw [hflags]
  have hinv := forSlots_keeps (f := silentSlot) (s := s) (P := fun u => u.gov = s.gov ∧
    (∀ m, m ≠ k → (u.slot m).ownPath ≠ some i) ∧ ((u.slot k = s.slot k ∧ u.path i = s.path i) ∨
      ((u.slot k).ownPath ≠ some i ∧ u.path i = (slotLost 0 i .slotReleased s).path i))) (fun m u ⟨hgov, hothers, hcase⟩ => ?_)
    ⟨rfl, fun m hm ho => hm (honly m ho), .inl ⟨rfl, rfl⟩⟩
  · obtain ⟨-, -, ⟨hk, -⟩ | ⟨-, hp⟩⟩ := hinv
    · rw [hk] at hend
      exact absurd hend hown
    · exact hp
  · rw [silentSlot_eq]
    split
    · exact ⟨hgov, hothers, hcase⟩
    · have hgov' : (giveUp 0 m .slotReleased u).gov = s.gov := by
        have hact : ActFrame u (giveUp 0 m .slotReleased u) := (Acts.giveUp u 0 m .slotReleased).frame
        exact hact.gov_eq.trans hgov
      refine ⟨hgov', fun n hn ho => ?_, ?_⟩
      · rcases eq_or_ne n m with rfl | hne
        · rw [giveUp_slot_self] at ho
          cases ho
        · rw [giveUp_slot_ne _ _ _ hne] at ho
          exact hothers n hn ho
      · rcases eq_or_ne m k with rfl | hne
        · refine .inr ⟨by rw [giveUp_slot_self]; simp [SlotEntry.cleared], ?_⟩
          rcases hcase with ⟨hk, hp⟩ | ⟨ho, hp⟩
          · rw [giveUp_path_self (by rw [hk]; exact howner), slotLost_path_self, slotLost_path_self, hp, hgov]
          · rw [giveUp_path_ne ho, hp]
        · rw [giveUp_slot_ne _ _ _ hne.symm, giveUp_path_ne (hothers m hne)]
          exact hcase

theorem silentReleaseAll_waits (s : State) : (silentReleaseAll s).waits = s.waits := by
  have h (u : State) (a b : Bool) : State.waits { u with silentRelease := a, pinnedCollision := b } = u.waits := rfl
  unfold silentReleaseAll
  rw [h]
  refine forSlots_keeps (P := fun u => u.waits = s.waits) (fun k u hu => ?_) rfl
  rw [silentSlot_eq]
  split
  · exact hu
  · refine Eq.trans (Vector.ext fun i hi => ?_) hu
    exact giveUp_wait u 0 k .slotReleased ⟨i, hi⟩

theorem silentReleaseAll_sources (s : State) : (silentReleaseAll s).sources = s.sources := by
  have h (u : State) (a b : Bool) : State.sources { u with silentRelease := a, pinnedCollision := b } = u.sources := rfl
  unfold silentReleaseAll
  rw [h]
  refine forSlots_keeps (P := fun u => u.sources = s.sources) (fun k u hu => ?_) rfl
  rw [silentSlot_eq]
  split
  · exact hu
  · exact (giveUp_sources u 0 k .slotReleased).trans hu

/-- A slot without an own claim has nothing to clear. -/
theorem cleared_of_none {e : SlotEntry} (h : EntryOk e) (hown : e.own = .none) : e.cleared = e := by
  obtain ⟨hpath, hdead, hpin, hcol⟩ := h
  have hp : e.ownPath = none := hpath.mp hown
  have hd : e.ownDeadline = none := by
    have hne : ¬e.ownDeadline.isSome = true := fun h => by rw [hdead.mpr h] at hown; cases hown
    simpa using hne
  have hpin' : e.ownPinned = false := Bool.eq_false_iff.mpr fun h => by rw [hpin h] at hown; cases hown
  have hc : e.collision = none := by
    have hne : ¬e.collision.isSome = true := fun h => by rw [(hcol h).1] at hown; cases hown
    simpa using hne
  cases e
  simp_all [SlotEntry.cleared]

/-- The governor behind a silence grace (R145). -/
def State.graceEnded (s : State) : State := { s with gov := { s.gov with graceDeadline := none } }

theorem graceDeadline_due {d : Time} (hd : s.gov.graceDeadline = some d) (h : reached s.now d = true) :
    graceDeadline s = silentReleaseAll s.graceEnded := by
  rw [graceDeadline, if_pos (by rw [hd, dueAt_some, h])]
  rfl

end Sys2Proof.Machine

namespace Sys2Proof

open Machine

/-- Settles O48: every slot gives up its claim, and every path has one slot at most. -/
theorem graceDeadlineReleasesAll : Obligations.GraceDeadlineReleasesAll := by
  refine ⟨fun d s hclaims hd hreached => ?_, fun s h => ?_⟩
  · have hclaims' : ClaimsOk s.graceEnded := hclaims
    rw [answers_iff, effect, graceDeadline_due hd hreached]
    refine ⟨fun k => ?_, fun i hout => ?_, fun i hout => ?_, rfl, rfl, silentReleaseAll_waits _, silentReleaseAll_sources _,
      silentReleaseAll_act _⟩
    · have hslot : s.graceEnded.slot k = s.slot k := rfl
      rw [silentReleaseAll_slot, hslot]
      split
      · rename_i hown
        exact (cleared_of_none (hclaims.entry k) hown).symm
      · rfl
    · refine silentReleaseAll_path_without (s := s.graceEnded) fun k hk => ?_
      rw [hclaims'.owner_iff] at hk
      have hnone : (s.graceEnded.path i).output = none := hout
      rw [hnone] at hk
      cases hk
    · obtain ⟨k, hk⟩ := Option.ne_none_iff_exists'.mp hout
      have hout' : (s.graceEnded.path i).output = some k := hk
      have howner := hclaims'.owner_iff.mpr hout'
      rw [silentReleaseAll_path_owner howner (fun m hm => ?_) (hclaims'.own_ne_none_of_owner howner),
        slotLost_released (hclaims'.state_of_output hout')]
      · rfl
      · exact Option.some.inj ((hclaims'.owner_iff.mp hm).symm.trans hout')
  · rw [exec_eq, effect, graceDeadline, h, if_neg (by simp [dueAt])]

end Sys2Proof
end
section
/-! PROOFS. The end of a load: an invalid image (O5) and a valid one (O6). -/

namespace Sys2Proof.Machine

open Sys2Proof

variable {s t u : State} {i : PathIx} {k : Slot} {bs : List Byte}

theorem silent_of_reading (hlevels : LevelsOk s) (hload : LoadingOk s) (hread : s.loader.reading = true) :
    s.gov.site = .silent := by
  have hun := hload.1 hread
  rw [hlevels.1, State.derivedSite, siteOf, if_pos]
  cases hst : s.station <;> simp [State.unloaded, hst] at hun <;> rfl

theorem loadEnd_reading (hread : s.loader.reading = true) (hlen : s.loader.image.length = 141) :
    loadEnd s = if imageValid s.loader.image then acceptImage s.loader.image s else rejectImage s := by
  rw [loadEnd, if_pos (by simp [loadComplete, hread, hlen, imageLength])]

theorem imageValid_iff (bs : List Byte) : imageValid bs = true ↔ field16 bs 0 = 0x4A36 ∧
    (crc16 ((bs.drop 2).take 137)).toNat = field16 bs 139 ∧ field16 bs 2 ≠ 0 ∧ field16 bs 2 ≠ 65535 := by
  simp [imageValid, and_assoc]

/-- The station without a valid image (R163). -/
def State.rejected (s : State) : State :=
  { s with
    station := .quiet
    loader := { s.loader with
      reading := false, image := [], retryDeadline := some (later s.now 10000), configInvalid := true } }

theorem rejectImage_eq (hsite : s.gov.site = .silent) : rejectImage s = alarmUpdate s.rejected := by
  have h : s.rejected.derivedSite = s.rejected.gov.site := hsite.symm
  exact congrArg alarmUpdate (rederiveSite_of_eq h)

theorem installImage_derivedSite (bs : List Byte) (s : State) : (installImage bs s).derivedSite = .silent := rfl

/-! ### A valid image taken into use (R160 to R162) -/

/-- The station with an image installed, before the end of its listening. -/
def State.loaded (bs : List Byte) (s : State) : State := alarmUpdate (installImage bs s)

section loaded
variable (bs : List Byte) (s : State)
theorem loaded_station : (s.loaded bs).station = .listen := rfl
theorem loaded_now : (s.loaded bs).now = s.now := rfl
theorem loaded_loader : (s.loaded bs).loader =
    { reading := false, image := [], retryDeadline := none
      endOfListening := some (laterS s.now (settleParams (storedParams bs)).listenTime)
      configInvalid := false, configClamped := imageClamped bs } := rfl
theorem loaded_alarm : (s.loaded bs).lines.alarm =
    ((s.gov.site == .lockedOut) || s.mon.chainFault || s.lines.inhibitAlarm) := rfl
theorem loaded_carryOf (i : PathIx) : (s.loaded bs).carryOf i = settleCarry bs i.val := by
  simp [State.loaded, alarmUpdate, installImage, State.carryOf]
theorem loaded_slot (k : Slot) : (s.loaded bs).slot k = { s.slot k with attr := imageAttr bs k } := installImage_slot s bs k
theorem loaded_path (i : PathIx) :
    (s.loaded bs).path i = loadPath s.now (settleCarry bs i.val).enabled i (s.path i) := installImage_path s bs i
end loaded

theorem acceptImage_eq (hsite : s.gov.site = .silent) : acceptImage bs s =
    if (settleParams (storedParams bs)).listenTime = 0 then endOfListening (s.loaded bs) else s.loaded bs := by
  have h : rederiveSite (installImage bs s) = installImage bs s :=
    rederiveSite_of_eq ((installImage_derivedSite bs s).trans hsite.symm)
  rw [acceptImage, h]
  exact if_congr beq_iff_eq rfl rfl

/-- The record of an idle path at a valid load (R112). -/
theorem loadPath_idle (h : (s.path i).state = .idle) (b : Bool) (now : Time) :
    (loadPath now b i (s.path i)).state = (if b then .seeking else .idle) ∧
    (b = true → (loadPath now b i (s.path i)).evalDeadline = some (later now (50 * i.val))) ∧
    loadPath now b i (s.path i) = { s.path i with
      state := (loadPath now b i (s.path i)).state, evalDeadline := (loadPath now b i (s.path i)).evalDeadline } ∧
    (b = false → loadPath now b i (s.path i) = s.path i) := by
  cases b with
  | false =>
    have hsame : loadPath now false i (s.path i) = s.path i := if_neg (by simp)
    rw [hsame]
    exact ⟨h, fun hb => (by cases hb), rfl, fun _ => rfl⟩
  | true =>
    unfold loadPath
    simp [h]

theorem SiteFrame.carry_eq (h : SiteFrame s t) : t.carry = s.carry := by rw [h]
theorem SiteFrame.params_eq (h : SiteFrame s t) : t.params = s.params := by rw [h]
theorem SiteFrame.loader_eq (h : SiteFrame s t) : t.loader = s.loader := by rw [h]
theorem SiteFrame.station_eq (h : SiteFrame s t) : t.station = s.station := by rw [h]

/-- The attributes of the slots stand through a change of the site transmit state. -/
theorem rederiveSite_attr (s : State) (k : Slot) : ((rederiveSite s).slot k).attr = (s.slot k).attr := by
  unfold rederiveSite
  split
  · rfl
  · rw [enterSite_eq]
    split
    · rw [((Acts.noticeWaiting _).trans (.serveMarks _)).attr_eq, (siteLevels_same _ s).slot]
    · rw [(siteLevels_same _ s).slot]

/-- A path that does not wait keeps its state and its evaluation through a change of the site transmit state. -/
theorem rederiveSite_path (hw : (s.path i).state ≠ .waitSlot) : ((rederiveSite s).path i).state = (s.path i).state ∧
    ((rederiveSite s).path i).evalDeadline = (s.path i).evalDeadline := by
  by_cases h : s.derivedSite = s.gov.site
  · rw [rederiveSite_of_eq h]
    exact ⟨rfl, rfl⟩
  · rw [rederiveSite_of_ne h, (sitePaths_enterSite _ s).1 i hw]
    exact ⟨rfl, rfl⟩

theorem endOfListening_at_once (h : (settleParams (storedParams bs)).listenTime = 0) :
    endOfListening (s.loaded bs) = rederiveSite (s.loaded bs).running := by
  have hdue : dueAt (s.loaded bs).now (s.loaded bs).loader.endOfListening = true := by
    have hat : laterS s.now 0 = s.now := by simp [laterS, later]
    rw [loaded_loader, loaded_now, h, hat, dueAt_some, reached_self]
  rw [endOfListening, if_pos (by rw [loaded_station, hdue]; rfl)]
  rfl

end Sys2Proof.Machine

namespace Sys2Proof

open Machine

/-- Settles O5: a station without an image is SILENT and stays so. -/
theorem invalidImageGoesQuiet : Obligations.InvalidImageGoesQuiet := by
  intro s hlevels hload hread hlen hbad
  have hvalid : ¬imageValid s.loader.image = true := by
    rw [imageValid_iff]
    rintro ⟨h₁, h₂, h₃, h₄⟩
    rcases hbad with h | h | h | h
    · exact h h₁
    · exact h h₂
    · exact h₃ h
    · exact h₄ h
  have heff : loadEnd s = alarmUpdate s.rejected := by
    rw [loadEnd_reading hread hlen, if_neg hvalid, rejectImage_eq (silent_of_reading hlevels hload hread)]
  rw [exec_eq, effect, heff]
  rfl

/-- Settles O6: the image is installed on a SILENT site, which the end of a listening of no length then runs. -/
theorem validImageTaken : Obligations.ValidImageTaken := by
  intro s hlevels hload hidle hread hlen hmark hcrc hst₀ hst₁
  have hsite := silent_of_reading hlevels hload hread
  have hvalid : imageValid s.loader.image = true := (imageValid_iff _).mpr ⟨hmark, hcrc, hst₀, hst₁⟩
  have heff : loadEnd s = acceptImage s.loader.image s := by rw [loadEnd_reading hread hlen, if_pos hvalid]
  rw [answers_iff, effect, heff, acceptImage_eq hsite]
  generalize s.loader.image = bs
  have hpath (i : PathIx) := loadPath_idle (hidle i) (settleCarry bs i.val).enabled s.now
  split
  · rename_i h
    rw [endOfListening_at_once h]
    have hframe := rederiveSite_frame (s.loaded bs).running
    have hrun (i : PathIx) : (s.loaded bs).running.path i = loadPath s.now (settleCarry bs i.val).enabled i (s.path i) :=
      loaded_path bs s i
    have hw (i : PathIx) : ((s.loaded bs).running.path i).state ≠ .waitSlot := by
      rw [hrun, (hpath i).1]
      split <;> decide
    have hcarry (i : PathIx) : (rederiveSite (s.loaded bs).running).carryOf i = settleCarry bs i.val := by
      simp only [State.carryOf, SiteFrame.carry_eq hframe]
      exact loaded_carryOf bs s i
    obtain ⟨hparams, hloader, hstation⟩ : (rederiveSite (s.loaded bs).running).params = settleParams (storedParams bs) ∧
        (rederiveSite (s.loaded bs).running).loader = (s.loaded bs).running.loader ∧
        (rederiveSite (s.loaded bs).running).station = .running := ⟨hframe.params_eq, hframe.loader_eq, hframe.station_eq⟩
    refine ⟨hparams, hcarry, fun k => ?_, by rw [hloader]; rfl, by rw [hloader]; rfl, by rw [hloader]; rfl,
      by rw [hloader]; rfl, fun i => ?_, fun i hi => ?_, fun _ => ⟨hstation, ?_⟩, fun h' => absurd ?_ h'⟩
    · rw [rederiveSite_attr]
      exact congrArg SlotEntry.attr (loaded_slot bs s k)
    · rw [(rederiveSite_path (hw i)).1, hrun, hcarry, (hpath i).1]
    · rw [hcarry] at hi
      rw [(rederiveSite_path (hw i)).2, hrun, (hpath i).2.1 hi]
    · rw [rederiveSite_site, hframe.derivedSite_eq]
    · rw [hparams]
      exact h
  · rename_i h
    refine ⟨rfl, loaded_carryOf bs s, fun k => ?_, rfl, rfl, rfl, rfl, fun i => ?_, fun i hi => ?_, fun h' => absurd h' h,
      fun _ => ⟨rfl, rfl, ?_, fun k => ?_, fun i => ?_, fun i hi => ?_, rfl⟩⟩
    · rw [loaded_slot]
    · rw [loaded_path, loaded_carryOf, (hpath i).1]
    · rw [loaded_carryOf] at hi
      rw [loaded_path, (hpath i).2.1 hi]
    · rw [loaded_alarm, hsite]; rfl
    · rw [loaded_slot]
    · rw [loaded_path]
      exact (hpath i).2.2.1
    · rw [loaded_carryOf] at hi
      rw [loaded_path, (hpath i).2.2.2 hi]

end Sys2Proof
end
section
/-! PROOFS. The configuration image: its bytes, the ranges that settle its values, and CONFIG_CLAMPED (O7). -/

namespace Sys2Proof.Machine

open Sys2Proof

variable {bs : List Byte} {lo hi v : Nat}

/-! ### Values brought into their ranges (R160) -/

theorem nearestIn_clampTo (h : lo ≤ hi) (v : Nat) : NearestIn lo hi v (clampTo lo hi v) := by
  refine ⟨⟨le_clampTo h v, clampTo_le h v⟩, fun hlo hhi => ?_, fun hlt => ?_, fun hgt => ?_⟩
  · rw [clampTo, if_neg (Nat.not_lt.mpr hlo), if_neg (Nat.not_lt.mpr hhi)]
  · rw [clampTo, if_pos hlt]
  · rw [clampTo, if_neg (Nat.not_lt.mpr (h.trans hgt.le)), if_pos hgt]

theorem clampTo_of_le (hlo : lo ≤ v) (hhi : v ≤ hi) : clampTo lo hi v = v := by
  rw [clampTo, if_neg (Nat.not_lt.mpr hlo), if_neg (Nat.not_lt.mpr hhi)]

theorem clampTo_clampTo (h : lo ≤ hi) (v : Nat) : clampTo lo hi (clampTo lo hi v) = clampTo lo hi v :=
  clampTo_of_le (le_clampTo h v) (clampTo_le h v)

/-- The range of the silence grace is not empty. -/
theorem ten_le_half_timeout (v : Nat) : 10 ≤ clampTo 30 600 v / 2 := by
  have h := le_clampTo (lo := 30) (hi := 600) (by decide) v
  omega

theorem mFloor_lt (v : Nat) : clampTo 1 4095 v + 1 ≤ 32767 := by
  have h := clampTo_le (lo := 1) (hi := 4095) (by decide) v
  omega

theorem settleParams_settleParams (p : Params) : settleParams (settleParams p) = settleParams p := by
  have hgrace := ten_le_half_timeout p.neighbourTimeout
  have hgood := mFloor_lt p.mFloor
  have hgain := clampTo_le (lo := 1) (hi := 65535) (by decide) p.gMin
  simp [settleParams, clampTo_clampTo, hgrace, hgood, hgain]

/-! ### Carry entries (R160, R161) -/

theorem settleCarry_enabled (bs : List Byte) (c : Nat) : (settleCarry bs c).enabled = carryEnabled bs c := by
  cases h : carryEnabled bs c <;> simp [settleCarry, h, CarryEntry.disabled]

theorem imageProgramme_iff (bs : List Byte) (c : Nat) (pr : ProgrammeId) : imageProgramme bs c = some pr ↔
    (byteAt bs (carryOffset c)).getLsbD 7 = true ∧ pr ≠ 0 ∧
      word16 (byteAt bs (carryOffset c + 1)) (byteAt bs (carryOffset c + 2)) = pr := by
  unfold imageProgramme
  dsimp only
  generalize word16 _ _ = w
  split
  · rename_i h
    obtain ⟨hbit, hne⟩ := Bool.and_eq_true_iff.mp h
    rw [Option.some_inj]
    refine ⟨?_, fun ⟨_, _, hw⟩ => hw⟩
    rintro rfl
    exact ⟨hbit, by simpa using hne, rfl⟩
  · rename_i h
    refine ⟨fun h' => (by cases h'), ?_⟩
    rintro ⟨hbit, hne, rfl⟩
    exact absurd (Bool.and_eq_true_iff.mpr ⟨hbit, by simpa using hne⟩) h

theorem word16_toNat (a b : Byte) : (word16 a b).toNat = 256 * a.toNat + b.toNat := by
  rw [word16, BitVec.toNat_append, ← Nat.shiftLeft_add_eq_or_of_lt b.isLt, Nat.shiftLeft_eq, Nat.mul_comm]

theorem carryEnabled_iff (bs : List Byte) (c : Nat) : carryEnabled bs c = true ↔
    ∃ pr, imageProgramme bs c = some pr ∧ ∀ d < c, imageProgramme bs d ≠ some pr := by
  cases h : imageProgramme bs c <;> simp [carryEnabled, h]

/-- Carry entry c of an image that enables it (R160, R161). -/
def imageCarry (bs : List Byte) (c : Nat) : CarryEntry :=
  { enabled := true
    pinned := (byteAt bs (carryOffset c)).getLsbD 6 && mayTransmit (imageAttr bs (carryPreferred bs c))
    programme := word16 (byteAt bs (carryOffset c + 1)) (byteAt bs (carryOffset c + 2))
    priority := clampTo 1 8 (byteAt bs (carryOffset c + 3)).toNat
    target := clampTo 1 4095 (field16 bs (carryOffset c + 4))
    preferred := carryPreferred bs c }

theorem settleCarry_eq (bs : List Byte) (c : Nat) :
    settleCarry bs c = if carryEnabled bs c then imageCarry bs c else CarryEntry.disabled := rfl

/-- What an enabled entry holds. -/
theorem settleCarry_of_enabled {c : Nat} (h : (settleCarry bs c).enabled = true) :
    (∃ pr, imageProgramme bs c = some pr ∧ (settleCarry bs c).programme = pr ∧ ∀ d < c, imageProgramme bs d ≠ some pr) ∧
    settleCarry bs c = imageCarry bs c := by
  rw [settleCarry_enabled] at h
  obtain ⟨pr, hpr, hfirst⟩ := (carryEnabled_iff bs c).mp h
  rw [settleCarry_eq, if_pos h]
  exact ⟨⟨pr, hpr, ((imageProgramme_iff bs c pr).mp hpr).2.2, hfirst⟩, rfl⟩

theorem nearestIn_preferred (bs : List Byte) (c : Nat) :
    NearestIn 0 63 (byteAt bs (carryOffset c + 6)).toNat (carryPreferred bs c).val := by
  have h : (carryPreferred bs c).val = min 63 (byteAt bs (carryOffset c + 6)).toNat := rfl
  unfold NearestIn
  rw [h]
  omega

/-! ### The bytes of the image (Table 10-1) -/

theorem field16_eq (bs : List Byte) (k : Nat) : field16 bs k = 256 * (byteAt bs k).toNat + (byteAt bs (k + 1)).toNat := by
  rw [field16, Nat.mul_comm]

theorem field16_lt (bs : List Byte) (k : Nat) : field16 bs k < 65536 := by
  have h := (byteAt bs k).isLt
  have h' := (byteAt bs (k + 1)).isLt
  unfold field16
  omega

/-- Two neighbouring bits of a byte, as a number. -/
theorem two_bits (n e : Nat) : n / 2 ^ e % 4 = 2 * (n.testBit (e + 1)).toNat + (n.testBit e).toNat := by
  have h₀ : n.testBit e = (n / 2 ^ e).testBit 0 := by rw [Nat.testBit_div_two_pow]; simp
  have h₁ : n.testBit (e + 1) = (n / 2 ^ e).testBit 1 := by rw [Nat.testBit_div_two_pow, Nat.add_comm]
  rw [h₀, h₁]
  generalize n / 2 ^ e = m
  rw [Nat.testBit_succ, Nat.testBit_zero, Nat.testBit_zero]
  have h2 : m % 4 = 2 * (m / 2 % 2) + m % 2 := by omega
  rw [h2]
  rcases Nat.mod_two_eq_zero_or_one m with h | h <;> rcases Nat.mod_two_eq_zero_or_one (m / 2) with h' | h' <;> simp [h, h']

/-- CONFIG_CLAMPED of an entry (R160). -/
theorem carryClamped_iff (bs : List Byte) (c : Nat) : carryClamped bs c = true ↔ (settleCarry bs c).enabled = true ∧
    ((settleCarry bs c).priority ≠ (byteAt bs (carryOffset c + 3)).toNat ∨
      (settleCarry bs c).target ≠ field16 bs (carryOffset c + 4) ∨
      (settleCarry bs c).preferred.val ≠ (byteAt bs (carryOffset c + 6)).toNat) := by
  rw [settleCarry_enabled]
  simp [carryClamped, or_assoc]

theorem imageClamped_iff (bs : List Byte) : imageClamped bs = true ↔
    settleParams (storedParams bs) ≠ storedParams bs ∨ ∃ c : PathIx, carryClamped bs c.val = true := by
  rw [imageClamped, Bool.or_eq_true, bne_iff_ne, List.any_eq_true]
  refine or_congr_right ⟨fun ⟨c, hc, h⟩ => ⟨⟨c, List.mem_range.mp hc⟩, h⟩, fun ⟨c, h⟩ => ⟨c.val, List.mem_range.mpr c.isLt, h⟩⟩

end Sys2Proof.Machine

namespace Sys2Proof

open Machine

/-- Settles O7: each value is clamped to a range that is not empty, each field is read at its bytes. -/
theorem settledImageInRange : Obligations.SettledImageInRange := by
  refine ⟨fun p hfloor => ?_, fun bs c hen => ?_, fun bs c d hne hc hd => ?_, fun bs c pr hpr hfirst => ?_, fun bs => ?_,
    fun bs k => ?_, fun bs c pr => ?_, fun bs => ?_⟩
  · have hgain := clampTo_le (lo := 1) (hi := 65535) (by decide) p.gMin
    have hsame : NearestIn 0 255 p.sFloor p.sFloor := ⟨⟨Nat.zero_le _, hfloor⟩, fun _ _ => rfl, by omega, by omega⟩
    refine ⟨nearestIn_clampTo (by decide) _, nearestIn_clampTo (by decide) _, nearestIn_clampTo (by decide) _,
      nearestIn_clampTo (by decide) _, nearestIn_clampTo (ten_le_half_timeout _) _, nearestIn_clampTo (by decide) _,
      nearestIn_clampTo (by decide) _, nearestIn_clampTo (by decide) _, nearestIn_clampTo (by decide) _,
      nearestIn_clampTo (by decide) _, nearestIn_clampTo (by decide) _, nearestIn_clampTo (by decide) _,
      nearestIn_clampTo (by decide) _, nearestIn_clampTo (by decide) _, nearestIn_clampTo (mFloor_lt _) _,
      nearestIn_clampTo (by decide) _, nearestIn_clampTo hgain _, nearestIn_clampTo (by decide) _, hsame,
      nearestIn_clampTo (by decide) _, rfl, rfl, rfl, rfl, settleParams_settleParams p⟩
  · obtain ⟨⟨pr, hpr, hprog, -⟩, heq⟩ := settleCarry_of_enabled hen
    obtain ⟨hbit, hne, hword⟩ := (imageProgramme_iff bs c.val pr).mp hpr
    refine ⟨hbit, ?_, by rw [hprog]; exact hne, by rw [hprog]; exact hpr, ?_, ?_, ?_, ?_⟩
    · rw [heq]; rfl
    · rw [heq]
      exact nearestIn_clampTo (by decide) _
    · rw [heq]
      exact nearestIn_clampTo (by decide) _
    · rw [heq]
      exact nearestIn_preferred bs c.val
    · rw [heq]
      exact Bool.and_eq_true_iff.trans (and_congr Iff.rfl (mayTransmit_iff _))
  · obtain ⟨⟨pc, hpc, hprc, hfirstc⟩, -⟩ := settleCarry_of_enabled hc
    obtain ⟨⟨pd, hpd, hprd, hfirstd⟩, -⟩ := settleCarry_of_enabled hd
    rw [hprc, hprd]
    rintro rfl
    rcases Nat.lt_or_gt_of_ne fun h => hne (Fin.ext h) with h | h
    · exact hfirstd c.val h hpc
    · exact hfirstc d.val h hpd
  · rw [settleCarry_enabled, carryEnabled_iff]
    exact ⟨pr, hpr, fun d hd => hfirst ⟨d, hd.trans c.isLt⟩ hd⟩
  · have h := field16_lt bs 2
    refine ⟨?_, rfl, rfl, rfl, rfl, rfl, field16_eq bs 8, field16_eq bs 10, field16_eq bs 12, rfl, field16_eq bs 15,
      field16_eq bs 17, rfl, rfl, rfl, rfl, rfl, field16_eq bs 24, field16_eq bs 26, field16_eq bs 28, field16_eq bs 30, ?_,
      rfl, field16_eq bs 37⟩
    · rw [← field16_eq bs 2]
      exact (BitVec.toNat_ofNat _ _).trans (Nat.mod_eq_of_lt h)
    · have hread : (storedParams bs).pMax = field16 bs 32 * 65536 + field16 bs 34 := rfl
      rw [hread, field16_eq, field16_eq]
      simp only [Nat.reduceAdd]
      omega
  · have hbyte (e : Nat) : (byteAt bs (39 + k.val / 4)).getLsbD e = (byteAt bs (39 + k.val / 4)).toNat.testBit e :=
      rfl
    have hplan := two_bits (byteAt bs (39 + k.val / 4)).toNat (6 - 2 * (k.val % 4))
    have hup : 6 - 2 * (k.val % 4) + 1 = 7 - 2 * (k.val % 4) := by omega
    rw [hup] at hplan
    rw [imageAttr, hplan]
    simp only [hbyte]
    cases (byteAt bs (39 + k.val / 4)).toNat.testBit (7 - 2 * (k.val % 4)) <;>
      cases (byteAt bs (39 + k.val / 4)).toNat.testBit (6 - 2 * (k.val % 4)) <;> rfl
  · have h₁ : carryOffset c.val + 1 = 56 + 7 * c.val := by unfold carryOffset; omega
    have h₂ : carryOffset c.val + 2 = 57 + 7 * c.val := by unfold carryOffset; omega
    rw [imageProgramme_iff, h₁, h₂]
    refine and_congr Iff.rfl (and_congr Iff.rfl ?_)
    rw [← word16_toNat, eq_comm]
    exact BitVec.toNat_inj.symm
  · rw [imageClamped_iff]
    refine or_congr_right (exists_congr fun c => ?_)
    rw [carryClamped_iff, field16_eq]
    rfl

end Sys2Proof
end
section
/-! PROOFS. The composite governor: the composite sum when one path changes, the applied factor with what it writes, and
RESTORE (O19). -/

namespace Sys2Proof.Machine

open Sys2Proof

variable {s t u : State} {i j : PathIx}

/-! ### The composite sum (R134) -/

theorem compositeSum_congr (h : ∀ i, t.path i = s.path i) : compositeSum t = compositeSum s := by
  simp only [compositeSum, h]

theorem computedBackoff_congr (h : ∀ i, t.path i = s.path i) (hp : t.params = s.params) :
    computedBackoff t = computedBackoff s := by
  rw [computedBackoff, computedBackoff, compositeSum_congr h, hp]

/-- One path has another amplitude. -/
theorem compositeSum_of_one (h : ∀ j, j ≠ i → t.path j = s.path j) :
    compositeSum t + nominalAmplitude (s.path i) * nominalAmplitude (s.path i) =
      compositeSum s + nominalAmplitude (t.path i) * nominalAmplitude (t.path i) := by
  have hrest : ∀ l : List PathIx, l.Nodup →
      (l.map fun j => nominalAmplitude (t.path j) * nominalAmplitude (t.path j)).sum +
        (if i ∈ l then nominalAmplitude (s.path i) * nominalAmplitude (s.path i) else 0) =
      (l.map fun j => nominalAmplitude (s.path j) * nominalAmplitude (s.path j)).sum +
        (if i ∈ l then nominalAmplitude (t.path i) * nominalAmplitude (t.path i) else 0) := by
    intro l
    induction l with
    | nil => simp
    | cons a l ih =>
      intro hnd
      obtain ⟨ha, hl⟩ := List.nodup_cons.mp hnd
      have ih := ih hl
      rcases eq_or_ne a i with rfl | hne
      · simp only [ha, if_false] at ih
        simp only [List.map_cons, List.sum_cons, List.mem_cons_self, if_true]
        omega
      · have hmem : i ∈ a :: l ↔ i ∈ l := by simp [hne.symm]
        simp only [List.map_cons, List.sum_cons, hmem, h a hne]
        omega
  have hall := hrest (indices 12) (indices_nodup 12)
  simpa only [compositeSum, mem_indices, if_true] using hall

/-! ### The applied factor (R10, R137) -/

section applyBackoff
variable (cap : Nat) (s : State)

theorem applyBackoff_path (i : PathIx) : (applyBackoff cap s).path i = s.path i := rfl

theorem applyBackoff_gov : (applyBackoff cap s).gov = { s.gov with
    backoff := min (computedBackoff s) cap, evaluationCap := cap
    amplitudes := Vector.ofFn (fun i => nominalAmplitude (s.path i)) } := rfl

theorem applyBackoff_amplitude (i : PathIx) : (applyBackoff cap s).amplitude i = nominalAmplitude (s.path i) := by
  simp [State.amplitude, applyBackoff_gov]

theorem applyBackoff_txSide (i : PathIx) : (applyBackoff cap s).txSide i =
    { s.txSide i with pendingSet := pendingFor (applyBackoff cap s).gov.backoff (s.path i) } := by
  simp [applyBackoff, writePending, State.txSide, State.path]

theorem applyBackoff_frame : applyBackoff cap s = { s with
    tx := (applyBackoff cap s).tx, gov := (applyBackoff cap s).gov } := rfl

end applyBackoff

/-! ### RESTORE (R136) -/

/-- A condition that is not OFF leaves the verdicts. -/
theorem turnCond_onAir (s : State) (i : PathIx) {c : Cond} (hc : c ≠ .off) : turnCond i c s = { s with
    paths := (turnCond i c s).paths, mon := { s.mon with visit := (turnCond i c s).mon.visit }
    lines := { s.lines with
      txkey := (turnCond i c s).lines.txkey, keyHoldDeadline := (turnCond i c s).lines.keyHoldDeadline } } := by
  have hcut (u : State) : cutVisitOf i u = { u with mon := { u.mon with visit := (cutVisitOf i u).mon.visit } } := by
    unfold cutVisitOf
    split
    · rfl
    · split <;> rfl
  have hkey (u : State) : keyUpdate u = { u with lines := { u.lines with
      txkey := (keyUpdate u).lines.txkey, keyHoldDeadline := (keyUpdate u).lines.keyHoldDeadline } } := by
    unfold keyUpdate
    split
    · rfl
    · split <;> rfl
  have hturn : turnCond i c s = keyUpdate (cutVisitOf i (s.modPath i fun p => { p with cond := c })) := by
    unfold turnCond
    dsimp only
    rw [if_neg (by simpa using hc)]
  rw [hturn, hkey, hcut]
  rfl

/-- The candidate with its shed flag and the test cleared, before its condition follows. -/
def State.unshed (i : PathIx) (s : State) : State :=
  { recordEvent i .restored (s.modPath i fun p => { p with shed := false }) with
    gov := { s.gov with restoreCandidate := none, restoreCount := 0 } }

theorem unshed_frame (i : PathIx) (s : State) : s.unshed i =
    { s with paths := (s.unshed i).paths, gov := { s.gov with restoreCandidate := none, restoreCount := 0 } } := rfl

theorem unshed_path_self (s : State) (i : PathIx) :
    (s.unshed i).path i = { s.path i with shed := false, event := some .restored } := by
  have h (u : State) (g : Governor) : State.path { u with gov := g } i = u.path i := rfl
  rw [State.unshed, h, recordEvent_path_self, State.path_modPath_self]

theorem unshed_path_ne (s : State) (h : j ≠ i) : (s.unshed i).path j = s.path j := by
  have hg (u : State) (g : Governor) : State.path { u with gov := g } j = u.path j := rfl
  rw [State.unshed, hg, recordEvent_path_ne _ _ h, State.path_modPath_ne _ _ _ h]

theorem restoreOne_eq (i : PathIx) (s : State) : restoreOne i s = refreshPath i (s.unshed i) := rfl

section restoreOne
variable (hon : (s.path i).state = .on) (hcond : (s.path i).cond = .tagOnly) (hfault : (s.path i).txFaultDeadline = none)
  (hsite : s.gov.site = .transmitting)
include hon hcond hfault hsite

theorem restoreOne_turns : restoreOne i s = turnCond i .full (s.unshed i) := by
  have hsite' : (s.unshed i).gov.site = .transmitting := hsite
  have hfull : condOf (s.unshed i).gov.site ((s.unshed i).path i) = .full := by
    rw [hsite', unshed_path_self]
    simp [condOf, hon, hfault]
  rw [restoreOne_eq, refreshPath]
  rw [hfull, if_neg]
  rw [unshed_path_self]
  simp [hcond]

theorem restoreOne_path_self : (restoreOne i s).path i = { s.path i with shed := false, event := some .restored, cond := .full } := by
  rw [restoreOne_turns hon hcond hfault hsite, turnCond_path_self, unshed_path_self]

theorem restoreOne_path_ne (h : j ≠ i) : (restoreOne i s).path j = s.path j := by
  rw [restoreOne_turns hon hcond hfault hsite, turnCond_path_ne _ _ h, unshed_path_ne _ h]

theorem restoreOne_frame : restoreOne i s = { s with
    paths := (restoreOne i s).paths, gov := { s.gov with restoreCandidate := none, restoreCount := 0 }
    mon := { s.mon with visit := (restoreOne i s).mon.visit }
    lines := { s.lines with
      txkey := (restoreOne i s).lines.txkey, keyHoldDeadline := (restoreOne i s).lines.keyHoldDeadline } } := by
  rw [restoreOne_turns hon hcond hfault hsite]
  have hframe := turnCond_onAir (s.unshed i) i (c := .full) (by decide)
  generalize turnCond i .full (s.unshed i) = u at *
  exact hframe.trans (congrArg (fun w : State => { w with
    paths := u.paths, mon := { w.mon with visit := u.mon.visit }
    lines := { w.lines with txkey := u.lines.txkey, keyHoldDeadline := u.lines.keyHoldDeadline } }) (unshed_frame i s))

end restoreOne

theorem restore_due {s : State} (hcand : s.gov.restoreCandidate = some i) (hcount : 1000 ≤ s.gov.restoreCount) :
    restore s = applyBackoff s.gov.evaluationCap (restoreOne i s) := by
  simp [restore, hcand, restoreLimit, hcount]

theorem restore_not_due {s : State} (h : s.gov.restoreCount < 1000 ∨ s.gov.restoreCandidate = none) : restore s = s := by
  obtain he | ⟨i, hi, hcount, -⟩ := restore_cases s
  · exact he
  · rcases h with h | h
    · exact absurd hcount (Nat.not_le.mpr h)
    · rw [h] at hi
      cases hi

theorem nominalAmplitude_full {p : PathRec} (h : p.cond = .full) : nominalAmplitude p = fullAmplitude p := by
  simp [nominalAmplitude, h]

theorem nominalAmplitude_tagOnly {p : PathRec} (h : p.cond = .tagOnly) : nominalAmplitude p = 256 := by
  simp [nominalAmplitude, h]

end Sys2Proof.Machine

namespace Sys2Proof

open Machine

/-- Settles O19: the candidate's condition turns to FULL, and the factor is applied under the cap of the evaluation. -/
theorem restoreReturnsToFull : Obligations.RestoreReturnsToFull := by
  refine ⟨fun i s hcand hcount _ hon hcond hfault hsite => ?_, fun s h => ?_⟩
  · have hself := restoreOne_path_self hon hcond hfault hsite
    have hne (j : PathIx) (h : j ≠ i) := restoreOne_path_ne hon hcond hfault hsite h
    have hframe := restoreOne_frame hon hcond hfault hsite
    rw [answers_iff, effect, restore_due hcand hcount]
    generalize restoreOne i s = u at *
    have hgov : u.gov = { s.gov with restoreCandidate := none, restoreCount := 0 } := by rw [hframe]
    have hamp : nominalAmplitude (u.path i) = fullAmplitude (s.path i) := by
      rw [hself, nominalAmplitude_full rfl]
      rfl
    have htx (j : PathIx) : u.txSide j = s.txSide j := by rw [hframe]; rfl
    refine ⟨hself, hne, ?_, ?_, applyBackoff_amplitude _ u, ?_, fun j => ?_, ?_⟩
    · have hsum := compositeSum_of_one hne
      rw [nominalAmplitude_tagOnly hcond] at hsum
      rw [applyBackoff_amplitude]
      exact hsum
    · rw [applyBackoff_amplitude, hamp]
      rfl
    · rw [applyBackoff_gov, hgov]
      rfl
    · rw [applyBackoff_txSide, htx]
      rfl
    · exact (applyBackoff_frame s.gov.evaluationCap u).trans (congrArg (fun w : State => { w with
        tx := (applyBackoff s.gov.evaluationCap u).tx, gov := (applyBackoff s.gov.evaluationCap u).gov }) hframe)
  · rw [exec_eq, effect, restore_not_due h]

end Sys2Proof
end
section
/-! PROOFS. The tuning queue: the head that a boundary takes, and the cancellations that are owed (O20). -/

namespace Sys2Proof.Machine

open Sys2Proof

variable {s t u : State} {i j : PathIx} {k : Slot} {e : TuneEntry} {rest : List TuneEntry}

theorem updAll_const {α : Type} {n : Nat} (v : Vector α n) (f : α → α) : updAll v (fun _ x => f x) = v.map f :=
  vector_ext_fin fun i => by simp

/-- s once the head of the boundary is taken or about to be. -/
def State.headDone (s : State) : State := { s with timing := { s.timing with tuningDue := false } }

/-- s with another tuning queue. -/
def State.queued (q : List TuneEntry) (s : State) : State := { s with tuning := q }

theorem tuningEntryApplied_headDone (h : s.timing.tuningDue = true) :
    tuningEntryApplied s = takeCancels (takeTuningHead s.headDone) := by
  rw [tuningEntryApplied, if_pos h]
  rfl

theorem takeTuningHead_nil (h : s.tuning = []) : takeTuningHead s = s := by
  simp [takeTuningHead, h]

theorem takeTuningHead_passes (h : s.tuning = e :: rest) (hpass : tuneCheck e s = true) :
    takeTuningHead s = applyEntry e (s.queued rest) := by
  simp only [takeTuningHead, h, hpass, if_true]
  rfl

theorem takeTuningHead_fails (h : s.tuning = e :: rest) (hfail : tuneCheck e s = false) :
    takeTuningHead s = s.queued (rest.filter fun x => x.path != e.path) := by
  simp only [takeTuningHead, h, hfail, Bool.false_eq_true, if_false]
  rfl

theorem framer_modFramer_self (s : State) (ix : FramerIx) (f : Framer → Framer) :
    (s.modFramer ix f).framer ix = f (s.framer ix) := by
  cases ix <;> simp [State.modFramer, State.framer]

theorem framer_modFramer_path_ne (s : State) (f : Framer → Framer) (h : j ≠ i) :
    (s.modFramer (.path i) f).framer (.path j) = s.framer (.path j) := by
  simp [State.modFramer, State.framer, upd_get_ne _ _ _ _ h]

section applyReceive
variable (s : State) (i : PathIx) (k : Slot)

theorem applyReceive_rx_self :
    (applyReceive i k s).rxSide i = { s.rxSide i with word := slotWord k, warmUp := true, latest := none } :=
  State.rxSide_modRx_self s i _

theorem applyReceive_rx_ne (h : j ≠ i) : (applyReceive i k s).rxSide j = s.rxSide j := State.rxSide_modRx_ne s i _ h

theorem applyReceive_framer_self : (applyReceive i k s).framer (.path i) = Framer.cleared :=
  framer_modFramer_self _ (.path i) _

theorem applyReceive_framer_ne (h : j ≠ i) : (applyReceive i k s).framer (.path j) = s.framer (.path j) :=
  framer_modFramer_path_ne _ _ h

theorem applyReceive_path_self : (applyReceive i k s).path i = { s.path i with
    rxPending := false, check := if acquiring (s.path i).state then .warmUp else (s.path i).check } :=
  State.path_modPath_self _ i _

theorem applyReceive_path_ne (h : j ≠ i) : (applyReceive i k s).path j = s.path j := State.path_modPath_ne _ i _ h

theorem applyTransmit_tx_self :
    (applyTransmit i k s).txSide i = { s.txSide i with word := slotWord k, slotInUse := some k } :=
  State.txSide_modTx_self s i _

theorem applyTransmit_tx_ne (h : j ≠ i) : (applyTransmit i k s).txSide j = s.txSide j := State.txSide_modTx_ne s i _ h

theorem applyTransmit_path_self : (applyTransmit i k s).path i = { s.path i with txPending := false } :=
  State.path_modPath_self _ i _

theorem applyTransmit_path_ne (h : j ≠ i) : (applyTransmit i k s).path j = s.path j := State.path_modPath_ne _ i _ h

/-- An entry applied leaves what the paths owe. -/
theorem applyReceive_owed (j : PathIx) : ((applyReceive i k s).path j).cancelOwed = (s.path j).cancelOwed := by
  rcases eq_or_ne j i with rfl | h
  · rw [applyReceive_path_self]
  · rw [applyReceive_path_ne _ _ _ h]

theorem applyTransmit_owed (j : PathIx) : ((applyTransmit i k s).path j).cancelOwed = (s.path j).cancelOwed := by
  rcases eq_or_ne j i with rfl | h
  · rw [applyTransmit_path_self]
  · rw [applyTransmit_path_ne _ _ _ h]

end applyReceive

section takeCancels
variable (s : State)

theorem takeCancels_tuning : (takeCancels s).tuning =
    s.tuning.filter fun e => decide (¬(e.side = .transmit ∧ (s.path e.path).cancelOwed = 1)) := by
  refine List.filter_congr fun e _ => ?_
  rw [Bool.eq_iff_iff]
  simp [cancelDue]

theorem takeCancels_eq : takeCancels s =
    { s with tuning := (takeCancels s).tuning, paths := s.paths.map fun p => { p with cancelOwed := p.cancelOwed - 1 } } := by
  rw [← updAll_const]
  rfl

end takeCancels

end Sys2Proof.Machine

namespace Sys2Proof

open Machine

/-- Settles O20: the head passes its check and is applied, or leaves with every entry of its path; the owed cancellations
come one head nearer. -/
theorem tuningHeadTaken : Obligations.TuningHeadTaken := by
  refine ⟨fun i k rest s hdue hq hrx => ?_, fun i k rest s hdue hq hown howner => ?_, fun i side k rest s hdue hq hfail => ?_,
    fun s hdue hq => ?_, fun s hdue => ?_, ?_⟩
  · have hq' : s.headDone.tuning = ⟨i, .receive, k⟩ :: rest := hq
    have hpass : tuneCheck ⟨i, .receive, k⟩ s.headDone = true := by
      have hrx' : (s.headDone.path i).rxSlot = some k := hrx
      simp [tuneCheck, hrx']
    rw [answers_iff, effect, tuningEntryApplied_headDone hdue, takeTuningHead_passes hq' hpass]
    have hbase (j : PathIx) : (s.headDone.queued rest).path j = s.path j := rfl
    have happly : applyEntry ⟨i, .receive, k⟩ (s.headDone.queued rest) = applyReceive i k (s.headDone.queued rest) := rfl
    rw [happly]
    refine ⟨?_, applyReceive_rx_self _ i k, applyReceive_framer_self _ i k, ?_, fun j hj =>
      ⟨applyReceive_rx_ne _ i k hj, applyReceive_framer_ne _ i k hj, ?_⟩, rfl⟩
    · rw [takeCancels_tuning]
      simp only [applyReceive_owed, hbase]
      rfl
    · rw [takeCancels_path, applyReceive_path_self, hbase]
    · rw [takeCancels_path, applyReceive_path_ne _ _ _ hj, hbase]
  · have hq' : s.headDone.tuning = ⟨i, .transmit, k⟩ :: rest := hq
    have hpass : tuneCheck ⟨i, .transmit, k⟩ s.headDone = true := by
      have hown' : (s.headDone.slot k).own ≠ .none := hown
      have howner' : (s.headDone.slot k).ownPath = some i := howner
      simp [tuneCheck, hown', howner']
    rw [answers_iff, effect, tuningEntryApplied_headDone hdue, takeTuningHead_passes hq' hpass]
    have hbase (j : PathIx) : (s.headDone.queued rest).path j = s.path j := rfl
    have happly : applyEntry ⟨i, .transmit, k⟩ (s.headDone.queued rest) = applyTransmit i k (s.headDone.queued rest) := rfl
    rw [happly]
    refine ⟨?_, applyTransmit_tx_self _ i k, ?_, fun j hj => ⟨applyTransmit_tx_ne _ i k hj, ?_⟩, rfl⟩
    · rw [takeCancels_tuning]
      simp only [applyTransmit_owed, hbase]
      rfl
    · rw [takeCancels_path, applyTransmit_path_self, hbase]
    · rw [takeCancels_path, applyTransmit_path_ne _ _ _ hj, hbase]
  · have hq' : s.headDone.tuning = ⟨i, side, k⟩ :: rest := hq
    have hcheck : tuneCheck ⟨i, side, k⟩ s.headDone = false := by
      have hrx' : (s.headDone.path i).rxSlot = (s.path i).rxSlot := rfl
      have hslot : s.headDone.slot k = s.slot k := rfl
      rcases hfail with ⟨rfl, h⟩ | ⟨rfl, h⟩
      · simpa [tuneCheck, hrx'] using h
      · rcases h with h | h <;> simp [tuneCheck, hslot, h]
    rw [exec_eq, effect, tuningEntryApplied_headDone hdue, takeTuningHead_fails hq' hcheck, takeCancels_eq, takeCancels_tuning]
    have hpath (q : List TuneEntry) (j : PathIx) : (s.headDone.queued q).path j = s.path j := rfl
    have htuning (q : List TuneEntry) : (s.headDone.queued q).tuning = q := rfl
    have hfilter : (rest.filter fun x => x.path != i).filter
        (fun e => decide (¬(e.side = .transmit ∧ (s.path e.path).cancelOwed = 1))) =
        rest.filter fun e => decide (e.path ≠ i ∧ ¬(e.side = .transmit ∧ (s.path e.path).cancelOwed = 1)) := by
      rw [List.filter_filter]
      refine List.filter_congr fun e _ => ?_
      rw [Bool.eq_iff_iff]
      simp [and_comm]
    simp only [hpath, htuning]
    rw [hfilter]
    rfl
  · rw [exec_eq, effect, tuningEntryApplied_headDone hdue, takeTuningHead_nil (by exact hq), takeCancels_eq, takeCancels_tuning]
    have htuning : s.headDone.tuning = [] := hq
    rw [htuning, List.filter_nil, ← hq]
    rfl
  · rw [exec_eq, effect, tuningEntryApplied, if_neg (by simp [hdue])]
  · decide +kernel

end Sys2Proof
end
section
/-! PROOFS. The sample streams at the input ports and the composite output (O54). -/

namespace Sys2Proof.Machine

open Sys2Proof

variable {s : State} {i : PathIx}

/-! ### Receive sides (R1, R4, R6) -/

theorem RxSide.takeSample_ends (x : IQ) {r : RxSide} (h : r.count < 256) : r.takeSample true x =
    { r with phase := r.phase + r.word, sum := r.sum + sampleMagnitude x, count := r.count + 1 } := by
  have hcount : r.advance.count < measureSamples := h
  rw [RxSide.takeSample, if_pos rfl, RxSide.measure, if_pos hcount]
  rfl

theorem endsChannelSample_of {a : Nat} (h : a % 64 = 63) : endsChannelSample a = true := by simp [endsChannelSample, h]

theorem endsChannelSample_of_ne {a : Nat} (h : a % 64 ≠ 63) : endsChannelSample a = false := by simp [endsChannelSample, h]

/-! ### Transmit sides (R11, R12, R13) -/

theorem scaledSample_full {set : TxSet} (h : set.cond = .full) (x : IQ) :
    scaledSample set x = ⟨(x.i.toInt * set.gain).tdiv 1024, (x.q.toInt * set.gain).tdiv 1024⟩ := by
  simp [scaledSample, h, scalePart]

theorem TxSide.takeProgramme_eq (x : IQ) (t : TxSide) : t.takeProgramme x =
    { t with channel := scaledSample t.inUse x, tonePhase := t.tonePhase + (t.tone.map toneStep).getD 0 } := by
  rw [TxSide.takeProgramme, TxSide.advanceTone_eq]

theorem TxSide.sends_iff (t : TxSide) : t.sends = true ↔
    t.inUse.cond ≠ .off ∧ t.slotInUse ≠ none ∧ t.slotInUse = t.recordSlot := by
  simp [TxSide.sends, Option.isSome_iff_ne_none, and_assoc]

/-! ### BAND_INPUT_SAMPLE -/

section band
variable (x : IQ) (chans : Vector IQ 12) (y : IQ) (s : State)

theorem bandInputSample_rx (i : PathIx) : (bandInputSample x chans y s).rxSide i =
    (s.rxSide i).takeSample (endsChannelSample s.band.alignment) chans[i.val] := by
  simp [bandInputSample, State.rxSide]

theorem bandInputSample_tx (i : PathIx) : (bandInputSample x chans y s).txSide i =
    if endsChannelSample s.band.alignment then (s.txSide i).takeProgramme chans[i.val] else s.txSide i := by
  unfold bandInputSample State.txSide
  dsimp only
  split <;> simp

theorem bandInputSample_survey : (bandInputSample x chans y s).survey.rx =
    s.survey.rx.takeSample (endsChannelSample s.band.alignment) y := rfl

theorem bandInputSample_frame : bandInputSample x chans y s = { s with
    band := (bandInputSample x chans y s).band, rx := (bandInputSample x chans y s).rx
    tx := (bandInputSample x chans y s).tx
    survey := { s.survey with rx := (bandInputSample x chans y s).survey.rx } } := rfl

end band

/-! ### COMPOSITE_SAMPLE (R13, R15, R16) -/

/-- A path's transmit side sends its samples in this block (R13). -/
def State.sendsOn (s : State) (i : PathIx) : Prop :=
  (s.txSide i).inUse.cond ≠ .off ∧ (s.txSide i).slotInUse ≠ none ∧ (s.txSide i).slotInUse = (s.txSide i).recordSlot

theorem sideSample_eq (s : State) (sides : Vector WideIQ 12) (i : PathIx) :
    (s.sendsOn i → sideSample s sides i = sides[i.val]) ∧ (¬s.sendsOn i → sideSample s sides i = ⟨0, 0⟩) := by
  have h := TxSide.sends_iff (s.txSide i)
  exact ⟨fun hs => if_pos (h.mpr hs), fun hs => if_neg fun hsend => hs (h.mp hsend)⟩

theorem sumI_eq (s : State) (sides : Vector WideIQ 12) {P : PathIx → Prop} [DecidablePred P] (hP : ∀ i, P i ↔ s.sendsOn i) :
    sumI s sides = ((indices 12).map fun i => if P i then sides[i.val].i else 0).sum := by
  refine congrArg List.sum (List.map_congr_left fun i _ => ?_)
  by_cases h : P i
  · rw [if_pos h, (sideSample_eq s sides i).1 ((hP i).mp h)]
  · rw [if_neg h, (sideSample_eq s sides i).2 fun hs => h ((hP i).mpr hs)]

theorem sumQ_eq (s : State) (sides : Vector WideIQ 12) {P : PathIx → Prop} [DecidablePred P] (hP : ∀ i, P i ↔ s.sendsOn i) :
    sumQ s sides = ((indices 12).map fun i => if P i then sides[i.val].q else 0).sum := by
  refine congrArg List.sum (List.map_congr_left fun i _ => ?_)
  by_cases h : P i
  · rw [if_pos h, (sideSample_eq s sides i).1 ((hP i).mp h)]
  · rw [if_neg h, (sideSample_eq s sides i).2 fun hs => h ((hP i).mpr hs)]

theorem CompositePort.take_clips (x y : Int) {c : CompositePort} (h : c.clips < 16384) :
    (-32768 ≤ x → x ≤ 32767 → -32768 ≤ y → y ≤ 32767 → (c.take x y).clips = c.clips) ∧
    (x < -32768 ∨ 32767 < x ∨ y < -32768 ∨ 32767 < y → (c.take x y).clips = c.clips + 1) := by
  have hout : (outside16 x || outside16 y) = true ↔ x < -32768 ∨ 32767 < x ∨ y < -32768 ∨ 32767 < y := by
    simp [outside16, or_assoc]
  refine ⟨fun h₁ h₂ h₃ h₄ => ?_, fun hclip => ?_⟩
  · rw [CompositePort.take]
    exact if_neg fun hc => by
      rcases hout.mp hc with h | h | h | h <;> omega
  · have hmin : min clipCapacity (c.clips + 1) = c.clips + 1 := Nat.min_eq_right h
    rw [CompositePort.take]
    exact (if_pos (hout.mpr hclip)).trans hmin

theorem compositeSample_tx (sides : Vector WideIQ 12) (s : State) (i : PathIx) :
    (compositeSample sides s).txSide i = { s.txSide i with phase := (s.txSide i).phase + (s.txSide i).word } := by
  simp [compositeSample, State.txSide]

end Sys2Proof.Machine

namespace Sys2Proof

open Machine

/-- Settles O54: each port takes its sample, and every side what the 64th strobe gives it. -/
theorem samplesTaken : Obligations.SamplesTaken := by
  refine ⟨fun x chans y s => ?_, fun x chan s hcount => ?_, fun sides s hclips => ?_, fun x => ?_⟩
  · rw [answers_iff, effect]
    refine ⟨rfl, fun i => ⟨fun h => ?_, fun h hcount => ?_⟩, fun h => ?_, fun h hcount => ?_, bandInputSample_frame x chans y s⟩
    · rw [bandInputSample_rx, bandInputSample_tx, endsChannelSample_of_ne h]
      exact ⟨rfl, rfl⟩
    · rw [bandInputSample_rx, bandInputSample_tx, endsChannelSample_of h, RxSide.takeSample_ends _ hcount, if_pos rfl,
        TxSide.takeProgramme_channel]
      refine ⟨rfl, fun hfull => scaledSample_full hfull _, fun hne => scaledSample_of_ne_full hne _, ?_⟩
      rw [TxSide.takeProgramme_eq]
      generalize s.txSide i = t
      rcases t with ⟨w, p, k, u, q, r, tone, ph, c⟩
      cases tone with
      | none => simp
      | some z => cases z <;> rfl
    · rw [bandInputSample_survey, endsChannelSample_of_ne h]
      rfl
    · rw [bandInputSample_survey, endsChannelSample_of h, RxSide.takeSample_ends _ hcount]
  · rw [answers_iff, effect, couplerInputSample]
    by_cases h : s.coupler.alignment % 64 = 63
    · rw [if_pos h, endsChannelSample_of h, RxSide.takeSample_ends _ hcount]
      rfl
    · rw [if_neg h, endsChannelSample_of_ne h]
      rfl
  · rw [answers_iff, effect]
    intro sends si sq
    have hi : sumI s sides = si := sumI_eq s sides fun i => Iff.rfl
    have hq : sumQ s sides = sq := sumQ_eq s sides fun i => Iff.rfl
    obtain ⟨hin, hout⟩ := CompositePort.take_clips si sq hclips
    have hport : (compositeSample sides s).composite = s.composite.take si sq := by rw [← hi, ← hq]; rfl
    rw [hport]
    exact ⟨rfl, hin, hout, compositeSample_tx sides s, by rw [← hport]; rfl⟩
  · rfl

end Sys2Proof
end
section
/-! PROOFS. The status record and the status line (O53). -/

namespace Sys2Proof.Machine

open Sys2Proof

variable {s : State} {i : PathIx}

/-! ### Bytes of a record -/

theorem byteOf_toNat (n : Nat) : (byteOf n).toNat = n % 256 := rfl

theorem byteAt_append_left {l r : List Byte} {k : Nat} (h : k < l.length) : byteAt (l ++ r) k = byteAt l k :=
  List.getD_append l r 0 k h

theorem byteAt_append_right {l r : List Byte} {k : Nat} (h : l.length ≤ k) : byteAt (l ++ r) k = byteAt r (k - l.length) :=
  List.getD_append_right l r 0 k h

theorem field16_bytes16 (n : Nat) : (byteOf (n / 256)).toNat * 256 + (byteOf n).toNat = n % 65536 := by
  rw [byteOf_toNat, byteOf_toNat]
  omega

/-- The item at an offset in a row of pieces of one length. -/
theorem byteAt_flatMap {α : Type} {f : α → List Byte} {c : Nat} (hf : ∀ a, (f a).length = c) (l : List α) {n d : Nat}
    (hn : n < l.length) (hd : d < c) : byteAt (l.flatMap f) (c * n + d) = byteAt (f l[n]) d := by
  induction l generalizing n with
  | nil => simp at hn
  | cons a l ih =>
    rw [List.flatMap_cons]
    cases n with
    | zero => rw [Nat.mul_zero, Nat.zero_add, byteAt_append_left (by rw [hf]; exact hd)]; rfl
    | succ n =>
      have hoff : c * (n + 1) + d - c = c * n + d := by rw [Nat.mul_succ]; omega
      rw [byteAt_append_right (by rw [hf, Nat.mul_succ]; omega), hf, hoff, ih (by simpa using hn)]
      rfl

theorem indices_getElem (n : Nat) (i : Nat) (h : i < (indices n).length) : ((indices n)[i]).val = i := by
  induction n generalizing i with
  | zero => simp [indices] at h
  | succ n ih =>
    cases i with
    | zero => rfl
    | succ i =>
      have h' : i < (indices n).length := by simpa [indices] using h
      have := ih i h'
      simp [indices, this]

/-! ### The site flag word (Table 10-5) -/

theorem flagBit_eq (b : Bool) (k : Nat) : flagBit b k = b.toNat * 2 ^ k := by
  cases b <;> simp [flagBit]

theorem siteFlags_eq (s : State) : siteFlags s =
    Nat.bit s.loader.configInvalid (Nat.bit s.loader.configClamped (Nat.bit s.neighbourOverflow (Nat.bit s.pinnedCollision
      (Nat.bit s.mon.chainFault (Nat.bit s.clipFault (Nat.bit s.gov.lockoutFlag (Nat.bit s.inhibitFlag
        (Nat.bit s.silentRelease 0)))))))) := by
  simp only [siteFlags, flagBit_eq, Nat.bit_val]
  omega

theorem siteFlags_lt (s : State) : siteFlags s < 512 := by
  rw [siteFlags_eq]
  simp only [Nat.bit_val]
  have h (b : Bool) : b.toNat ≤ 1 := Bool.toNat_le b
  have h₀ := h s.loader.configInvalid
  have h₁ := h s.loader.configClamped
  have h₂ := h s.neighbourOverflow
  have h₃ := h s.pinnedCollision
  have h₄ := h s.mon.chainFault
  have h₅ := h s.clipFault
  have h₆ := h s.gov.lockoutFlag
  have h₇ := h s.inhibitFlag
  have h₈ := h s.silentRelease
  omega

theorem siteFlags_testBit (s : State) :
    (siteFlags s).testBit 0 = s.loader.configInvalid ∧ (siteFlags s).testBit 1 = s.loader.configClamped ∧
    (siteFlags s).testBit 2 = s.neighbourOverflow ∧ (siteFlags s).testBit 3 = s.pinnedCollision ∧
    (siteFlags s).testBit 4 = s.mon.chainFault ∧ (siteFlags s).testBit 5 = s.clipFault ∧
    (siteFlags s).testBit 6 = s.gov.lockoutFlag ∧ (siteFlags s).testBit 7 = s.inhibitFlag ∧
    (siteFlags s).testBit 8 = s.silentRelease := by
  rw [siteFlags_eq]
  refine ⟨?_, ?_, ?_, ?_, ?_, ?_, ?_, ?_, ?_⟩ <;>
  · repeat rw [Nat.testBit_bit_succ]
    exact Nat.testBit_bit_zero _ _

/-! ### The record -/

theorem pathSummary_length (s : State) (i : PathIx) : (pathSummary s i).length = 10 := rfl

/-- Bytes 2 to 15 of the record. -/
def recordHead (s : State) : List Byte :=
  bytes16 s.params.stationId.toNat ++ bytes32 s.timing.secs.toNat ++
  [byteOf s.station.code, byteOf s.gov.site.code] ++ bytes16 s.gov.backoff ++ bytes16 (siteFlags s) ++
  [byteOf s.neighbours.length, byteOf s.sources.length]

theorem recordBody_eq (s : State) : recordBody s = recordHead s ++ (indices 12).flatMap (pathSummary s) := by
  rw [recordBody, recordHead]

theorem recordHead_length (s : State) : (recordHead s).length = 14 := rfl

theorem length_flatMap_of_length {α : Type} {f : α → List Byte} {c : Nat} (hf : ∀ a, (f a).length = c) (l : List α) :
    (l.flatMap f).length = c * l.length := by
  induction l with
  | nil => rfl
  | cons a l ih => rw [List.flatMap_cons, List.length_append, hf, ih, List.length_cons]; ring

theorem recordBody_length (s : State) : (recordBody s).length = 134 := by
  rw [recordBody_eq, List.length_append, recordHead_length, length_flatMap_of_length (pathSummary_length s),
    indices_length]

theorem statusBytes_length (s : State) : (statusBytes s).length = 138 := by
  rw [statusBytes, List.length_append, List.length_append, recordBody_length]
  rfl

theorem statusBytes_body (s : State) {k : Nat} (h : k < 134) : byteAt (statusBytes s) (k + 2) = byteAt (recordBody s) k := by
  rw [statusBytes, byteAt_append_left (by rw [List.length_append, recordBody_length]; simp; omega),
    byteAt_append_right (by simp)]
  simp

theorem statusBytes_head (s : State) {k : Nat} (h : k < 14) : byteAt (statusBytes s) (k + 2) = byteAt (recordHead s) k := by
  rw [statusBytes_body s (by omega), recordBody_eq, byteAt_append_left (by rw [recordHead_length]; exact h)]

theorem statusBytes_summary (s : State) (i : PathIx) {d : Nat} (h : d < 10) :
    byteAt (statusBytes s) (16 + 10 * i.val + d) = byteAt (pathSummary s i) d := by
  have hi : i.val < (indices 12).length := by rw [indices_length]; exact i.isLt
  have hix : (indices 12)[i.val] = i := Fin.ext (indices_getElem 12 i.val hi)
  have hoff : 16 + 10 * i.val + d = (10 * i.val + d + 14) + 2 := by omega
  rw [hoff, statusBytes_body s (by omega), recordBody_eq, byteAt_append_right (by rw [recordHead_length]; omega),
    recordHead_length, Nat.add_sub_cancel, byteAt_flatMap (pathSummary_length s) _ hi h, hix]

theorem statusBytes_drop (s : State) : ((statusBytes s).drop 2).take 134 = recordBody s := by
  rw [statusBytes, List.append_assoc, List.drop_left' (by rfl), List.take_left' (recordBody_length s)]

theorem statusBytes_crc (s : State) : field16 (statusBytes s) 136 = (crc16 (recordBody s)).toNat := by
  have hlen : ([0x5A, 0xC3] ++ recordBody s : List Byte).length = 136 := by
    rw [List.length_append, recordBody_length]; rfl
  rw [field16, statusBytes, byteAt_append_right (by rw [hlen]), byteAt_append_right (by rw [hlen]; omega), hlen]
  exact (field16_bytes16 _).trans (Nat.mod_eq_of_lt (crc16 (recordBody s)).isLt)

theorem statusBytes_take (s : State) : (statusBytes s).take 2 = [0x5A, 0xC3] := by
  rw [statusBytes, List.append_assoc, List.take_left' (by rfl)]

/-! ### The values that the summaries name -/

theorem PathState.code_lt (p : PathState) : p.code < 256 := by cases p <;> decide

theorem Cond.code_lt (c : Cond) : c.code < 256 := by cases c <;> decide

theorem eventCode_lt (e : Option PathEvent) : eventCode e < 256 := by
  rcases e with - | e
  · decide
  · cases e <;> decide

theorem slotCode_lt (k : Option Slot) : slotCode k < 256 := by
  rcases k with - | k
  · decide
  · exact lt_of_lt_of_le k.isLt (by decide)

theorem sourceCode_lt (x : Option Selected) : sourceCode x < 65536 := by
  rcases x with - | x
  · decide
  · exact x.station.isLt

theorem byteOf_toNat_of_lt {n : Nat} (h : n < 256) : (byteOf n).toNat = n := Nat.mod_eq_of_lt h

/-! ### The line -/

/-- The state whose record buffer has been filled. -/
def State.recorded (s : State) : State :=
  { s with
    timing := { s.timing with statusDue := false }
    status := { s.status with buffer := statusBytes s, sent := 0 } }

theorem statusRecord_due (h : s.timing.statusDue = true) : statusRecord s = s.recorded := if_pos h

theorem clipFault_eq (s : State) : s.clipFault = decide (s.gov.faultHistory ≠ []) := by
  rw [State.clipFault]
  cases s.gov.faultHistory <;> rfl

theorem inhibitFlag_eq (s : State) : s.inhibitFlag = decide (s.gov.site = .inhibited) := by
  rw [State.inhibitFlag]
  cases s.gov.site <;> rfl

theorem lineBit_eq (bs : List Byte) (j : Nat) {r : Nat} (hr : r < 10) : lineBit bs (10 * j + r) =
    if r = 0 then false else if r = 9 then true else (byteAt bs j).getLsbD (r - 1) := by
  have hmod : (10 * j + r) % 10 = r := by omega
  have hdiv : (10 * j + r) / 10 = j := by omega
  rw [lineBit, hmod, hdiv]
  simp only [beq_iff_eq]

/-! ### The fields of the record -/

theorem statusBytes_header (s : State) :
    field16 (statusBytes s) 2 = s.params.stationId.toNat ∧ field32 (statusBytes s) 4 = s.timing.secs.toNat ∧
    (byteAt (statusBytes s) 8).toNat = s.station.code ∧ (byteAt (statusBytes s) 9).toNat = s.gov.site.code ∧
    field16 (statusBytes s) 10 = s.gov.backoff % 65536 ∧ field16 (statusBytes s) 12 = siteFlags s ∧
    (byteAt (statusBytes s) 14).toNat = s.neighbours.length % 256 ∧
    (byteAt (statusBytes s) 15).toNat = s.sources.length % 256 := by
  have hb {k : Nat} (h : k < 14) := statusBytes_head s h
  have hid : s.params.stationId.toNat < 65536 := s.params.stationId.isLt
  have hsecs : s.timing.secs.toNat < 4294967296 := s.timing.secs.isLt
  have hflags := siteFlags_lt s
  refine ⟨?_, ?_, ?_, ?_, ?_, ?_, ?_, ?_⟩
  · rw [field16, hb (k := 0) (by decide), hb (k := 1) (by decide)]
    exact (field16_bytes16 _).trans (Nat.mod_eq_of_lt hid)
  · rw [field32, field16, field16, hb (k := 2) (by decide), hb (k := 3) (by decide), hb (k := 4) (by decide),
      hb (k := 5) (by decide)]
    change ((byteOf (s.timing.secs.toNat / 16777216)).toNat * 256 + (byteOf (s.timing.secs.toNat / 65536)).toNat) * 65536 +
      ((byteOf (s.timing.secs.toNat / 256)).toNat * 256 + (byteOf s.timing.secs.toNat).toNat) = _
    rw [byteOf_toNat, byteOf_toNat, byteOf_toNat, byteOf_toNat]
    omega
  · rw [hb (k := 6) (by decide)]
    exact byteOf_toNat_of_lt (by cases s.station <;> decide)
  · rw [hb (k := 7) (by decide)]
    exact byteOf_toNat_of_lt (by cases s.gov.site <;> decide)
  · rw [field16, hb (k := 8) (by decide), hb (k := 9) (by decide)]
    exact field16_bytes16 _
  · rw [field16, hb (k := 10) (by decide), hb (k := 11) (by decide)]
    exact (field16_bytes16 _).trans (Nat.mod_eq_of_lt (by omega))
  · exact congrArg BitVec.toNat (hb (k := 12) (by decide))
  · exact congrArg BitVec.toNat (hb (k := 13) (by decide))

theorem statusBytes_path (s : State) (i : PathIx) :
    (byteAt (statusBytes s) (16 + 10 * i.val)).toNat = (s.path i).state.code ∧
    (byteAt (statusBytes s) (16 + 10 * i.val + 1)).toNat = (s.path i).cond.code ∧
    (byteAt (statusBytes s) (16 + 10 * i.val + 2)).toNat = eventCode (s.path i).event ∧
    (byteAt (statusBytes s) (16 + 10 * i.val + 3)).toNat = slotCode (s.path i).rxSlot ∧
    (byteAt (statusBytes s) (16 + 10 * i.val + 4)).toNat = slotCode (s.path i).output ∧
    field16 (statusBytes s) (16 + 10 * i.val + 5) = sourceCode (s.path i).selected ∧
    (byteAt (statusBytes s) (16 + 10 * i.val + 7)).toNat = (s.builderPath i).keptDepth % 256 ∧
    field16 (statusBytes s) (16 + 10 * i.val + 8) = s.amplitude i % 65536 := by
  have hb {d : Nat} (h : d < 10) := statusBytes_summary s i h
  refine ⟨?_, ?_, ?_, ?_, ?_, ?_, ?_, ?_⟩
  · exact (congrArg BitVec.toNat (hb (d := 0) (by decide))).trans (byteOf_toNat_of_lt (PathState.code_lt _))
  · rw [hb (d := 1) (by decide)]
    exact byteOf_toNat_of_lt (Cond.code_lt _)
  · rw [hb (d := 2) (by decide)]
    exact byteOf_toNat_of_lt (eventCode_lt _)
  · rw [hb (d := 3) (by decide)]
    exact byteOf_toNat_of_lt (slotCode_lt _)
  · rw [hb (d := 4) (by decide)]
    exact byteOf_toNat_of_lt (slotCode_lt _)
  · rw [field16, hb (d := 5) (by decide), show 16 + 10 * i.val + 5 + 1 = 16 + 10 * i.val + 6 from rfl,
      hb (d := 6) (by decide)]
    exact (field16_bytes16 _).trans (Nat.mod_eq_of_lt (sourceCode_lt _))
  · exact congrArg BitVec.toNat (hb (d := 7) (by decide))
  · rw [field16, hb (d := 8) (by decide), show 16 + 10 * i.val + 8 + 1 = 16 + 10 * i.val + 9 from rfl,
      hb (d := 9) (by decide)]
    exact field16_bytes16 _

end Sys2Proof.Machine

namespace Sys2Proof

open Machine

/-- Settles O53: the record's bytes are its head, 12 summaries of ten bytes and the CRC, each read at its offset. -/
theorem statusRecordAndLine : Obligations.StatusRecordAndLine := by
  refine ⟨fun s hdue => ?_, fun s hdue => ?_, fun j r s hsent hr hj => ?_, fun s hsent => ?_⟩
  · rw [answers_iff, effect, statusRecord_due hdue]
    obtain ⟨hid, hsecs, hstation, hsite, hbackoff, hflags, hneighbours, hsources⟩ := statusBytes_header s
    obtain ⟨f₀, f₁, f₂, f₃, f₄, f₅, f₆, f₇, f₈⟩ := siteFlags_testBit s
    refine ⟨statusBytes_length s, statusBytes_take s, hid, hsecs, ?_, ?_, hbackoff, ?_, hneighbours, hsources,
      fun i => ?_, ?_, rfl⟩
    · exact hstation.trans (by cases s.station <;> rfl)
    · exact hsite.trans (by cases s.gov.site <;> rfl)
    · intro flags
      have heq : flags = siteFlags s := hflags
      rw [heq]
      exact ⟨siteFlags_lt s, f₀, f₁, f₂, f₃, f₄, f₅.trans (clipFault_eq s), f₆, f₇.trans (inhibitFlag_eq s), f₈⟩
    · obtain ⟨hstate, hcond, hevent, hrx, hout, hsel, hdepth, hamp⟩ := statusBytes_path s i
      refine ⟨?_, ?_, ?_, ?_, ?_, ?_, hdepth, hamp⟩
      · exact hstate.trans (by cases (s.path i).state <;> rfl)
      · exact hcond.trans (by cases (s.path i).cond <;> rfl)
      · refine hevent.trans ?_
        rcases (s.path i).event with - | e
        · rfl
        · cases e <;> rfl
      · exact hrx.trans (by cases (s.path i).rxSlot <;> rfl)
      · exact hout.trans (by cases (s.path i).output <;> rfl)
      · exact hsel.trans (by cases (s.path i).selected <;> rfl)
    · exact (statusBytes_crc s).trans (congrArg (fun bs => (crc16 bs).toNat) (statusBytes_drop s).symm)
  · rw [exec_eq, effect, statusRecord, if_neg (by rw [hdue]; exact Bool.false_ne_true)]
  · rw [exec_eq, effect, statusBitSent, if_pos (by omega), hsent, lineBit_eq _ j hr]
  · rw [exec_eq, effect, statusBitSent, if_neg (by omega)]

end Sys2Proof
end
section
/-! PROOFS. The tag builder: FRAME_START (O24) and the snapshot's frame (O23). -/

namespace Sys2Proof.Machine

open Sys2Proof

variable {s : State} {i j : PathIx}

/-! ### The flag byte of a snapshot (Table 2-3) -/

theorem flagByte_eq (s : State) (absent : Bool) (n : Nat) : flagByte s absent n =
    byteOf (2 ^ 4 * Nat.bit s.loader.configClamped (Nat.bit s.pinnedCollision (Nat.bit absent (Nat.bit s.params.openFlag 0))) + n) := by
  rw [flagByte]
  simp only [flagBit_eq, Nat.bit_val]
  congr 1
  omega

theorem flagByte_bit {absent : Bool} {n k : Nat} (hn : n < 16) (hk : k < 4) : (flagByte s absent n).getLsbD (4 + k) =
    (Nat.bit s.loader.configClamped (Nat.bit s.pinnedCollision (Nat.bit absent (Nat.bit s.params.openFlag 0)))).testBit k := by
  rw [flagByte_eq, byteOf, BitVec.getLsbD_ofNat, Nat.testBit_two_pow_mul_add _ hn, if_neg (by omega), Nat.add_sub_cancel_left,
    decide_eq_true (by omega : 4 + k < 8), Bool.true_and]

theorem flagByte_bits {absent : Bool} {n : Nat} (hn : n < 16) :
    (flagByte s absent n).getLsbD 4 = s.loader.configClamped ∧ (flagByte s absent n).getLsbD 5 = s.pinnedCollision ∧
    (flagByte s absent n).getLsbD 6 = absent ∧ (flagByte s absent n).getLsbD 7 = s.params.openFlag :=
  ⟨(flagByte_bit hn (k := 0) (by decide)).trans (Nat.testBit_bit_zero _ _),
    (flagByte_bit hn (k := 1) (by decide)).trans ((Nat.testBit_bit_succ _ _ _).trans (Nat.testBit_bit_zero _ _)),
    (flagByte_bit hn (k := 2) (by decide)).trans ((Nat.testBit_bit_succ _ _ _).trans
      ((Nat.testBit_bit_succ _ _ _).trans (Nat.testBit_bit_zero _ _))),
    (flagByte_bit hn (k := 3) (by decide)).trans ((Nat.testBit_bit_succ _ _ _).trans
      ((Nat.testBit_bit_succ _ _ _).trans ((Nat.testBit_bit_succ _ _ _).trans (Nat.testBit_bit_zero _ _))))⟩

theorem flagByte_count {absent : Bool} {n : Nat} (hn : n < 16) : (flagByte s absent n).toNat % 16 = n := by
  rw [flagByte_eq, byteOf_toNat]
  omega

/-! ### A snapshot and the programme it promises (R39) -/

theorem promisesFull_snapshot (h : (claimBytes s).length ≤ 12) (i : PathIx) :
    promisesFull (snapshotBytes s i) = !advertisedAbsent (s.path i) := by
  have hflag : byteAt (snapshotBytes s i) 2 = flagByte s (advertisedAbsent (s.path i)) (claimBytes s).length := rfl
  obtain ⟨-, -, habsent, -⟩ := flagByte_bits (s := s) (absent := advertisedAbsent (s.path i)) (n := (claimBytes s).length)
    (by omega)
  rw [promisesFull, hflag, habsent]

/-- A frame just started is not abandoned: its flag and the condition are of one time. -/
theorem abandonDue_started (h : (claimBytes s).length ≤ 12) (b : BuilderPath) :
    abandonDue (s.path i).cond (startFrame s i b) = false := by
  rw [startFrame]
  split
  · simp only [abandonDue, promisesFull_snapshot h, advertisedAbsent]
    cases (s.path i).cond <;> simp
  · rfl

/-! ### A bit handed (R38) -/

theorem handBit_self (s : State) (i : PathIx) :
    (handBit i s).builderPath i =
      { (s.builderPath i).checked (s.path i).cond with bitPosition := (s.builderPath i).bitPosition + 1 } ∧
    (handBit i s).txSide i = (s.txSide i).takeTone ((s.builderPath i).checked (s.path i).cond).tone := by
  simp [handBit, BuilderPath.checked]

theorem handBit_ne (s : State) (h : j ≠ i) :
    (handBit i s).builderPath j = s.builderPath j ∧ (handBit i s).txSide j = s.txSide j := by
  constructor
  · exact (State.builderPath_modTx ..).trans (State.builderPath_modBuilder_ne s i _ h)
  · exact (State.txSide_modTx_ne _ i _ h).trans (State.txSide_modBuilder ..)

/-- Nothing but the builder and the transmit sides is changed, and the frame timer stands. -/
structure BitsHanded (s t : State) : Prop where
  frame : t = { s with builder := t.builder, tx := t.tx }
  timer : t.builder.frameTimer = s.builder.frameTimer

theorem BitsHanded.refl (s : State) : BitsHanded s s := ⟨rfl, rfl⟩

theorem BitsHanded.handBit {t : State} (h : BitsHanded s t) (i : PathIx) : BitsHanded s (handBit i t) := by
  refine ⟨?_, h.timer⟩
  exact congrArg (fun w : State => { w with builder := (Machine.handBit i t).builder, tx := (Machine.handBit i t).tx }) h.frame

/-- What the builder hands for a path: its record and its transmit side after one bit. -/
def bitHanded (c : Cond) (x : BuilderPath × TxSide) : BuilderPath × TxSide :=
  ({ x.1.checked c with bitPosition := x.1.bitPosition + 1 }, x.2.takeTone (x.1.checked c).tone)

theorem handBits (s : State) (i : PathIx) :
    ((forPaths handBit s).builderPath i, (forPaths handBit s).txSide i) = bitHanded (s.path i).cond (s.builderPath i, s.txSide i) := by
  have h := forPaths_pointwise (fun u j => ((u.path j).cond, u.builderPath j, u.txSide j)) handBit
    (fun _ x => (x.1, bitHanded x.1 x.2))
    (fun j u => by
      obtain ⟨hb, ht⟩ := handBit_self u j
      rw [hb, ht]; rfl)
    (fun j k u hk => by
      obtain ⟨hb, ht⟩ := handBit_ne u hk
      rw [hb, ht]; rfl) s i
  exact congrArg Prod.snd h

/-! ### FRAME_START -/

theorem takeSnapshots_path (s : State) (i : PathIx) : (takeSnapshots s).path i = s.path i := by
  simp only [takeSnapshots, State.path]

theorem takeSnapshots_txSide (s : State) (i : PathIx) : (takeSnapshots s).txSide i = s.txSide i := by
  simp only [takeSnapshots, State.txSide]

theorem takeSnapshots_builderPath (s : State) (i : PathIx) : (takeSnapshots s).builderPath i = startFrame s i (s.builderPath i) :=
  updAll_get ..

theorem takeSnapshots_timer (s : State) : (takeSnapshots s).builder.frameTimer = s.builder.frameTimer - 400 := by
  simp only [takeSnapshots, framePeriod]

theorem takeSnapshots_frame (s : State) (b : Builder) (tx : Vector TxSide 12) :
    { takeSnapshots s with builder := b, tx := tx } = { s with builder := b, tx := tx } := by
  simp only [takeSnapshots]

theorem frameStart_due (h : 400 ≤ s.builder.frameTimer) : frameStart s = forPaths handBit (takeSnapshots s) := by
  have hexpired : frameTimerExpired s = true := decide_eq_true h
  rw [frameStart, frameStartAmong, if_pos hexpired]
  rfl

theorem frameStart_not_due (h : s.builder.frameTimer < 400) : frameStart s = s := by
  have hexpired : frameTimerExpired s = false := decide_eq_false (Nat.not_le.mpr h)
  rw [frameStart, frameStartAmong, if_neg (by rw [hexpired]; decide)]

theorem bitsHanded_frameStart (h : 400 ≤ s.builder.frameTimer) : BitsHanded (takeSnapshots s) (frameStart s) := by
  rw [frameStart_due h]
  exact forPaths_keeps (fun i u hu => hu.handBit i) (BitsHanded.refl _)

theorem startFrame_takes (h : takesSnapshot s i = true) (b : BuilderPath) : startFrame s i b =
    { snapshot := some (snapshotBytes s i), bitPosition := 0, keptDepth := advertisedDepth (s.path i), abandoned := false } :=
  if_pos h

theorem startFrame_idle (h : takesSnapshot s i = false) (b : BuilderPath) : startFrame s i b =
    { b with snapshot := none, bitPosition := 0, abandoned := false } :=
  if_neg (by rw [h]; decide)

theorem frameStart_path (h : 400 ≤ s.builder.frameTimer) (hclaims : (claimBytes s).length ≤ 12) (i : PathIx) :
    (frameStart s).builderPath i = { startFrame s i (s.builderPath i) with bitPosition := 1 } ∧
    (frameStart s).txSide i = (s.txSide i).takeTone (startFrame s i (s.builderPath i)).tone := by
  have hbit := handBits (takeSnapshots s) i
  have hchecked : (startFrame s i (s.builderPath i)).checked (s.path i).cond = startFrame s i (s.builderPath i) := by
    rw [BuilderPath.checked, abandonDue_started hclaims, Bool.or_false]
  have hposition : (startFrame s i (s.builderPath i)).bitPosition = 0 := by
    rw [startFrame]
    split <;> rfl
  rw [← frameStart_due h, takeSnapshots_path, takeSnapshots_txSide, takeSnapshots_builderPath, bitHanded, hchecked, hposition] at hbit
  exact Prod.mk.inj hbit

theorem takeTone_eq (x : Tone) (t : TxSide) :
    t.takeTone x = { t with tone := if t.inUse.cond = .off then none else some x } := by
  rw [TxSide.takeTone]
  simp only [beq_iff_eq]

/-! ### The claim bytes of a snapshot (R37) -/

theorem claimByte_eq (pinned held : Bool) (k : Slot) :
    claimByte pinned held k = byteOf (2 ^ 6 * Nat.bit held (Nat.bit pinned 0) + k.val) := by
  cases pinned <;> cases held <;> rfl

theorem claimByte_bit {pinned held : Bool} {k : Slot} {e : Nat} (he : e < 2) :
    (claimByte pinned held k).getLsbD (6 + e) = (Nat.bit held (Nat.bit pinned 0)).testBit e := by
  rw [claimByte_eq, byteOf, BitVec.getLsbD_ofNat, Nat.testBit_two_pow_mul_add _ k.isLt, if_neg (by omega),
    Nat.add_sub_cancel_left, decide_eq_true (by omega : 6 + e < 8), Bool.true_and]

theorem claimSlot_claimByte (pinned held : Bool) (k : Slot) : claimSlot (claimByte pinned held k) = k := by
  have hk := k.isLt
  have hread : (claimSlot (claimByte pinned held k)).val = (claimByte pinned held k).toNat % 64 := rfl
  refine Fin.ext ?_
  rw [hread, claimByte_eq, byteOf_toNat]
  omega

theorem readClaim_claimByte (pinned held : Bool) (k : Slot) :
    readClaim (claimByte pinned held k) = { slot := k, phase := if held then .held else .intent, pinned := pinned } := by
  have hheld : (claimByte pinned held k).getLsbD 6 = held := (claimByte_bit (e := 0) (by decide)).trans (Nat.testBit_bit_zero _ _)
  have hpinned : (claimByte pinned held k).getLsbD 7 = pinned :=
    (claimByte_bit (e := 1) (by decide)).trans ((Nat.testBit_bit_succ _ _ _).trans (Nat.testBit_bit_zero _ _))
  rw [readClaim, hheld, hpinned, claimSlot_claimByte]

theorem claimBytes_ascending (s : State) : (claimBytes s).Pairwise (fun a b => (claimSlot a).val < (claimSlot b).val) := by
  refine List.pairwise_map.mpr (((indices_pairwise 64).filter _).imp fun h => ?_)
  rw [claimSlot_claimByte, claimSlot_claimByte]
  exact h

/-! ### The bytes of a snapshot (Table 2-3) -/

/-- Bytes 0 to 9 of a path's snapshot. -/
def snapshotHead (s : State) (i : PathIx) : List Byte :=
  [leadByte, s.params.networkId, flagByte s (advertisedAbsent (s.path i)) (claimBytes s).length] ++
  bytes16 s.params.stationId.toNat ++ bytes16 (s.carryOf i).programme.toNat ++
  [byteOf (advertisedDepth (s.path i) * 16 + failureCount s)] ++ bytes16 (advertisedUpstream (s.path i)).toNat

theorem snapshotBody_eq (s : State) (i : PathIx) : snapshotBody s i = snapshotHead s i ++ claimBytes s := rfl

theorem snapshotHead_length (s : State) (i : PathIx) : (snapshotHead s i).length = 10 := rfl

theorem snapshotBody_length (s : State) (i : PathIx) : (snapshotBody s i).length = 10 + (claimBytes s).length := by
  rw [snapshotBody_eq, List.length_append, snapshotHead_length]

theorem snapshotBytes_head (s : State) (i : PathIx) {k : Nat} (h : k < 10) :
    byteAt (snapshotBytes s i) k = byteAt (snapshotHead s i) k := by
  rw [snapshotBytes, byteAt_append_left (by rw [snapshotBody_length]; omega), snapshotBody_eq,
    byteAt_append_left (by rw [snapshotHead_length]; exact h)]

theorem word16_snapshot (w : BitVec 16) {hi lo : Byte} (hhi : hi = byteOf (w.toNat / 256)) (hlo : lo = byteOf w.toNat) :
    word16 hi lo = w := by
  rw [hhi, hlo]
  refine BitVec.eq_of_toNat_eq ?_
  have h := w.isLt
  rw [word16_toNat, byteOf_toNat, byteOf_toNat]
  omega

theorem field16_snapshot (w : BitVec 16) {bs : List Byte} {k : Nat} (hi : byteAt bs k = byteOf (w.toNat / 256))
    (hlo : byteAt bs (k + 1) = byteOf w.toNat) : field16 bs k = w.toNat := by
  rw [field16, hi, hlo, field16_bytes16]
  exact Nat.mod_eq_of_lt w.isLt

theorem crc_snapshot (s : State) (i : PathIx) : byteAt (snapshotBytes s i) (10 + (claimBytes s).length) =
    crc8 ((snapshotBytes s i).take (10 + (claimBytes s).length)) := by
  rw [← snapshotBody_length s i, snapshotBytes]
  generalize snapshotBody s i = body
  rw [List.take_left' rfl, byteAt_append_right le_rfl, Nat.sub_self]
  rfl

section
variable (hclaims : (claimBytes s).length ≤ 12)
include hclaims

theorem claimCount_snapshot (i : PathIx) : claimCount (snapshotBytes s i) = (claimBytes s).length := by
  rw [claimCount, snapshotBytes_head s i (by decide)]
  exact flagByte_count (by omega)

theorem claims_snapshot (i : PathIx) :
    ((snapshotBytes s i).drop 10).take (claimCount (snapshotBytes s i)) = claimBytes s := by
  rw [claimCount_snapshot hclaims i, snapshotBytes, snapshotBody_eq, List.append_assoc,
    List.drop_left' (snapshotHead_length s i), List.take_left' rfl]

theorem flags_snapshot (i : PathIx) :
    (byteAt (snapshotBytes s i) 2).getLsbD 4 = s.loader.configClamped ∧
    (byteAt (snapshotBytes s i) 2).getLsbD 5 = s.pinnedCollision ∧
    (byteAt (snapshotBytes s i) 2).getLsbD 6 = advertisedAbsent (s.path i) ∧
    (byteAt (snapshotBytes s i) 2).getLsbD 7 = s.params.openFlag := by
  rw [snapshotBytes_head s i (by decide)]
  exact flagByte_bits (by omega)

theorem readable_snapshot (i : PathIx) (acceptOpen : Bool) (hid : s.params.stationId ≠ 0) (hlast : s.params.stationId ≠ 65535)
    (hprogramme : (s.carryOf i).programme ≠ 0) :
    readable { network := s.params.networkId, acceptOpen := acceptOpen } (snapshotBytes s i) = true := by
  have hb {k : Nat} (h : k < 10) := snapshotBytes_head s i h
  have hstation : field16 (snapshotBytes s i) 3 = s.params.stationId.toNat :=
    field16_snapshot _ (hb (by decide)) (hb (by decide))
  have hcarry : field16 (snapshotBytes s i) 5 = (s.carryOf i).programme.toNat :=
    field16_snapshot _ (hb (by decide)) (hb (by decide))
  have hcount := claimCount_snapshot hclaims i
  have hlength : (snapshotBytes s i).length = 11 + (claimBytes s).length := by
    rw [snapshotBytes, List.length_append, snapshotBody_length, List.length_singleton]; omega
  have hpasses : NetFilter.passes { network := s.params.networkId, acceptOpen := acceptOpen } (snapshotBytes s i) = true := by
    have hnetwork : byteAt (snapshotBytes s i) 1 = s.params.networkId := hb (by decide)
    rw [NetFilter.passes, hnetwork, beq_self_eq_true, Bool.true_or]
  have hcrc := crc_snapshot s i
  have hlead : byteAt (snapshotBytes s i) 0 = leadByte := hb (by decide)
  have hordered := claimBytes_ascending s
  rw [← claims_snapshot hclaims i, hcount] at hordered
  rw [readable, hcount, hlength, hpasses, hstation, hcarry, hcrc, hlead, decide_eq_true hordered]
  have h₀ : s.params.stationId.toNat ≠ 0 := fun h => hid (BitVec.eq_of_toNat_eq h)
  have h₁ : s.params.stationId.toNat ≠ 65535 := fun h => hlast (BitVec.eq_of_toNat_eq h)
  have h₂ : (s.carryOf i).programme.toNat ≠ 0 := fun h => hprogramme (BitVec.eq_of_toNat_eq h)
  simp [hclaims, h₀, h₁, h₂]

end

/-- Byte 7 holds the depth above the monitor failure count; both are below 16. -/
theorem depthByte (s : State) (i : PathIx) :
    (byteAt (snapshotBytes s i) 7).toNat / 16 = advertisedDepth (s.path i) ∧
    (byteAt (snapshotBytes s i) 7).toNat % 16 = failureCount s := by
  have hbyte : byteAt (snapshotBytes s i) 7 = byteOf (advertisedDepth (s.path i) * 16 + failureCount s) :=
    snapshotBytes_head s i (by decide)
  have hdepth : advertisedDepth (s.path i) ≤ 15 := by
    rw [advertisedDepth]
    cases (s.path i).selected with
    | none => exact le_rfl
    | some x => exact Nat.min_le_left _ _
  have hcount : failureCount s ≤ 15 := Nat.min_le_left _ _
  rw [hbyte, byteOf_toNat]
  omega

/-- The claims that a snapshot carries, in ascending slot order (R37). -/
def snapshotClaims (s : State) : List Claim :=
  ((indices 64).filter (fun k => (s.slot k).own != .none)).map (fun k =>
    { slot := k, phase := if (s.slot k).own = .held then .held else .intent, pinned := (s.slot k).ownPinned })

theorem claimBytes_read (s : State) : (claimBytes s).map readClaim = snapshotClaims s := by
  rw [claimBytes, snapshotClaims, List.map_map]
  refine List.map_congr_left fun k _ => ?_
  rw [Function.comp_apply, readClaim_claimByte]
  simp only [beq_iff_eq]

theorem readFrame_snapshot (hclaims : (claimBytes s).length ≤ 12) (i : PathIx) : readFrame (snapshotBytes s i) =
    { network := s.params.networkId, openFlag := s.params.openFlag, absent := advertisedAbsent (s.path i)
      station := s.params.stationId, programme := (s.carryOf i).programme, depth := advertisedDepth (s.path i)
      upstream := advertisedUpstream (s.path i), claims := snapshotClaims s } := by
  have hb {k : Nat} (h : k < 10) := snapshotBytes_head s i h
  obtain ⟨-, -, habsent, hopen⟩ := flags_snapshot hclaims i
  have hnetwork : byteAt (snapshotBytes s i) 1 = s.params.networkId := hb (by decide)
  have hstation : word16 (byteAt (snapshotBytes s i) 3) (byteAt (snapshotBytes s i) 4) = s.params.stationId :=
    word16_snapshot _ (hb (by decide)) (hb (by decide))
  have hprogramme : word16 (byteAt (snapshotBytes s i) 5) (byteAt (snapshotBytes s i) 6) = (s.carryOf i).programme :=
    word16_snapshot _ (hb (by decide)) (hb (by decide))
  have hupstream : word16 (byteAt (snapshotBytes s i) 8) (byteAt (snapshotBytes s i) 9) = advertisedUpstream (s.path i) :=
    word16_snapshot _ (hb (by decide)) (hb (by decide))
  rw [readFrame, habsent, hopen, (depthByte s i).1, claims_snapshot hclaims i, claimBytes_read, hnetwork, hstation,
    hprogramme, hupstream]

end Sys2Proof.Machine

namespace Sys2Proof

open Machine

/-- Settles O24: the snapshots are taken at once, and then each path hands the first bit of its frame. -/
theorem frameStartTakesSnapshots : Obligations.FrameStartTakesSnapshots := by
  refine ⟨fun s hdue hclaims => ?_, fun s hdue => ?_⟩
  · rw [answers_iff, effect]
    obtain ⟨hframe, htimer⟩ := bitsHanded_frameStart hdue
    refine ⟨htimer.trans (takeSnapshots_timer s), fun i => ?_, hframe.trans (takeSnapshots_frame s _ _)⟩
    obtain ⟨hbuilder, htx⟩ := frameStart_path hdue hclaims i
    refine ⟨fun hst hen => ?_, fun hidle => ?_⟩
    · have htakes : takesSnapshot s i = true := by
        rw [takesSnapshot, hen, Bool.and_true]
        rcases hst with h | h <;> rw [h] <;> rfl
      rw [hbuilder, htx, startFrame_takes htakes, takeTone_eq]
      exact ⟨rfl, rfl⟩
    · have htakes : takesSnapshot s i = false := by
        rw [takesSnapshot]
        rcases hidle with h | h | h
        · rw [h]; rfl
        · rw [h]; rfl
        · rw [h, Bool.and_false]
      rw [hbuilder, htx, startFrame_idle htakes, takeTone_eq]
      exact ⟨rfl, rfl⟩
  · rw [exec_eq, effect, frameStart_not_due hdue]

/-- Settles O23: each byte of the snapshot is read at its offset, and the claim bytes give back their slots in order. -/
theorem snapshotReadsBack : Obligations.SnapshotReadsBack := by
  intro s i acceptOpen hclaims hid hlast hprogramme
  obtain ⟨hclamped, hpinned, -, -⟩ := flags_snapshot hclaims i
  refine ⟨readable_snapshot hclaims i acceptOpen hid hlast hprogramme, ?_, hpinned, hclamped, (depthByte s i).2⟩
  have habsent : advertisedAbsent (s.path i) = decide ((s.path i).cond ≠ .full ∨ (s.path i).selected = none) := by
    rw [advertisedAbsent]
    cases (s.path i).cond <;> cases (s.path i).selected <;> rfl
  rw [readFrame_snapshot hclaims i, habsent, advertisedDepth, advertisedUpstream, snapshotClaims]
  cases (s.path i).selected <;> rfl

end Sys2Proof
end
section
/-! PROOFS. A framer outside bytes: what one sample first settles and then takes (O21). -/

namespace Sys2Proof.Machine

open Sys2Proof

variable {s : State} {ix : FramerIx} {f g h : Framer} {nf : NetFilter} {n : Nat}

/-! ### One framer of the state changed -/

theorem modFramer_congr {F G : Framer → Framer} (h : F (s.framer ix) = G (s.framer ix)) :
    s.modFramer ix F = s.modFramer ix G := by
  cases ix with
  | path i => simp only [State.framer, State.modFramer, upd] at h ⊢; rw [h]
  | survey => simp only [State.framer, State.modFramer] at h ⊢; rw [h]
  | monitor => simp only [State.framer, State.modFramer] at h ⊢; rw [h]

theorem modFramer_same {F : Framer → Framer} (h : F (s.framer ix) = s.framer ix) : s.modFramer ix F = s := by
  rw [modFramer_congr (G := id) h]
  cases ix with
  | path i => simp [State.modFramer, upd]
  | survey => rfl
  | monitor => rfl

theorem modFramer_modFramer (s : State) (ix : FramerIx) (F G : Framer → Framer) :
    (s.modFramer ix F).modFramer ix G = s.modFramer ix fun f => G (F f) := by
  cases ix with
  | path i => simp only [State.modFramer, upd_upd]
  | survey => rfl
  | monitor => rfl

theorem netFilter_modFramer (s : State) (ix : FramerIx) (F : Framer → Framer) : (s.modFramer ix F).netFilter = s.netFilter := by
  cases ix <;> rfl

theorem rxOf_modFramer (s : State) (ix : FramerIx) (F : Framer → Framer) : (s.modFramer ix F).rxOf ix = s.rxOf ix := by
  cases ix <;> rfl

theorem withPending_modFramer (s : State) (ix : FramerIx) (F : Framer → Framer) (q : List Instr) :
    (s.modFramer ix F).withPending q = (s.withPending q).modFramer ix F := by
  cases ix <;> rfl

theorem framer_withPending (s : State) (ix : FramerIx) (q : List Instr) : (s.withPending q).framer ix = s.framer ix := by
  cases ix <;> rfl

theorem rxOf_withPending (s : State) (ix : FramerIx) (q : List Instr) : (s.withPending q).rxOf ix = s.rxOf ix := by
  cases ix <;> rfl

/-! ### What the next sample finds decided (R24, R25, R28, R29) -/

/-- The framer after the break, the lead byte's limit or the gap's limit that its latest sample may have reached. -/
def Framer.settled (f : Framer) : Framer :=
  if f.breakDue then f.rest .brk else if f.leadDue || f.gapDue then f.rest .hunt else f

theorem breakRecognised_eq (s : State) (ix : FramerIx) :
    breakRecognised ix s = s.modFramer ix fun f => if f.breakDue then f.rest .brk else f := by
  rw [breakRecognised]
  split
  · next hdue => exact modFramer_congr (by rw [if_pos hdue])
  · next hdue => exact (modFramer_same (by rw [if_neg hdue])).symm

theorem leadTimeout_eq (s : State) (ix : FramerIx) :
    leadTimeout ix s = s.modFramer ix fun f => if f.leadDue then f.rest .hunt else f := by
  rw [leadTimeout]
  split
  · next hdue => exact modFramer_congr (by rw [if_pos hdue])
  · next hdue => exact (modFramer_same (by rw [if_neg hdue])).symm

theorem byteGapTimeout_eq (s : State) (ix : FramerIx) :
    byteGapTimeout ix s = s.modFramer ix fun f => if f.gapDue then f.rest .hunt else f := by
  rw [byteGapTimeout]
  split
  · next hdue => exact modFramer_congr (by rw [if_pos hdue])
  · next hdue => exact (modFramer_same (by rw [if_neg hdue])).symm

theorem Framer.leadDue_rest {st : FramerState} (hst : st ≠ .lead) (f : Framer) : (f.rest st).leadDue = false := by
  have h : ((f.rest st).state == .lead) = false := beq_eq_false_iff_ne.mpr hst
  rw [leadDue, h, Bool.false_and]

theorem Framer.gapDue_rest {st : FramerState} (hst : st ≠ .body) (f : Framer) : (f.rest st).gapDue = false := by
  have h : ((f.rest st).state == .body) = false := beq_eq_false_iff_ne.mpr hst
  rw [gapDue, h, Bool.false_and]

/-- The three steps one after the other are one: each leaves a state in which no later one is due. -/
theorem Framer.settled_eq (f : Framer) :
    (fun f : Framer => if f.gapDue then f.rest .hunt else f) ((fun f : Framer => if f.leadDue then f.rest .hunt else f)
      (if f.breakDue then f.rest .brk else f)) = f.settled := by
  rw [settled]
  by_cases hbreak : f.breakDue = true
  · simp only [hbreak, if_true, leadDue_rest (st := .brk) (by decide), gapDue_rest (st := .brk) (by decide),
      Bool.false_eq_true, if_false]
  · by_cases hlead : f.leadDue = true
    · simp only [hbreak, hlead, if_false, if_true, gapDue_rest (st := .hunt) (by decide), Bool.false_eq_true, Bool.true_or]
    · simp only [hbreak, hlead, if_false, Bool.false_eq_true, Bool.false_or]

theorem Framer.settled_outcome (h : f.outcome = none) : f.settled.outcome = none := by
  rw [settled]
  split
  · rfl
  · split
    · rfl
    · exact h

theorem settleFramer_eq (h : (s.framer ix).outcome = none) : settleFramer ix s = s.modFramer ix Framer.settled := by
  have hsettle : byteGapTimeout ix (leadTimeout ix (breakRecognised ix s)) = s.modFramer ix Framer.settled := by
    rw [breakRecognised_eq, leadTimeout_eq, byteGapTimeout_eq, modFramer_modFramer, modFramer_modFramer]
    exact modFramer_congr (Framer.settled_eq _)
  rw [settleFramer, hsettle]
  exact framerOutcome_none ((congrArg Framer.outcome (framer_modFramer_self s ix _)).trans (Framer.settled_outcome h))

/-- One sample as the framer takes it: it settles what was decided and then samples. -/
def Framer.take (nf : NetFilter) (space : Bool) (f : Framer) : Framer := f.settled.sample nf space

theorem tagLineSample_eq (h : (s.framer ix).outcome = none) (tone : Tone) : tagLineSample ix tone s =
    s.modFramer ix (Framer.take s.netFilter (presentedTone (s.rxOf ix).warmUp tone == .space)) := by
  rw [tagLineSample, settleFramer_eq h, feedFramer, netFilter_modFramer, rxOf_modFramer, modFramer_modFramer]
  rfl

/-! ### When nothing is decided -/

theorem Framer.breakDue_of_run (h : f.spaceRun < 192) : f.breakDue = false := by
  have hrun : decide (breakRun ≤ f.spaceRun) = false := decide_eq_false (Nat.not_le.mpr h)
  rw [breakDue, hrun, Bool.false_and, Bool.false_and]

theorem Framer.breakDue_reading (hst : f.state = .lead ∨ f.state = .body) (hstop : f.stopSpace = false) : f.breakDue = false := by
  have hstate : ((f.state == .hunt) || (f.state == .standby) || (f.inFrame && f.stopSpace)) = false := by
    rw [hstop, Bool.and_false]
    rcases hst with h | h <;> rw [h] <;> rfl
  rw [breakDue, hstate, Bool.and_false]

theorem Framer.breakDue_brk (h : f.state = .brk) : f.breakDue = false := by
  have hstate : ((f.state == .hunt) || (f.state == .standby) || (f.inFrame && f.stopSpace)) = false := by
    rw [inFrame, h]
    rfl
  rw [breakDue, hstate, Bool.and_false]

theorem Framer.leadDue_of_ne (h : f.state ≠ .lead) : f.leadDue = false := by
  rw [leadDue, beq_eq_false_iff_ne.mpr h, Bool.false_and]

theorem Framer.gapDue_of_ne (h : f.state ≠ .body) : f.gapDue = false := by
  rw [gapDue, beq_eq_false_iff_ne.mpr h, Bool.false_and]

theorem Framer.limitPassed_position (h : f.position ≠ none) (limit : Nat) : f.limitPassed limit = false := by
  rw [limitPassed]
  cases hp : f.position with
  | none => exact absurd hp h
  | some p => simp

theorem Framer.limitPassed_stopSpace (h : f.stopSpace = true) (limit : Nat) : f.limitPassed limit = false := by
  simp [limitPassed, h]

theorem Framer.limitPassed_iff (hlimit : f.limit = some n) (hposition : f.position = none) (hstop : f.stopSpace = false)
    (hout : f.outcome = none) (limit : Nat) : f.limitPassed limit = decide (limit < n) := by
  simp [limitPassed, hlimit, hposition, hstop, hout]

theorem Framer.settled_of (hbreak : f.breakDue = false) (hlead : f.leadDue = false) (hgap : f.gapDue = false) :
    f.settled = f := by
  rw [settled, hbreak, hlead, hgap]
  rfl

theorem Framer.settled_hunt (hst : f.state = .hunt) (hrun : f.spaceRun < 192) : f.settled = f :=
  settled_of (breakDue_of_run hrun) (leadDue_of_ne (by rw [hst]; decide)) (gapDue_of_ne (by rw [hst]; decide))

theorem Framer.settled_brk (hst : f.state = .brk) : f.settled = f :=
  settled_of (breakDue_brk hst) (leadDue_of_ne (by rw [hst]; decide)) (gapDue_of_ne (by rw [hst]; decide))

theorem Framer.settled_break (hdue : f.breakDue = true) : f.settled = f.rest .brk := if_pos hdue

/-- While a start edge is followed nothing is decided between two samples. -/
theorem Framer.settled_position (hst : f.state = .lead ∨ f.state = .body) (hstop : f.stopSpace = false)
    (hposition : f.position ≠ none) : f.settled = f :=
  settled_of (breakDue_reading hst hstop) (by rw [leadDue, limitPassed_position hposition, Bool.and_false])
    (by rw [gapDue, limitPassed_position hposition, Bool.and_false])

/-- While a start edge is looked for nothing is decided within the limit. -/
theorem Framer.settled_edge (hst : f.state = .lead ∨ f.state = .body) (hlimit : f.limit = some n)
    (hposition : f.position = none) (hstop : f.stopSpace = false) (hout : f.outcome = none) (hn : n ≤ f.edgeLimit) :
    f.settled = f := by
  refine settled_of (breakDue_reading hst hstop) ?_ ?_
  · rw [leadDue, limitPassed_iff hlimit hposition hstop hout]
    rcases hst with h | h
    · have hmost : f.edgeLimit = leadLimit := by rw [edgeLimit, h]; rfl
      rw [decide_eq_false (by omega), Bool.and_false]
    · rw [h]; rfl
  · rw [gapDue, limitPassed_iff hlimit hposition hstop hout]
    rcases hst with h | h
    · rw [h]; rfl
    · have hmost : f.edgeLimit = gapLimit := by rw [edgeLimit, h]; rfl
      rw [decide_eq_false (by omega), Bool.and_false]

/-- After a stop bit of space only the break can be decided. -/
theorem Framer.settled_stopSpace (hstop : f.stopSpace = true)
    (hrun : f.spaceRun < 192) : f.settled = f :=
  settled_of (breakDue_of_run hrun) (by rw [leadDue, limitPassed_stopSpace hstop, Bool.and_false])
    (by rw [gapDue, limitPassed_stopSpace hstop, Bool.and_false])

/-! ### One sample -/

theorem nextRun_of_lt {run : Nat} (h : run < 192) (space : Bool) : nextRun space run = if space then run + 1 else 0 := by
  rw [nextRun, Nat.min_eq_right (show run + 1 ≤ breakRun from h)]

theorem Framer.take_hunt (hst : f.state = .hunt) (hrun : f.spaceRun < 192) (space : Bool) :
    f.take nf space = { f with spaceRun := nextRun space f.spaceRun } := by
  rw [take, settled_hunt hst hrun, sample]
  simp only [hst]

theorem Framer.take_brk (hst : f.state = .brk) (space : Bool) : f.take nf space =
    if space then { f with spaceRun := nextRun true f.spaceRun }
    else { f with spaceRun := 0, state := .lead, limit := some 1 } := by
  rw [take, settled_brk hst, sample]
  simp only [hst]
  cases space <;> rfl

theorem Framer.sample_reading (hst : f.state = .lead ∨ f.state = .body) (space : Bool) : f.sample nf space =
    ({ f with spaceRun := nextRun space f.spaceRun } : Framer).frameSample nf space (f.spaceRun == 0) := by
  rcases hst with h | h <;> simp only [sample, h]

theorem Framer.take_edge (hst : f.state = .lead ∨ f.state = .body) (hlimit : f.limit = some n) (hposition : f.position = none)
    (hstop : f.stopSpace = false) (hout : f.outcome = none) (hn : n ≤ f.edgeLimit) (space : Bool) : f.take nf space =
      if space = true ∧ f.spaceRun = 0 ∧ n + 1 ≤ f.edgeLimit then
        { f with spaceRun := 1, limit := some (n + 1), position := some 1, votes := 0, shift := 0 }
      else { f with spaceRun := nextRun space f.spaceRun, limit := some (n + 1) } := by
  rw [take, settled_edge hst hlimit hposition hstop hout hn, sample_reading hst]
  simp only [frameSample, hout, hstop, hposition, edgeSample, hlimit, Option.isSome_none, Bool.false_eq_true, if_false,
    Option.getD_some]
  have hiff : (space && f.spaceRun == 0 && decide (n + 1 ≤ f.edgeLimit)) = true ↔
      space = true ∧ f.spaceRun = 0 ∧ n + 1 ≤ f.edgeLimit := by simp [and_assoc]
  refine ite_congr (propext hiff) (fun h => ?_) (fun _ => rfl)
  obtain ⟨hspace, hrun, -⟩ := h
  rw [hspace, hrun]
  rfl

theorem Framer.take_stopSpace (hst : f.state = .lead ∨ f.state = .body) (hstop : f.stopSpace = true) (hrun : f.spaceRun < 192)
    (hout : f.outcome = none) (space : Bool) : f.take nf space =
      if space then { f with spaceRun := f.spaceRun + 1 }
      else { f with spaceRun := 0, stopSpace := false, outcome := some .framing } := by
  rw [take, settled_stopSpace hstop hrun, sample_reading hst, nextRun_of_lt hrun]
  simp only [frameSample, hout, hstop, Option.isSome_none, Bool.false_eq_true, if_false, if_true]
  cases space <;> rfl

theorem presentedTone_space (warm : Bool) (tone : Tone) :
    ((presentedTone warm tone == .space) = true) ↔ (warm = false ∧ tone = .space) := by
  cases warm <;> cases tone <;> decide

theorem presentedTone_listening (tone : Tone) : presentedTone false tone = tone := rfl

theorem presentedTone_mark (warm : Bool) : presentedTone warm .mark = .mark := by cases warm <;> rfl

end Sys2Proof.Machine

namespace Sys2Proof

open Machine

/-- Settles O21: each step by what the next sample settles and then takes. -/
theorem framerStepsOutsideBytes : Obligations.FramerStepsOutsideBytes := by
  refine ⟨fun ix s hrun hout hst => ?_, fun ix s hrun => ?_, fun ix n s hst hlimit hposition hstop hout => ?_,
    fun ix n s hst hlimit hposition hstop hout => ?_, fun ix tone s hst hrun hout => ?_, fun ix s hst hout => ?_,
    fun ix tone n s => ?_, fun ix tone s hst hstop hrun hout hwarm => ?_⟩
  · have hdue : (s.framer ix).breakDue = true := by
      rw [Framer.breakDue, hrun, hout]
      rcases hst with h | h | ⟨h | h, hstop⟩ <;> simp [Framer.inFrame, *] <;> decide
    rw [exec_eq, effect, breakRecognised_eq]
    refine congrArg _ (modFramer_congr ?_)
    rw [if_pos hdue, Framer.rest, hrun]
  · rw [exec_eq, effect, breakRecognised, if_neg (by rw [Framer.breakDue_of_run hrun]; decide)]
  · have hdue : (s.framer ix).leadDue = decide (40 < n) := by
      rw [Framer.leadDue, hst, Framer.limitPassed_iff hlimit hposition hstop hout]
      rfl
    rw [exec_eq, effect, leadTimeout, hdue]
    by_cases h : 40 < n
    · rw [if_pos h, if_pos (decide_eq_true h)]
      rfl
    · rw [if_neg h, if_neg (by rw [decide_eq_false h]; decide)]
  · have hdue : (s.framer ix).gapDue = decide (24 < n) := by
      rw [Framer.gapDue, hst, Framer.limitPassed_iff hlimit hposition hstop hout]
      rfl
    rw [exec_eq, effect, byteGapTimeout, hdue]
    by_cases h : 24 < n
    · rw [if_pos h, if_pos (decide_eq_true h)]
      rfl
    · rw [if_neg h, if_neg (by rw [decide_eq_false h]; decide)]
  · rw [exec_eq, effect, tagLineSample_eq hout]
    refine congrArg _ (modFramer_congr ?_)
    rw [Framer.take_hunt hst hrun, nextRun_of_lt hrun]
    simp only [presentedTone_space]
  · rw [exec_eq, effect, tagLineSample_eq hout, presentedTone_mark]
    exact congrArg _ (modFramer_congr (Framer.take_brk hst false))
  · intro most hst hlimit hn hposition hstop hout hwarm
    have hmost : (s.framer ix).edgeLimit = most := by
      rcases hst with h | h <;> simp only [Framer.edgeLimit, most, h] <;> rfl
    rw [exec_eq, effect, tagLineSample_eq hout, hwarm, presentedTone_listening]
    refine congrArg _ (modFramer_congr ?_)
    rw [Framer.take_edge hst hlimit hposition hstop hout (hn.trans_eq hmost.symm), hmost]
    simp only [beq_iff_eq, nextRun, breakRun]
  · rw [exec_eq, effect, tagLineSample_eq hout, hwarm, presentedTone_listening]
    refine congrArg _ (modFramer_congr ?_)
    rw [Framer.take_stopSpace hst hstop hrun hout]
    simp only [beq_iff_eq]

end Sys2Proof
end
section
/-! PROOFS. The samples of one byte read (O22). -/

namespace Sys2Proof.Machine

open Sys2Proof

variable {s : State} {ix : FramerIx} {f g : Framer} {nf : NetFilter} {xs ys : List Tone}

/-! ### A run of samples -/

/-- A framer takes a run of samples one after another, and none but the last gives it an outcome. -/
inductive Reads (nf : NetFilter) : List Tone → Framer → Framer → Prop
  | done (f : Framer) : Reads nf [] f f
  | sample {x : Tone} {xs : List Tone} {f g : Framer} (hout : f.outcome = none)
      (hrest : Reads nf xs (f.take nf (x == .space)) g) : Reads nf (x :: xs) f g

theorem Reads.trans {h : Framer} (hf : Reads nf xs f g) (hg : Reads nf ys g h) : Reads nf (xs ++ ys) f h := by
  induction hf with
  | done _ => exact hg
  | sample hout _ ih => exact .sample hout (ih hg)

theorem Reads.one {x : Tone} (hout : f.outcome = none) (htake : f.take nf (x == .space) = g) : Reads nf [x] f g :=
  .sample hout (htake ▸ .done _)

theorem run_succ {t : State} (h : step s = .next t) (n : Nat) :
    Host.Core.run Sys2Proof.core (n + 1) s = Host.Core.run Sys2Proof.core n t := by
  have hcore : Sys2Proof.core.step s = .next t := h
  simp only [Host.Core.run, hcore]

/-- Samples queued for one framer, taken one after another, change that framer alone. -/
theorem run_reads (hreads : Reads s.netFilter xs (s.framer ix) g) (hwarm : (s.rxOf ix).warmUp = false)
    (hpending : s.pending = xs.map (Instr.tagLineSample ix)) :
    Host.Core.run Sys2Proof.core xs.length s = .next ((s.modFramer ix fun _ => g).withPending []) := by
  induction xs generalizing s with
  | nil =>
    cases hreads
    have hq : s.pending = [] := hpending
    rw [modFramer_same rfl]
    have hs : s.withPending [] = s := by rw [← hq]; rfl
    rw [hs]
    rfl
  | cons x xs ih =>
    obtain - | ⟨hout, hrest⟩ := hreads
    have hstep : step s = .next ((s.modFramer ix (Framer.take s.netFilter (x == .space))).withPending
        (xs.map (Instr.tagLineSample ix))) := by
      rw [step, hpending, List.map_cons]
      dsimp only
      rw [exec_eq, effect, tagLineSample_eq ((congrArg _ (framer_withPending s ix _)).trans hout), rxOf_withPending, hwarm,
        presentedTone_listening, withPending_modFramer]
      rfl
    have hnext : (s.modFramer ix (Framer.take s.netFilter (x == .space))).framer ix = (s.framer ix).take s.netFilter (x == .space) :=
      framer_modFramer_self s ix _
    have hfilter : ((s.modFramer ix (Framer.take s.netFilter (x == .space))).withPending
        (xs.map (Instr.tagLineSample ix))).netFilter = s.netFilter := netFilter_modFramer s ix _
    have hrun := ih (s := (s.modFramer ix (Framer.take s.netFilter (x == .space))).withPending
        (xs.map (Instr.tagLineSample ix))) (by rw [hfilter, framer_withPending, hnext]; exact hrest)
      (by rw [rxOf_withPending, rxOf_modFramer]; exact hwarm) rfl
    refine (run_succ hstep xs.length).trans (hrun.trans (congrArg _ ?_))
    simp only [withPending_modFramer, modFramer_modFramer]
    rfl

/-! ### The space-run count (R24) -/

/-! ### Samples of a followed edge (R26, R27) -/

/-- A framer that follows a start edge, at its sample p. -/
structure Following (p : Nat) (f : Framer) : Prop where
  state : f.state = .lead ∨ f.state = .body
  position : f.position = some p
  stopSpace : f.stopSpace = false
  outcome : f.outcome = none

theorem Following.take {p : Nat} (hf : Following p f) (space : Bool) : f.take nf space =
    ({ f with spaceRun := nextRun space f.spaceRun } : Framer).byteSample nf space (p + 1) := by
  have hposition : f.position ≠ none := by rw [hf.position]; exact Option.some_ne_none p
  rw [Framer.take, Framer.settled_position hf.state hf.stopSpace hposition, Framer.sample_reading hf.state]
  simp only [Framer.frameSample, hf.outcome, hf.stopSpace, hf.position, Option.isSome_none, Bool.false_eq_true, if_false]

/-! ### The space-run count goes its own way (R24) -/

theorem completeByte_spaceRun (f : Framer) (r : Nat) :
    ({ f with spaceRun := r } : Framer).completeByte nf = { f.completeByte nf with spaceRun := r } := by
  unfold Framer.completeByte
  dsimp only
  split
  · split <;> rfl
  · split <;> rfl

theorem startSample_spaceRun (f : Framer) (r : Nat) (space : Bool) (p j : Nat) :
    ({ f with spaceRun := r } : Framer).startSample space p j = { f.startSample space p j with spaceRun := r } := by
  unfold Framer.startSample
  dsimp only
  split_ifs <;> rfl

theorem bitSample_spaceRun (f : Framer) (r : Nat) (space : Bool) (p b j : Nat) :
    ({ f with spaceRun := r } : Framer).bitSample nf space p b j = { f.bitSample nf space p b j with spaceRun := r } := by
  unfold Framer.bitSample
  dsimp only
  generalize (if (j == 9 || j == 10 || j == 11) = true then addVote space f.votes else f.votes) = v
  by_cases h : (j == 11) = true
  · by_cases hb : b < 9
    · simp only [h, hb, if_true]
    · by_cases hv : 2 ≤ v
      · simp only [h, hb, hv, if_true, if_false]
      · simp only [h, hb, hv, if_true, if_false]
        exact completeByte_spaceRun
          { f with position := some p, votes := 0, noise := if noisyBit v then f.noise + 1 else f.noise } r
  · simp only [h, if_false, Bool.false_eq_true]

theorem byteSample_spaceRun (f : Framer) (r : Nat) (space : Bool) (p : Nat) :
    ({ f with spaceRun := r } : Framer).byteSample nf space p = { f.byteSample nf space p with spaceRun := r } := by
  unfold Framer.byteSample
  split
  · exact startSample_spaceRun f r space p p
  · exact bitSample_spaceRun f r space p _ _

/-! ### The samples of a byte, counted from its start edge -/

/-- Sample p from the start edge is space; xs are the samples after the edge. -/
def spaceAt (xs : List Tone) (p : Nat) : Bool := xs[p - 2]? == some .space

/-- The space samples so far, up to sample m, among those numbered ps. -/
def votesUpTo (xs : List Tone) (ps : List Nat) (m : Nat) : Nat := ps.countP fun p => decide (p ≤ m) && spaceAt xs p

theorem votesUpTo_all {ps : List Nat} {m : Nat} (h : ∀ p ∈ ps, p ≤ m) : votesUpTo xs ps m = spacesAt xs ps := by
  rw [votesUpTo, spacesAt, List.countP_eq_length_filter]
  refine congrArg List.length (List.filter_congr fun p hp => ?_)
  rw [decide_eq_true (h p hp), Bool.true_and, spaceAt]

theorem votesUpTo_none {ps : List Nat} {m : Nat} (h : ∀ p ∈ ps, m < p) : votesUpTo xs ps m = 0 := by
  rw [votesUpTo, List.countP_eq_zero]
  intro p hp
  rw [decide_eq_false (Nat.not_le.mpr (h p hp)), Bool.false_and]
  exact Bool.false_ne_true

theorem votesUpTo_skip {ps : List Nat} {m : Nat} (h : m + 1 ∉ ps) : votesUpTo xs ps (m + 1) = votesUpTo xs ps m := by
  refine List.countP_congr fun p hp => ?_
  have hne : p ≠ m + 1 := fun he => h (he ▸ hp)
  rw [decide_eq_decide.mpr (by omega : p ≤ m + 1 ↔ p ≤ m)]

theorem votesUpTo_count {ps : List Nat} {m : Nat} (hnd : ps.Nodup) (h : m + 1 ∈ ps) :
    votesUpTo xs ps (m + 1) = addVote (spaceAt xs (m + 1)) (votesUpTo xs ps m) := by
  induction ps with
  | nil => cases h
  | cons p ps ih =>
    obtain ⟨hp, hnd⟩ := List.nodup_cons.mp hnd
    have hcons (k : Nat) : votesUpTo xs (p :: ps) k = votesUpTo xs ps k + if (decide (p ≤ k) && spaceAt xs p) = true then 1 else 0 :=
      List.countP_cons
    rw [hcons, hcons]
    rcases List.mem_cons.mp h with he | hmem
    · rw [votesUpTo_skip (he ▸ hp), ← he, addVote, decide_eq_true le_rfl, decide_eq_false (by omega : ¬m + 1 ≤ m),
        Bool.true_and, Bool.false_and]
      split <;> rfl
    · have hne : p ≠ m + 1 := fun he => hp (he ▸ hmem)
      rw [ih hnd hmem, decide_eq_decide.mpr (by omega : p ≤ m + 1 ↔ p ≤ m), addVote, addVote]
      split <;> omega

/-- The samples up to number p are read, and leave g but for the space-run count. -/
def ReadsTo (nf : NetFilter) (xs : List Tone) (f : Framer) (p : Nat) (g : Framer) : Prop :=
  ∃ r, Reads nf (xs.take (p - 1)) f { g with spaceRun := r }

theorem ReadsTo.start (f : Framer) : ReadsTo nf xs f 1 f := ⟨f.spaceRun, .done f⟩

theorem ReadsTo.step {p : Nat} (h : ReadsTo nf xs f p g) (hg : Following p g) (hp : 1 ≤ p) (hlen : p ≤ xs.length) :
    ReadsTo nf xs f (p + 1) (g.byteSample nf (spaceAt xs (p + 1)) (p + 1)) := by
  obtain ⟨r, hreads⟩ := h
  obtain ⟨q, rfl⟩ : ∃ q, p = q + 1 := ⟨p - 1, by omega⟩
  have hx : xs[q]? = some xs[q] := List.getElem?_eq_getElem hlen
  have hspace : spaceAt xs (q + 1 + 1) = (xs[q] == .space) := by
    have h : q + 1 + 1 - 2 = q := by omega
    rw [spaceAt, h, hx]
    rfl
  have hfollow : Following (q + 1) ({ g with spaceRun := r } : Framer) := ⟨hg.state, hg.position, hg.stopSpace, hg.outcome⟩
  refine ⟨nextRun (xs[q] == .space) r, ?_⟩
  rw [← byteSample_spaceRun, hspace, Nat.add_sub_cancel, List.take_succ_eq_append_getElem hlen]
  exact hreads.trans (.one hg.outcome (hfollow.take _))

/-! ### One sample of a start bit and of a later bit -/

theorem byteSample_start (f : Framer) (space : Bool) {p : Nat} (hp : p ≤ 16) :
    f.byteSample nf space p = f.startSample space p p := if_pos hp

theorem byteSample_bit (f : Framer) (space : Bool) {b j : Nat} (hb : 1 ≤ b) (hj : 1 ≤ j) (hj' : j ≤ 16) :
    f.byteSample nf space (16 * b + j) = f.bitSample nf space (16 * b + j) b j := by
  have hdiv : (16 * b + j - 1) / 16 = b := by omega
  have hmod : (16 * b + j - 1) % 16 + 1 = j := by omega
  rw [Framer.byteSample, if_neg (by omega), hdiv, hmod]

/-- Before the eighth sample of a start bit samples are counted, and samples 4 and 6 vote. -/
theorem startSample_before (f : Framer) (space : Bool) {p : Nat} (hp : p < 8) : f.startSample space p p =
    { f with
      position := some p, votes := if p = 4 ∨ p = 6 then addVote space f.votes else f.votes
      limit := f.limit.map (· + 1) } := by
  have hne : (p == 8) = false := beq_eq_false_iff_ne.mpr (by omega)
  simp only [Framer.startSample, hne, hp, if_true, Bool.or_false, Bool.or_eq_true, beq_iff_eq]

theorem startSample_eighth (f : Framer) (space : Bool) : f.startSample space 8 8 =
    if 2 ≤ addVote space f.votes then
      { f with
        position := some 8, votes := 0, limit := none
        noise := if addVote space f.votes = 2 then f.noise + 1 else f.noise }
    else { f with position := none, votes := 0, limit := f.limit.map (· + 1) } := by
  simp [Framer.startSample]

theorem startSample_after (f : Framer) (space : Bool) {p : Nat} (hp : 8 < p) :
    f.startSample space p p = { f with position := some p } := by
  have hne : (p == 8) = false := beq_eq_false_iff_ne.mpr (by omega)
  simp only [Framer.startSample, hne, if_neg (by omega : ¬p < 8), Bool.false_eq_true, if_false]

theorem bitSample_of_ne (f : Framer) (space : Bool) (p b : Nat) {j : Nat} (hj : j ≠ 11) : f.bitSample nf space p b j =
    { f with position := some p, votes := if j = 9 ∨ j = 10 then addVote space f.votes else f.votes } := by
  have hne : (j == 11) = false := beq_eq_false_iff_ne.mpr hj
  simp only [Framer.bitSample, hne, Bool.false_eq_true, if_false, Bool.or_false, Bool.or_eq_true, beq_iff_eq]

theorem bitSample_data (f : Framer) (space : Bool) (p : Nat) {b : Nat} (hb : b < 9) : f.bitSample nf space p b 11 =
    { f with
      position := some p, votes := 0, shift := fillBit b (addVote space f.votes) f.shift
      noise := if noisyBit (addVote space f.votes) then f.noise + 1 else f.noise } := by
  simp [Framer.bitSample, hb]

theorem bitSample_stop (f : Framer) (space : Bool) (p : Nat) : f.bitSample nf space p 9 11 =
    if 2 ≤ addVote space f.votes then
      { f with
        position := none, votes := 0, stopSpace := true
        noise := if noisyBit (addVote space f.votes) then f.noise + 1 else f.noise }
    else
      ({ f with
        position := some p, votes := 0
        noise := if noisyBit (addVote space f.votes) then f.noise + 1 else f.noise } : Framer).completeByte nf := by
  simp [Framer.bitSample]

/-! ### A start bit (R26) -/

section start
variable (hf : Following 1 f) (hvotes : f.votes = 0) (hlen : 7 ≤ xs.length)
include hf hvotes hlen

theorem reads_startBit {m : Nat} (hm : m < 7) : ReadsTo nf xs f (1 + m)
    { f with position := some (1 + m), votes := votesUpTo xs [4, 6, 8] (1 + m), limit := f.limit.map (· + m) } := by
  induction m with
  | zero =>
    have hnone : votesUpTo xs [4, 6, 8] 1 = 0 := votesUpTo_none (by decide)
    have hlimit : f.limit.map (· + 0) = f.limit := by simp
    rw [Nat.add_zero, hnone, hlimit, ← hf.position, ← hvotes]
    exact .start f
  | succ m ih =>
    have hstep := (ih (by omega)).step ⟨hf.state, rfl, hf.stopSpace, hf.outcome⟩ (by omega) (by omega)
    rw [byteSample_start _ _ (by omega), startSample_before _ _ (by omega)] at hstep
    have hvote : (if 1 + m + 1 = 4 ∨ 1 + m + 1 = 6 then addVote (spaceAt xs (1 + m + 1)) (votesUpTo xs [4, 6, 8] (1 + m))
        else votesUpTo xs [4, 6, 8] (1 + m)) = votesUpTo xs [4, 6, 8] (1 + m + 1) := by
      split
      · next h => exact (votesUpTo_count (by decide) (by simp; omega)).symm
      · next h => exact (votesUpTo_skip (by simp; omega)).symm
    have hlimit : (f.limit.map (· + m)).map (· + 1) = f.limit.map (· + (m + 1)) := by
      rw [Option.map_map]
      rfl
    dsimp only at hstep
    rw [hvote, hlimit] at hstep
    exact hstep

omit hf hvotes hlen in
theorem votes_startBit : addVote (spaceAt xs 8) (votesUpTo xs [4, 6, 8] 7) = spacesAt xs [4, 6, 8] := by
  rw [← votesUpTo_count (by decide) (by decide), votesUpTo_all (by decide)]

/-- A start edge with at least two of its three samples space is a start bit, noisy when the third is mark. -/
theorem reads_trueStart (hvote : 2 ≤ spacesAt xs [4, 6, 8]) : ReadsTo nf xs f 8
    { f with
      position := some 8, votes := 0, limit := none
      noise := f.noise + if spacesAt xs [4, 6, 8] = 2 then 1 else 0 } := by
  have hstep := (reads_startBit (nf := nf) hf hvotes hlen (m := 6) (by decide)).step ⟨hf.state, rfl, hf.stopSpace, hf.outcome⟩
    (by decide) hlen
  rw [byteSample_start _ _ (by decide), startSample_eighth] at hstep
  simp only [Nat.reduceAdd, votes_startBit, if_pos hvote] at hstep
  have hnoise : (if spacesAt xs [4, 6, 8] = 2 then f.noise + 1 else f.noise) =
      f.noise + if spacesAt xs [4, 6, 8] = 2 then 1 else 0 := by split <;> rfl
  rw [hnoise] at hstep
  exact hstep

/-- A start edge with fewer is false: the framer looks for the next one. -/
theorem reads_falseStart (hvote : spacesAt xs [4, 6, 8] ≤ 1) : ReadsTo nf xs f 8
    { f with position := none, limit := f.limit.map (· + 7) } := by
  have hstep := (reads_startBit (nf := nf) hf hvotes hlen (m := 6) (by decide)).step ⟨hf.state, rfl, hf.stopSpace, hf.outcome⟩
    (by decide) hlen
  rw [byteSample_start _ _ (by decide), startSample_eighth] at hstep
  simp only [Nat.reduceAdd, votes_startBit, if_neg (by omega : ¬2 ≤ spacesAt xs [4, 6, 8])] at hstep
  have hlimit : (f.limit.map (· + 6)).map (· + 1) = f.limit.map (· + 7) := by rw [Option.map_map]; rfl
  rw [hlimit, ← hvotes] at hstep
  exact hstep

end start

/-! ### Samples that decide nothing, and the samples of one bit (R27) -/

/-- Samples between two bits' deciding samples change only the position. -/
theorem ReadsTo.idle {p : Nat} (h : ReadsTo nf xs f p g) (hg : Following p g) (hp : 1 ≤ p) {m : Nat} (hlen : p + m ≤ xs.length + 1)
    (hidle : ∀ q, p < q → q ≤ p + m → ∀ (g : Framer) (space : Bool), g.byteSample nf space q = { g with position := some q }) :
    ReadsTo nf xs f (p + m) { g with position := some (p + m) } := by
  induction m with
  | zero =>
    rw [Nat.add_zero, ← hg.position]
    exact h
  | succ m ih =>
    have hstep := (ih (by omega) fun q hq hq' => hidle q hq (by omega)).step ⟨hg.state, rfl, hg.stopSpace, hg.outcome⟩
      (by omega) (by omega)
    rw [hidle _ (by omega) (by omega)] at hstep
    exact hstep

section bit
variable {b : Nat} (hb : 1 ≤ b) (h : ReadsTo nf xs f (16 * b) g) (hg : Following (16 * b) g) (hvotes : g.votes = 0)
  (hlen : 16 * b + 10 ≤ xs.length)
include hb h hg hvotes hlen

theorem reads_bitVotes {m : Nat} (hm : m ≤ 10) : ReadsTo nf xs f (16 * b + m)
    { g with
      position := some (16 * b + m)
      votes := votesUpTo xs [16 * b + 9, 16 * b + 10, 16 * b + 11] (16 * b + m) } := by
  induction m with
  | zero =>
    have hnone : votesUpTo xs [16 * b + 9, 16 * b + 10, 16 * b + 11] (16 * b) = 0 := votesUpTo_none (by simp)
    rw [Nat.add_zero, hnone, ← hg.position, ← hvotes]
    exact h
  | succ m ih =>
    have hstep := (ih (by omega)).step ⟨hg.state, rfl, hg.stopSpace, hg.outcome⟩ (by omega) (by omega)
    rw [Nat.add_assoc, byteSample_bit _ _ hb (by omega) (by omega), bitSample_of_ne _ _ _ _ (by omega)] at hstep
    have hvote : (if m + 1 = 9 ∨ m + 1 = 10 then addVote (spaceAt xs (16 * b + (m + 1)))
          (votesUpTo xs [16 * b + 9, 16 * b + 10, 16 * b + 11] (16 * b + m))
        else votesUpTo xs [16 * b + 9, 16 * b + 10, 16 * b + 11] (16 * b + m)) =
        votesUpTo xs [16 * b + 9, 16 * b + 10, 16 * b + 11] (16 * b + (m + 1)) := by
      rw [← Nat.add_assoc]
      split
      · next h => exact (votesUpTo_count (by simp) (by simp; omega)).symm
      · next h => exact (votesUpTo_skip (by simp; omega)).symm
    dsimp only at hstep
    rw [hvote] at hstep
    exact hstep

omit hb h hg hvotes hlen in
theorem votes_bit : addVote (spaceAt xs (16 * b + 11)) (votesUpTo xs [16 * b + 9, 16 * b + 10, 16 * b + 11] (16 * b + 10)) =
    bitSpaces xs b := by
  have hcount := votesUpTo_count (xs := xs) (ps := [16 * b + 9, 16 * b + 10, 16 * b + 11]) (m := 16 * b + 10) (by simp)
    (by simp)
  rw [← hcount, votesUpTo_all (by simp), bitSpaces]

theorem reads_decide : ReadsTo nf xs f (16 * b + 11)
    (({ g with
        position := some (16 * b + 10)
        votes := votesUpTo xs [16 * b + 9, 16 * b + 10, 16 * b + 11] (16 * b + 10) } : Framer).bitSample nf
      (spaceAt xs (16 * b + 11)) (16 * b + 11) b 11) := by
  have hstep := (reads_bitVotes hb h hg hvotes hlen le_rfl).step ⟨hg.state, rfl, hg.stopSpace, hg.outcome⟩ (by omega) hlen
  rw [Nat.add_assoc, byteSample_bit _ _ hb (by decide) (by decide)] at hstep
  exact hstep

/-- A data bit: what its three samples decide fills the byte, and a bit whose samples differ is noisy. -/
theorem reads_dataBit (hb' : b < 9) (hlen' : 16 * b + 15 ≤ xs.length) : ReadsTo nf xs f (16 * (b + 1))
    { g with
      position := some (16 * (b + 1)), votes := 0, shift := fillBit b (bitSpaces xs b) g.shift
      noise := if noisyBit (bitSpaces xs b) then g.noise + 1 else g.noise } := by
  have hdecided := reads_decide hb h hg hvotes hlen
  rw [bitSample_data _ _ _ hb'] at hdecided
  dsimp only at hdecided
  rw [votes_bit] at hdecided
  have hidle := hdecided.idle ⟨hg.state, rfl, hg.stopSpace, hg.outcome⟩ (by omega) (m := 5) (by omega)
    fun q hq hq' g space => by
      obtain ⟨j, rfl⟩ : ∃ j, q = 16 * b + j := ⟨q - 16 * b, by omega⟩
      rw [byteSample_bit _ _ hb (by omega) (by omega), bitSample_of_ne _ _ _ _ (by omega), if_neg (by omega)]
  exact hidle

end bit

/-- The stop bit: a majority of space ends no byte, and any other completes it. -/
theorem reads_stopBit (h : ReadsTo nf xs f 144 g) (hg : Following 144 g) (hvotes : g.votes = 0) (hlen : 154 ≤ xs.length) :
    ReadsTo nf xs f 155
      (if 2 ≤ bitSpaces xs 9 then
        { g with
          position := none, votes := 0, stopSpace := true
          noise := if noisyBit (bitSpaces xs 9) then g.noise + 1 else g.noise }
      else
        ({ g with
          position := some 155, votes := 0
          noise := if noisyBit (bitSpaces xs 9) then g.noise + 1 else g.noise } : Framer).completeByte nf) := by
  have hdecided := reads_decide (b := 9) (by decide) h hg hvotes hlen
  rw [bitSample_stop] at hdecided
  dsimp only at hdecided
  rw [votes_bit] at hdecided
  exact hdecided

end Sys2Proof.Machine
end
section
/-! PROOFS. A byte completed, and the frame that its samples carry (O22). -/

namespace Sys2Proof.Machine

open Sys2Proof

variable {s : State} {ix : FramerIx} {f g : Framer} {nf : NetFilter} {xs ys : List Tone} {bs : List Byte} {noise j : Nat}
  {o : FrameOutcome}

/-! ### The byte that ends a frame (R30 to R33) -/

theorem passes_iff (nf : NetFilter) (bs : List Byte) : nf.passes bs = false ↔
    byteAt bs 1 ≠ nf.network ∧ ((byteAt bs 2).getLsbD 7 = false ∨ nf.acceptOpen = false) := by
  rw [NetFilter.passes, Bool.or_eq_false_iff, beq_eq_false_iff_ne, Bool.and_eq_false_iff]

/-- Which bytes of a frame can end it. -/
theorem frameEnds_iff (hj : 1 ≤ j) (hwhole : bs.take (j + 1) = bs) : FrameEnds nf bs noise j o ↔
    (j = 2 ∧ 12 < claimCount bs ∧ o = .malformed) ∨
    (j = 2 ∧ claimCount bs ≤ 12 ∧ nf.passes bs = false ∧ o = .foreign) ∨
    (j = 4 ∧ (field16 bs 3 = 0 ∨ field16 bs 3 = 65535) ∧ o = .malformed) ∨
    (j = 6 ∧ field16 bs 5 = 0 ∧ o = .malformed) ∨
    (11 ≤ j ∧ j < 10 + claimCount bs ∧ (claimSlot (byteAt bs j)).val ≤ (claimSlot (byteAt bs (j - 1))).val ∧ o = .malformed) ∨
    (j = 10 + claimCount bs ∧ byteAt bs j ≠ crc8 (bs.take j) ∧ o = .crcFail) ∨
    (j = 10 + claimCount bs ∧ byteAt bs j = crc8 (bs.take j) ∧ o = .good bs noise) := by
  have hne : j ≠ 0 := by omega
  have hlate : j = 10 + claimCount bs → 10 ≤ j := fun h => by omega
  simp only [FrameEnds, hwhole, hne, false_and, false_or, passes_iff, field16_eq bs 3, field16_eq bs 5, Nat.reduceAdd, and_assoc]
  have hlast (c : Prop) : (j = 10 + claimCount bs ∧ 10 ≤ j ∧ c) ↔ (j = 10 + claimCount bs ∧ c) :=
    ⟨fun ⟨h, _, hc⟩ => ⟨h, hc⟩, fun ⟨h, hc⟩ => ⟨h, hlate h, hc⟩⟩
  exact or_congr Iff.rfl (or_congr Iff.rfl (or_congr Iff.rfl (or_congr Iff.rfl (or_congr Iff.rfl
    (or_congr (hlast _) (hlast _))))))

theorem byteOutcome_eq_some_iff (hlen : bs.length = j + 1) (hj : 1 ≤ j) :
    byteOutcome nf bs j (crc8 (bs.take j)) noise = some o ↔ FrameEnds nf bs noise j o := by
  rw [frameEnds_iff hj (List.take_of_length_le hlen.le), byteOutcome]
  simp only [Bool.and_eq_true, beq_iff_eq, decide_eq_true_eq, Bool.or_eq_true, Bool.not_eq_true']
  have hnot {k : Nat} {c : Prop} (h : j ≠ k) : ¬(j = k ∧ c) := fun hc => h hc.1
  constructor
  · intro h
    split_ifs at h with h₁ h₂ h₃ h₄ h₅ h₆ h₇ <;> obtain rfl := Option.some.inj h
    · exact .inl ⟨h₁.1, h₁.2, rfl⟩
    · exact .inr (.inl ⟨h₂.1, by omega, h₂.2, rfl⟩)
    · exact .inr (.inr (.inl ⟨h₃.1, h₃.2, rfl⟩))
    · exact .inr (.inr (.inr (.inl ⟨h₄.1, h₄.2, rfl⟩)))
    · exact .inr (.inr (.inr (.inr (.inl ⟨h₅.1.1, h₅.1.2, h₅.2, rfl⟩))))
    · exact .inr (.inr (.inr (.inr (.inr (.inr ⟨h₆.2, h₇, rfl⟩)))))
    · exact .inr (.inr (.inr (.inr (.inr (.inl ⟨h₆.2, h₇, rfl⟩)))))
  · rintro (⟨hj, hn, rfl⟩ | ⟨hj, hn, hp, rfl⟩ | ⟨hj, hs, rfl⟩ | ⟨hj, hp, rfl⟩ | ⟨hj, hn, hc, rfl⟩ | ⟨hj, hc, rfl⟩ | ⟨hj, hc, rfl⟩)
    · rw [if_pos ⟨hj, hn⟩]
    · rw [if_neg (by omega), if_pos ⟨hj, hp⟩]
    · rw [if_neg (hnot (by omega)), if_neg (hnot (by omega)), if_pos ⟨hj, hs⟩]
    · rw [if_neg (hnot (by omega)), if_neg (hnot (by omega)), if_neg (hnot (by omega)), if_pos ⟨hj, hp⟩]
    · rw [if_neg (hnot (by omega)), if_neg (hnot (by omega)), if_neg (hnot (by omega)), if_neg (hnot (by omega)),
        if_pos ⟨⟨hj, hn⟩, hc⟩]
    · rw [if_neg (hnot (by omega)), if_neg (hnot (by omega)), if_neg (hnot (by omega)), if_neg (hnot (by omega)),
        if_neg (by omega), if_pos ⟨by omega, hj⟩, if_neg hc]
    · rw [if_neg (hnot (by omega)), if_neg (hnot (by omega)), if_neg (hnot (by omega)), if_neg (hnot (by omega)),
        if_neg (by omega), if_pos ⟨by omega, hj⟩, if_pos hc]

/-- The lead byte ends the frame only by not being one. -/
theorem frameEnds_zero : FrameEnds nf bs noise 0 o ↔ byteAt bs 0 ≠ leadByte ∧ o = .malformed := by
  have hlead : (byteAt bs 0).toNat ≠ 0xB4 ↔ byteAt bs 0 ≠ leadByte :=
    not_congr ⟨fun h => BitVec.eq_of_toNat_eq h, fun h => congrArg BitVec.toNat h⟩
  rw [← hlead, FrameEnds]
  constructor
  · rintro (⟨-, h, ho⟩ | ⟨h, -⟩ | ⟨h, -⟩ | ⟨h, -⟩ | ⟨h, -⟩ | ⟨h, -⟩ | ⟨h, -⟩ | ⟨h, -⟩)
    · exact ⟨h, ho⟩
    all_goals omega
  · rintro ⟨h, ho⟩
    exact .inl ⟨rfl, h, ho⟩

/-! ### A byte completed -/

/-- A framer in LEAD before its first byte, or in BODY with the CRC of what it has read. -/
def ReadsBytes (f : Framer) : Prop :=
  (f.state = .lead ∧ f.buffer = []) ∨ (f.state = .body ∧ f.buffer ≠ [] ∧ f.crc = crc8 f.buffer)

theorem crc8_append (bs : List Byte) (b : Byte) : crc8 (bs ++ [b]) = crc8Byte (crc8 bs) b := by
  rw [crc8, crc8, List.foldl_append]
  rfl

theorem byteOutcome_body (hbuf : f.buffer ≠ []) (hcrc : f.crc = crc8 f.buffer) :
    byteOutcome nf (f.buffer ++ [f.shift]) f.buffer.length f.crc f.noise = some o ↔
      FrameEnds nf (f.buffer ++ [f.shift]) f.noise f.buffer.length o := by
  have hiff := byteOutcome_eq_some_iff (nf := nf) (bs := f.buffer ++ [f.shift]) (j := f.buffer.length) (noise := f.noise)
    (o := o) (by rw [List.length_append, List.length_singleton]) (List.length_pos_iff.mpr hbuf)
  rw [List.take_left' rfl, ← hcrc] at hiff
  exact hiff

theorem completeByte_ends (hf : ReadsBytes f) (h : FrameEnds nf (f.buffer ++ [f.shift]) f.noise f.buffer.length o) :
    f.completeByte nf =
      { f with buffer := f.buffer ++ [f.shift], position := none, votes := 0, limit := some 0, outcome := some o } := by
  rcases hf with ⟨hst, hbuf⟩ | ⟨hst, hbuf, hcrc⟩
  · rw [hbuf] at h
    obtain ⟨hne, rfl⟩ := frameEnds_zero.mp h
    have hlead : (f.shift == leadByte) = false := beq_eq_false_iff_ne.mpr hne
    simp [Framer.completeByte, hst, hlead]
  · have hout := (byteOutcome_body hbuf hcrc).mpr h
    simp [Framer.completeByte, hst, hout]

theorem completeByte_goesOn (hf : ReadsBytes f)
    (h : ∀ o, ¬FrameEnds nf (f.buffer ++ [f.shift]) f.noise f.buffer.length o) :
    f.completeByte nf =
      { f with
        buffer := f.buffer ++ [f.shift], position := none, votes := 0, limit := some 0, state := .body
        crc := crc8 (f.buffer ++ [f.shift]) } := by
  rcases hf with ⟨hst, hbuf⟩ | ⟨hst, hbuf, hcrc⟩
  · rw [hbuf] at h
    have hlead : f.shift = leadByte := by
      by_contra hne
      exact h .malformed (frameEnds_zero.mpr ⟨hne, rfl⟩)
    simp [Framer.completeByte, hst, hlead, hbuf, crc8]
  · have hout : byteOutcome nf (f.buffer ++ [f.shift]) f.buffer.length f.crc f.noise = none :=
      Option.eq_none_iff_forall_ne_some.mpr fun o ho => h o ((byteOutcome_body hbuf hcrc).mp ho)
    rw [hcrc] at hout
    simp [Framer.completeByte, hst, hout, hcrc, crc8_append]

/-! ### The samples of one byte after its start edge (R26, R27) -/

/-- The byte as its first n bits fill it. -/
def shiftAfter (xs : List Tone) : Nat → Byte
  | 0 => 0
  | n + 1 => fillBit (n + 1) (bitSpaces xs (n + 1)) (shiftAfter xs n)

theorem shiftAfter_bit (xs : List Tone) {n : Nat} (hn : n ≤ 8) (k : Nat) :
    (shiftAfter xs n).getLsbD k = decide (k < n ∧ bitSpaces xs (k + 1) ≤ 1) := by
  induction n with
  | zero => simp [shiftAfter]
  | succ n ih =>
    have hbit : (1#8 <<< n).getLsbD k = decide (k = n) := by
      rw [BitVec.getLsbD_shiftLeft, BitVec.getLsbD_one]
      by_cases hk : k = n
      · simp [hk]; omega
      · simp [hk]; omega
    rw [shiftAfter, fillBit]
    split
    · next h =>
      rw [ih (by omega)]
      refine decide_eq_decide.mpr ⟨fun ⟨hk, hs⟩ => ⟨by omega, hs⟩, fun ⟨hk, hs⟩ => ⟨?_, hs⟩⟩
      rcases Nat.lt_succ_iff_lt_or_eq.mp hk with hlt | rfl
      · exact hlt
      · omega
    · next h =>
      rw [Nat.add_sub_cancel, BitVec.getLsbD_or, ih (by omega), hbit, ← Bool.decide_or]
      refine decide_eq_decide.mpr ⟨?_, fun ⟨hk, hs⟩ => ?_⟩
      · rintro (⟨hk, hs⟩ | rfl)
        · exact ⟨by omega, hs⟩
        · exact ⟨by omega, by omega⟩
      · rcases Nat.lt_succ_iff_lt_or_eq.mp hk with hlt | rfl
        · exact .inl ⟨hlt, hs⟩
        · exact .inr rfl

/-- The noisy bits among the first n after the start bit. -/
def noisyBits (xs : List Tone) (n : Nat) : Nat :=
  ((List.range n).filter (fun b => bitSpaces xs (b + 1) = 1 ∨ bitSpaces xs (b + 1) = 2)).length

theorem noisyBits_succ (xs : List Tone) (n m : Nat) :
    (if noisyBit (bitSpaces xs (n + 1)) then m + noisyBits xs n + 1 else m + noisyBits xs n) = m + noisyBits xs (n + 1) := by
  have hnoisy : noisyBit (bitSpaces xs (n + 1)) = decide (bitSpaces xs (n + 1) = 1 ∨ bitSpaces xs (n + 1) = 2) := by
    rw [noisyBit, Bool.decide_or]
    rfl
  rw [noisyBits, noisyBits, List.range_succ, List.filter_append, List.length_append, hnoisy, List.filter_singleton]
  cases decide (bitSpaces xs (n + 1) = 1 ∨ bitSpaces xs (n + 1) = 2) <;> rfl

/-- The data bits of a byte, one after another. -/
theorem reads_dataBits (h : ReadsTo nf xs f 16 g) (hg : Following 16 g) (hvotes : g.votes = 0) (hshift : g.shift = 0)
    (hlen : 143 ≤ xs.length) {n : Nat} (hn : n ≤ 8) : ReadsTo nf xs f (16 * (n + 1))
      { g with
        position := some (16 * (n + 1)), votes := 0, shift := shiftAfter xs n, noise := g.noise + noisyBits xs n } := by
  induction n with
  | zero =>
    have hnone : shiftAfter xs 0 = g.shift := hshift.symm
    have hquiet : g.noise + noisyBits xs 0 = g.noise := rfl
    rw [Nat.zero_add, Nat.mul_one, hnone, hquiet, ← hg.position, ← hvotes]
    exact h
  | succ n ih =>
    have hbit := reads_dataBit (Nat.le_add_left 1 n) (ih (by omega)) ⟨hg.state, rfl, hg.stopSpace, hg.outcome⟩ rfl (by omega)
      (by omega) (by omega)
    dsimp only at hbit
    rw [noisyBits_succ] at hbit
    exact hbit

/-- The start bit is noisy when the third of its samples is mark (R26). -/
def startNoise (xs : List Tone) : Nat := if spacesAt xs [4, 6, 8] = 2 then 1 else 0

/-- The framer at the last sample of a byte, its stop bit decided and not yet taken. -/
def Framer.atStop (xs : List Tone) (f : Framer) : Framer :=
  { f with
    position := some 155, votes := 0, limit := none, shift := shiftAfter xs 8
    noise := f.noise + startNoise xs + noisyBits xs 9 }

/-- The samples of one byte after its start edge. -/
theorem reads_byte (hf : Following 1 f) (hvotes : f.votes = 0) (hshift : f.shift = 0) (hlen : xs.length = 154)
    (hstart : 2 ≤ spacesAt xs [4, 6, 8]) : ReadsTo nf xs f 155
      (if 2 ≤ bitSpaces xs 9 then { f.atStop xs with position := none, stopSpace := true } else (f.atStop xs).completeByte nf) := by
  have hstarted := (reads_trueStart (nf := nf) hf hvotes (by omega) hstart).idle ⟨hf.state, rfl, hf.stopSpace, hf.outcome⟩
    (by decide) (m := 8) (by omega) fun q hq hq' g space => by
      rw [byteSample_start _ _ (by omega), startSample_after _ _ hq]
  have hdata := reads_dataBits hstarted ⟨hf.state, rfl, hf.stopSpace, hf.outcome⟩ rfl hshift (by omega) le_rfl
  have hstop := reads_stopBit hdata ⟨hf.state, rfl, hf.stopSpace, hf.outcome⟩ rfl (by omega)
  dsimp only at hstop
  rw [noisyBits_succ] at hstop
  exact hstop

/-- What the samples of one byte make of the framer, but for the space-run count. -/
def Framer.byteRead (nf : NetFilter) (xs : List Tone) (f : Framer) : Framer :=
  if 2 ≤ bitSpaces xs 9 then { f.atStop xs with position := none, stopSpace := true } else (f.atStop xs).completeByte nf

theorem byteRead_noEnd (h : 2 ≤ bitSpaces xs 9) :
    f.byteRead nf xs = { f.atStop xs with position := none, stopSpace := true } := if_pos h

theorem byteRead_completes (h : bitSpaces xs 9 ≤ 1) : f.byteRead nf xs = (f.atStop xs).completeByte nf :=
  if_neg (by omega)

theorem ReadsBytes.atStop (hf : ReadsBytes f) : ReadsBytes (f.atStop xs) := hf

theorem ReadsBytes.following (hf : ReadsBytes f) (hposition : f.position = some 1) (hstop : f.stopSpace = false)
    (hout : f.outcome = none) : Following 1 f :=
  ⟨hf.imp And.left And.left, hposition, hstop, hout⟩

/-- A byte completed: its outcome is that of the check it fails, and without one the framer reads on. -/
theorem completeByte_cases (nf : NetFilter) (hf : ReadsBytes f) (hout : f.outcome = none) :
    (f.completeByte nf).noise = f.noise ∧ (f.completeByte nf).position = none ∧
    (f.completeByte nf).stopSpace = f.stopSpace ∧ (f.completeByte nf).buffer = f.buffer ++ [f.shift] ∧
    (∀ o, (f.completeByte nf).outcome = some o ↔ FrameEnds nf (f.buffer ++ [f.shift]) f.noise f.buffer.length o) ∧
    ((f.completeByte nf).outcome = none → (f.completeByte nf).state = .body ∧ (f.completeByte nf).limit = some 0 ∧
      (f.completeByte nf).crc = crc8 (f.buffer ++ [f.shift])) := by
  by_cases hends : ∃ o, FrameEnds nf (f.buffer ++ [f.shift]) f.noise f.buffer.length o
  · obtain ⟨o, ho⟩ := hends
    rw [completeByte_ends hf ho]
    refine ⟨rfl, rfl, rfl, rfl, fun o' => ⟨fun h => ?_, fun ho' => ?_⟩, fun h => by cases h⟩
    · exact Option.some.inj h ▸ ho
    · have hsame := (completeByte_ends hf ho).symm.trans (completeByte_ends hf ho')
      exact congrArg Framer.outcome hsame
  · have hgoes : ∀ o, ¬FrameEnds nf (f.buffer ++ [f.shift]) f.noise f.buffer.length o := fun o ho => hends ⟨o, ho⟩
    rw [completeByte_goesOn hf hgoes]
    refine ⟨rfl, rfl, rfl, rfl, fun o => ⟨fun h => ?_, fun ho => absurd ho (hgoes o)⟩, fun _ => ⟨rfl, rfl, rfl⟩⟩
    exact absurd (hout.symm.trans h) (by simp)

end Sys2Proof.Machine
end
section
/-! PROOFS. A whole frame on the air (O22). -/

namespace Sys2Proof.Machine

open Sys2Proof

variable {s : State} {ix : FramerIx} {f g : Framer} {nf : NetFilter} {xs ys : List Tone} {bs cs : List Byte} {b : Byte}
  {noise j n l : Nat} {o : FrameOutcome}

/-! ### The break and the mark after it (R22, R24, R25) -/

theorem reads_run (hst : f.state = .hunt) (hout : f.outcome = none) (hrun : f.spaceRun + n ≤ 192) :
    Reads nf (List.replicate n .space) f { f with spaceRun := f.spaceRun + n } := by
  induction n generalizing f with
  | zero => exact .done f
  | succ n ih =>
    have htake : f.take nf true = { f with spaceRun := f.spaceRun + 1 } := by
      rw [Framer.take_hunt hst (by omega), nextRun_of_lt (by omega)]
      rfl
    have hrest := ih (f := { f with spaceRun := f.spaceRun + 1 }) hst hout (by dsimp only; omega)
    have hsum : f.spaceRun + (n + 1) = f.spaceRun + 1 + n := by omega
    rw [hsum, List.replicate_succ]
    refine .sample hout ?_
    rw [beq_self_eq_true, htake]
    exact hrest

/-- The framer in BREAK. -/
def Framer.broken : Framer := { Framer.cleared with state := .brk, spaceRun := 192 }

theorem reads_broken (n : Nat) : Reads nf (List.replicate n .space) Framer.broken Framer.broken := by
  induction n with
  | zero => exact .done _
  | succ n ih =>
    rw [List.replicate_succ]
    exact .sample rfl ih

/-- A run of 192 space samples is a break, taken at the sample after it. -/
theorem reads_break (hst : f.state = .hunt) (hout : f.outcome = none) (hrun : f.spaceRun < 192) :
    Reads nf (List.replicate 320 .space) f Framer.broken := by
  have hsplit : List.replicate 320 Tone.space =
      List.replicate (192 - f.spaceRun) .space ++ ([.space] ++ List.replicate (127 + f.spaceRun) .space) := by
    rw [← List.replicate_one, List.replicate_append_replicate, List.replicate_append_replicate]
    congr 1
    omega
  have hfull : f.spaceRun + (192 - f.spaceRun) = 192 := by omega
  have hlong := reads_run (nf := nf) hst hout (n := 192 - f.spaceRun) (by omega)
  rw [hfull] at hlong
  rw [hsplit]
  refine hlong.trans ((Reads.one (f := { f with spaceRun := 192 }) hout ?_).trans (reads_broken _))
  have hdue : ({ f with spaceRun := 192 } : Framer).breakDue = true := by
    simp [Framer.breakDue, breakRun, hout, hst]
  rw [Framer.take, Framer.settled_break hdue]
  rfl

/-- Marks while a start edge is looked for. -/
theorem reads_marks (hst : f.state = .lead ∨ f.state = .body) (hlimit : f.limit = some l) (hposition : f.position = none)
    (hstop : f.stopSpace = false) (hout : f.outcome = none) (hn : l + n ≤ f.edgeLimit) :
    Reads nf (List.replicate (n + 1) .mark) f { f with spaceRun := 0, limit := some (l + (n + 1)) } := by
  induction n generalizing f l with
  | zero =>
    refine .one hout ?_
    rw [Framer.take_edge hst hlimit hposition hstop hout (by omega), if_neg (by simp)]
    rfl
  | succ n ih =>
    have htake : f.take nf false = { f with spaceRun := 0, limit := some (l + 1) } := by
      rw [Framer.take_edge hst hlimit hposition hstop hout (by omega), if_neg (by simp)]
      rfl
    have hrest := ih (f := { f with spaceRun := 0, limit := some (l + 1) }) (l := l + 1) hst rfl hposition hstop hout
      (by have h : ({ f with spaceRun := 0, limit := some (l + 1) } : Framer).edgeLimit = f.edgeLimit := rfl
          omega)
    have hsum : l + (n + 1 + 1) = l + 1 + (n + 1) := by omega
    rw [hsum, List.replicate_succ]
    refine .sample hout ?_
    have hmark : (Tone.mark == Tone.space) = false := rfl
    rw [hmark, htake]
    exact hrest

theorem edgeLimit_body (h : f.state = .body) : f.edgeLimit = gapLimit := by
  rw [Framer.edgeLimit, h]
  rfl

/-! ### Between two bytes -/

/-- The framer looks for the start edge of the byte after bs, all read without noise. -/
structure Between (bs : List Byte) (f : Framer) : Prop where
  bytes : ReadsBytes f
  buffer : f.buffer = bs
  noise : f.noise = 0
  limit : ∃ l, f.limit = some l ∧ l + 1 ≤ f.edgeLimit
  position : f.position = none
  run : f.spaceRun = 0
  stopSpace : f.stopSpace = false
  outcome : f.outcome = none

/-- The framer after the mark of a break. -/
def Framer.leading : Framer := { Framer.cleared with state := .lead, limit := some 16 }

theorem between_leading : Between [] Framer.leading where
  bytes := .inl ⟨rfl, rfl⟩
  buffer := rfl
  noise := rfl
  limit := ⟨16, rfl, by decide⟩
  position := rfl
  run := rfl
  stopSpace := rfl
  outcome := rfl

theorem reads_lead : Reads nf (List.replicate 16 .mark) Framer.broken Framer.leading := by
  rw [List.replicate_succ]
  refine .sample rfl ?_
  exact reads_marks (f := { Framer.cleared with state := .lead, limit := some 1 }) (n := 14) (.inl rfl) rfl rfl rfl rfl (by decide)

/-! ### The samples of a frame (R22) -/

/-- Bit-time r of a byte as sent: a start bit, eight data bits least significant first, a stop bit. -/
def bitTone (b : Byte) (r : Nat) : Tone :=
  if r = 0 then .space else if r = 9 then .mark else if b.getLsbD (r - 1) then .mark else .space

theorem bitTone_data (b : Byte) {k : Nat} (hk : k < 8) : bitTone b (k + 1) = if b.getLsbD k then .mark else .space := by
  rw [bitTone, if_neg (by omega), if_neg (by omega), Nat.add_sub_cancel]

/-- The samples of a byte, 16 a bit-time. -/
def byteTones (b : Byte) : List Tone := (List.range 10).flatMap fun r => List.replicate 16 (bitTone b r)

theorem getElem?_flatMap {α β : Type} {F : α → List β} {c : Nat} (hF : ∀ a, (F a).length = c) (l : List α) {n d : Nat}
    (hn : n < l.length) (hd : d < c) : (l.flatMap F)[c * n + d]? = (F l[n])[d]? := by
  induction l generalizing n with
  | nil => simp at hn
  | cons a l ih =>
    rw [List.flatMap_cons]
    cases n with
    | zero => rw [Nat.mul_zero, Nat.zero_add, List.getElem?_append_left (by rw [hF]; exact hd)]; rfl
    | succ n =>
      have hoff : c * (n + 1) + d - c = c * n + d := by rw [Nat.mul_succ]; omega
      rw [List.getElem?_append_right (by rw [hF, Nat.mul_succ]; omega), hF, hoff, ih (by simpa using hn)]
      rfl

theorem byteTones_getElem? (b : Byte) {r d : Nat} (hr : r < 10) (hd : d < 16) : (byteTones b)[16 * r + d]? = some (bitTone b r) := by
  rw [byteTones, getElem?_flatMap (fun _ => List.length_replicate) _ (by simpa using hr) hd, List.getElem?_replicate, if_pos hd]
  simp

theorem byteTones_length (b : Byte) : (byteTones b).length = 160 := by
  simp [byteTones, List.length_flatMap]

/-- The samples of a byte after its start edge, up to the one that decides its stop bit. -/
def byteRest (b : Byte) : List Tone := ((byteTones b).drop 1).take 154

theorem byteRest_length (b : Byte) : (byteRest b).length = 154 := by
  rw [byteRest, List.length_take, List.length_drop, byteTones_length]
  rfl

theorem byteTones_split (b : Byte) : (byteTones b).take 155 = .space :: byteRest b := by
  have hhead : (byteTones b)[0]? = some .space := byteTones_getElem? b (r := 0) (d := 0) (by decide) (by decide)
  obtain ⟨ts, hts⟩ : ∃ ts, byteTones b = .space :: ts := by
    cases h : byteTones b with
    | nil => rw [h] at hhead; cases hhead
    | cons a ts => rw [h] at hhead; exact ⟨ts, by rw [Option.some.inj hhead]⟩
  rw [byteRest, hts]
  rfl

theorem byteRest_getElem? (b : Byte) {p r d : Nat} (hp : p = 16 * r + d + 1) (hp₁ : 2 ≤ p) (hp₂ : p ≤ 155) (hd : d < 16) :
    (byteRest b)[p - 2]? = some (bitTone b r) := by
  have hix : 1 + (p - 2) = 16 * r + d := by omega
  rw [byteRest, List.getElem?_take_of_lt (by omega), List.getElem?_drop, hix, byteTones_getElem? b (by omega) hd]

theorem spacesAt_of_all {x : Tone} {ps : List Nat} (h : ∀ p ∈ ps, xs[p - 2]? = some x) :
    spacesAt xs ps = if x = .space then ps.length else 0 := by
  have hfilter : ps.filter (fun p => xs[p - 2]? == some .space) = ps.filter fun _ => x == .space :=
    List.filter_congr fun p hp => by rw [h p hp]; rfl
  rw [spacesAt, hfilter]
  cases x
  · exact congrArg List.length (List.filter_false ps)
  · exact congrArg List.length (List.filter_true ps)

theorem startSpaces_byteRest (b : Byte) : spacesAt (byteRest b) [4, 6, 8] = 3 :=
  spacesAt_of_all (x := .space) fun p hp =>
    byteRest_getElem? b (r := 0) (d := p - 1) (by simp at hp; omega) (by simp at hp; omega) (by simp at hp; omega)
      (by simp at hp; omega)

theorem bitSpaces_byteRest (b : Byte) {r : Nat} (hr : 1 ≤ r) (hr' : r ≤ 9) :
    bitSpaces (byteRest b) r = if bitTone b r = .space then 3 else 0 :=
  spacesAt_of_all fun p hp =>
    byteRest_getElem? b (d := p - 1 - 16 * r) (by simp at hp; omega) (by simp at hp; omega) (by simp at hp; omega)
      (by simp at hp; omega)

theorem bitSpaces_data (b : Byte) {k : Nat} (hk : k < 8) : bitSpaces (byteRest b) (k + 1) = if b.getLsbD k then 0 else 3 := by
  rw [bitSpaces_byteRest b (by omega) (by omega), bitTone_data b hk]
  cases b.getLsbD k <;> rfl

theorem bitSpaces_stop (b : Byte) : bitSpaces (byteRest b) 9 = 0 := by
  rw [bitSpaces_byteRest b (by decide) (by decide)]
  rfl

theorem shiftAfter_byteRest (b : Byte) : shiftAfter (byteRest b) 8 = b := by
  refine BitVec.eq_of_getLsbD_eq fun k hk => ?_
  rw [shiftAfter_bit _ le_rfl, bitSpaces_data b hk]
  cases b.getLsbD k <;> simp [hk]

theorem noisyBits_byteRest (b : Byte) : noisyBits (byteRest b) 9 = 0 := by
  rw [noisyBits, List.length_eq_zero_iff, List.filter_eq_nil_iff]
  intro k hk
  have hclear : bitSpaces (byteRest b) (k + 1) = 0 ∨ bitSpaces (byteRest b) (k + 1) = 3 := by
    rw [bitSpaces_byteRest b (by omega) (by have := List.mem_range.mp hk; omega)]
    split
    · exact .inr rfl
    · exact .inl rfl
  rw [decide_eq_true_eq]
  omega

/-! ### A byte of the frame -/

/-- The framer that has just completed a byte sent without noise, before its outcome is settled. -/
def Framer.atByte (b : Byte) (f : Framer) : Framer :=
  { f with spaceRun := 1, limit := none, position := some 155, votes := 0, shift := b }

theorem reads_cleanByte (hf : Between bs f) :
    ∃ r, Reads nf ((byteTones b).take 155) f { (f.atByte b).completeByte nf with spaceRun := r } := by
  obtain ⟨hbytes, hbuffer, hnoise, ⟨l, hlimit, hl⟩, hposition, hrun, hstop, hout⟩ := hf
  have hst : f.state = .lead ∨ f.state = .body := hbytes.imp And.left And.left
  have hedge : f.take nf true = { f with spaceRun := 1, limit := some (l + 1), position := some 1, votes := 0, shift := 0 } := by
    rw [Framer.take_edge hst hlimit hposition hstop hout (by omega), if_pos ⟨rfl, hrun, hl⟩]
  obtain ⟨r, hreads⟩ := reads_byte (nf := nf) (xs := byteRest b)
    (f := { f with spaceRun := 1, limit := some (l + 1), position := some 1, votes := 0, shift := 0 })
    ⟨hst, rfl, hstop, hout⟩ rfl rfl (byteRest_length b) (by rw [startSpaces_byteRest]; decide)
  rw [bitSpaces_stop, if_neg (by decide), List.take_of_length_le (byteRest_length b).le] at hreads
  have hat : ({ f with spaceRun := 1, limit := some (l + 1), position := some 1, votes := 0, shift := 0 } : Framer).atStop
      (byteRest b) = f.atByte b := by
    rw [Framer.atStop, shiftAfter_byteRest, noisyBits_byteRest, startNoise, startSpaces_byteRest]
    rfl
  rw [hat] at hreads
  refine ⟨r, ?_⟩
  rw [byteTones_split]
  refine .sample hout ?_
  rw [beq_self_eq_true, hedge]
  exact hreads

/-- The byte that ends the frame. -/
theorem reads_endingByte (hf : Between bs f) (hends : FrameEnds nf (bs ++ [b]) 0 bs.length o) :
    ∃ g, Reads nf ((byteTones b).take 155) f g ∧ g.outcome = some o := by
  obtain ⟨r, hreads⟩ := reads_cleanByte (nf := nf) (b := b) hf
  rw [← hf.buffer, ← hf.noise] at hends
  refine ⟨_, hreads, ?_⟩
  rw [completeByte_ends (f := f.atByte b) hf.bytes hends]

/-- A byte that does not, and the rest of its stop bit. -/
theorem reads_goingByte (hf : Between bs f) (hgoes : ∀ o, ¬FrameEnds nf (bs ++ [b]) 0 bs.length o) :
    ∃ g, Reads nf (byteTones b) f g ∧ Between (bs ++ [b]) g := by
  obtain ⟨r, hreads⟩ := reads_cleanByte (nf := nf) (b := b) hf
  have htail : (byteTones b).drop 155 = List.replicate 5 .mark := rfl
  rw [← hf.buffer, ← hf.noise] at hgoes
  rw [completeByte_goesOn (f := f.atByte b) hf.bytes hgoes] at hreads
  have hmarks := reads_marks (nf := nf) (l := 0) (n := 4)
    (f := { f.atByte b with
      buffer := f.buffer ++ [b], position := none, votes := 0, limit := some 0, state := .body
      crc := crc8 (f.buffer ++ [b]), spaceRun := r }) (.inr rfl) rfl rfl hf.stopSpace hf.outcome
    ((by decide : 0 + 4 ≤ gapLimit).trans_eq (edgeLimit_body rfl).symm)
  have hwhole := hreads.trans hmarks
  rw [← htail, List.take_append_drop] at hwhole
  refine ⟨_, hwhole, ?_⟩
  rw [← hf.buffer]
  exact ⟨.inr ⟨rfl, by simp, rfl⟩, rfl, hf.noise, ⟨5, rfl, (by decide : 5 + 1 ≤ gapLimit).trans_eq (edgeLimit_body rfl).symm⟩, rfl, rfl, hf.stopSpace, hf.outcome⟩

/-! ### A run of bytes, and the frame -/

theorem reads_bytes (hf : Between bs f)
    (hgoes : ∀ k, k < cs.length → ∀ o, ¬FrameEnds nf ((bs ++ cs).take (bs.length + k + 1)) 0 (bs.length + k) o) :
    ∃ g, Reads nf (cs.flatMap byteTones) f g ∧ Between (bs ++ cs) g := by
  induction cs generalizing bs f with
  | nil =>
    rw [List.append_nil]
    exact ⟨f, .done f, hf⟩
  | cons c cs ih =>
    have hcons : bs ++ c :: cs = bs ++ [c] ++ cs := by rw [List.append_assoc]; rfl
    have hlen : (bs ++ [c]).length = bs.length + 1 := by rw [List.length_append, List.length_singleton]
    rw [hcons] at hgoes ⊢
    have hfirst := hgoes 0 (by simp)
    rw [Nat.add_zero, ← hlen, List.take_left' rfl] at hfirst
    obtain ⟨g, hread, hbetween⟩ := reads_goingByte hf hfirst
    obtain ⟨g', hreads, hlast⟩ := ih hbetween fun k hk o => by
      have h := hgoes (k + 1) (by simpa using hk) o
      have hk' : bs.length + (k + 1) = (bs ++ [c]).length + k := by omega
      rw [hk'] at h
      exact h
    exact ⟨g', hread.trans hreads, hlast⟩

theorem byteAt_take {k m : Nat} (bs : List Byte) (h : k < m) : byteAt (bs.take m) k = byteAt bs k := by
  rw [byteAt, byteAt, List.getD_eq_getElem?_getD, List.getD_eq_getElem?_getD, List.getElem?_take_of_lt h]

/-- What byte j decides depends on the bytes up to it alone. -/
theorem frameEnds_take : FrameEnds nf (bs.take (j + 1)) noise j o ↔ FrameEnds nf bs noise j o := by
  have hat {k : Nat} (h : k ≤ j) : byteAt (bs.take (j + 1)) k = byteAt bs k := byteAt_take bs (Nat.lt_succ_of_le h)
  rcases Nat.eq_zero_or_pos j with rfl | hpos
  · rw [frameEnds_zero, frameEnds_zero, hat le_rfl]
  rcases Nat.eq_or_lt_of_le hpos with hone | htwo
  · simp only [FrameEnds]
    constructor <;> rintro (⟨h, -⟩ | ⟨h, -⟩ | ⟨h, -⟩ | ⟨h, -⟩ | ⟨h, -⟩ | ⟨h, -⟩ | ⟨h, -⟩ | ⟨h, -⟩) <;> omega
  · have hcrc : ((bs.take (j + 1)).take j) = bs.take j := by rw [List.take_take, Nat.min_eq_left (Nat.le_succ j)]
    simp only [FrameEnds, hat (Nat.zero_le j), hat hpos, hat htwo, hat le_rfl, hat (Nat.sub_le j 1), hcrc, List.take_take,
      Nat.min_self]
    refine or_congr Iff.rfl (or_congr Iff.rfl (or_congr Iff.rfl (or_congr ?_ (or_congr ?_ Iff.rfl))))
    · exact and_congr_right fun h => by rw [hat (k := 3) (by omega), hat (k := 4) (by omega)]
    · exact and_congr_right fun h => by rw [hat (k := 5) (by omega), hat (k := 6) (by omega)]

theorem frameTone_data (bs : List Byte) {k r : Nat} (hk : k < bs.length) (hr : r < 10) :
    frameTone bs (21 + (10 * k + r)) = bitTone (byteAt bs k) r := by
  have hmod : (21 + (10 * k + r) - 21) % 10 = r := by omega
  have hdiv : (21 + (10 * k + r) - 21) / 10 = k := by omega
  rw [frameTone, if_neg (by omega), if_neg (by omega), if_pos (by omega), hmod, hdiv, bitTone]
  simp only [beq_iff_eq]

theorem range_mul_flatMap {β : Type} (F : Nat → List β) (m n : Nat) :
    (List.range (m * n)).flatMap F = (List.range n).flatMap fun k => (List.range m).flatMap fun r => F (m * k + r) := by
  induction n with
  | zero => rfl
  | succ n ih =>
    rw [Nat.mul_succ, List.range_add, List.flatMap_append, ih, List.range_succ, List.flatMap_append, List.flatMap_map,
      List.flatMap_singleton]

theorem flatMap_range_byteAt {β : Type} (F : Byte → List β) (bs : List Byte) :
    (List.range bs.length).flatMap (fun k => F (byteAt bs k)) = bs.flatMap F := by
  have hmap : (List.range bs.length).map (byteAt bs) = bs := by
    refine List.ext_getElem (by simp) fun k h h' => ?_
    rw [List.getElem_map, List.getElem_range, byteAt, List.getD_eq_getElem]
  rw [← List.flatMap_map, hmap]

theorem flatMap_replicate (c n : Nat) (x : Tone) :
    (List.range n).flatMap (fun _ => List.replicate c x) = List.replicate (c * n) x := by
  induction n with
  | zero => rfl
  | succ n ih =>
    rw [List.range_succ, List.flatMap_append, ih, List.flatMap_singleton, List.replicate_append_replicate, Nat.mul_succ]

theorem flatMap_congr_range {β : Type} {F G : Nat → List β} (h : ∀ t, t < n → F t = G t) :
    (List.range n).flatMap F = (List.range n).flatMap G := by
  rw [List.flatMap_def, List.flatMap_def, List.map_congr_left fun t ht => h t (List.mem_range.mp ht)]

theorem breakTones_eq (bs : List Byte) : (List.range 20).flatMap (fun t => List.replicate 16 (frameTone bs t)) =
    List.replicate 320 .space := by
  rw [flatMap_congr_range (G := fun _ => List.replicate 16 .space) fun t ht => by rw [frameTone, if_pos ht]]
  exact flatMap_replicate 16 20 .space

theorem bodyTones_eq (bs : List Byte) :
    (List.range (10 * bs.length)).flatMap (fun t => List.replicate 16 (frameTone bs (21 + t))) = bs.flatMap byteTones := by
  rw [range_mul_flatMap, ← flatMap_range_byteAt]
  refine flatMap_congr_range fun k hk => flatMap_congr_range fun r hr => ?_
  rw [frameTone_data bs hk hr]

/-- The tones of a whole frame as the air carries them. -/
theorem frameTones_eq (bs : List Byte) :
    (List.range (frameBits bs)).flatMap (fun t => List.replicate 16 (frameTone bs t)) =
      List.replicate 320 .space ++ (List.replicate 16 .mark ++ bs.flatMap byteTones) := by
  have hmark : frameTone bs 20 = .mark := rfl
  have hbits : List.range (frameBits bs) = List.range 20 ++ ([20] ++ (List.range (10 * bs.length)).map (21 + ·)) := by
    rw [frameBits, List.range_add, ← List.append_assoc]
    rfl
  rw [hbits, List.flatMap_append, List.flatMap_append, List.flatMap_map, breakTones_eq, bodyTones_eq, List.flatMap_singleton,
    hmark]

theorem frameSamples_append (bs : List Byte) (b : Byte) : frameSamples (bs ++ [b]) =
    List.replicate 320 .space ++ (List.replicate 16 .mark ++ (bs.flatMap byteTones ++ (byteTones b).take 155)) := by
  have hlen : (bs.flatMap byteTones).length = 160 * bs.length := by
    rw [List.length_flatMap, List.map_congr_left fun b _ => byteTones_length b]
    simp [Nat.mul_comm]
  have hn : 16 * (frameBits (bs ++ [b]) - 1) + 11 = (List.replicate 320 Tone.space).length +
      ((List.replicate 16 Tone.mark).length + ((bs.flatMap byteTones).length + 155)) := by
    rw [hlen, List.length_replicate, List.length_replicate, frameBits, List.length_append, List.length_singleton]
    omega
  rw [frameSamples, frameTones_eq, hn, List.take_length_add_append, List.take_length_add_append, List.flatMap_append,
    List.flatMap_singleton, List.take_length_add_append]

/-- A frame of which byte j is the first to end it. -/
theorem reads_frame (hst : f.state = .hunt) (hrun : f.spaceRun < 192) (hout : f.outcome = none) (hj : j < bs.length)
    (hends : FrameEnds nf bs 0 j o) (hgoes : ∀ k, k < j → ∀ o', ¬FrameEnds nf bs 0 k o') :
    ∃ g, Reads nf (frameSamples (bs.take (j + 1))) f g ∧ g.outcome = some o := by
  have hlen : (bs.take j).length = j := by rw [List.length_take]; omega
  have hlast : bs.take (j + 1) = bs.take j ++ [bs[j]] := List.take_succ_eq_append_getElem hj
  obtain ⟨g, hreads, hbetween⟩ := reads_bytes (nf := nf) (bs := []) (cs := bs.take j) between_leading fun k hk o' hk' => by
    rw [hlen] at hk
    rw [List.nil_append, List.length_nil, Nat.zero_add, List.take_take, Nat.min_eq_left hk] at hk'
    exact hgoes k hk o' (frameEnds_take.mp hk')
  rw [List.nil_append] at hbetween
  have hfinal : FrameEnds nf (bs.take j ++ [bs[j]]) 0 (bs.take j).length o := by
    rw [← hlast, hlen]
    exact frameEnds_take.mpr hends
  obtain ⟨g', hread, hg'⟩ := reads_endingByte hbetween hfinal
  rw [hlast, frameSamples_append]
  exact ⟨g', (reads_break hst hout hrun).trans (reads_lead.trans (hreads.trans hread)), hg'⟩

/-! ### A readable frame is GOOD -/

theorem readable_iff : readable nf bs = true ↔ bs.length = 11 + claimCount bs ∧ claimCount bs ≤ 12 ∧ byteAt bs 0 = leadByte ∧
    nf.passes bs = true ∧ field16 bs 3 ≠ 0 ∧ field16 bs 3 ≠ 65535 ∧ field16 bs 5 ≠ 0 ∧
    ((bs.drop 10).take (claimCount bs)).Pairwise (fun a b => (claimSlot a).val < (claimSlot b).val) ∧
    byteAt bs (10 + claimCount bs) = crc8 (bs.take (10 + claimCount bs)) := by
  simp only [readable, Bool.and_eq_true, decide_eq_true_eq, beq_iff_eq, bne_iff_ne, ne_eq, and_assoc]

theorem readable_ends (h : readable nf bs = true) : FrameEnds nf bs 0 (10 + claimCount bs) (.good bs 0) := by
  obtain ⟨hlen, -, -, -, -, -, -, -, hcrc⟩ := readable_iff.mp h
  refine (frameEnds_iff (by omega) (List.take_of_length_le (by omega))).mpr ?_
  exact .inr (.inr (.inr (.inr (.inr (.inr ⟨rfl, hcrc, rfl⟩)))))

/-- Two neighbouring claim bytes of a readable frame name rising slots. -/
theorem readable_claims (h : readable nf bs = true) {k : Nat} (hk : 11 ≤ k) (hk' : k < 10 + claimCount bs) :
    (byteAt bs (k - 1)).toNat % 64 < (byteAt bs k).toNat % 64 := by
  obtain ⟨hlen, -, -, -, -, -, -, hclaims, -⟩ := readable_iff.mp h
  have hat {m : Nat} (hm : m < claimCount bs) (hm' : m < ((bs.drop 10).take (claimCount bs)).length) :
      ((bs.drop 10).take (claimCount bs))[m] = byteAt bs (10 + m) := by
    rw [List.getElem_take, List.getElem_drop, byteAt, List.getD_eq_getElem]
  have hcount : ((bs.drop 10).take (claimCount bs)).length = claimCount bs := by
    rw [List.length_take, List.length_drop]; omega
  have hlt := List.pairwise_iff_getElem.mp hclaims (k - 11) (k - 10) (by omega) (by omega) (by omega)
  rw [hat (by omega), hat (by omega)] at hlt
  have h₁ : 10 + (k - 11) = k - 1 := by omega
  have h₂ : 10 + (k - 10) = k := by omega
  rw [h₁, h₂] at hlt
  exact hlt

theorem readable_goes (h : readable nf bs = true) {k : Nat} (hk : k < 10 + claimCount bs) (o : FrameOutcome) :
    ¬FrameEnds nf bs 0 k o := by
  obtain ⟨hlen, hcount, hlead, hpasses, hzero, hreserved, hprogramme, -, -⟩ := readable_iff.mp h
  have hn : claimCount bs = (byteAt bs 2).toNat % 16 := rfl
  simp only [FrameEnds, ← hn]
  rintro (⟨-, hne, -⟩ | ⟨-, hmany, -⟩ | ⟨-, -, hnet, hopen, -⟩ | ⟨-, hid, -⟩ | ⟨-, hprog, -⟩ | ⟨hfirst, hlast, hle, -⟩ |
    ⟨hend, -⟩ | ⟨hend, -⟩)
  · exact hne (by rw [hlead]; rfl)
  · omega
  · exact Bool.false_ne_true (((passes_iff nf bs).mpr ⟨hnet, hopen⟩).symm.trans hpasses)
  · rw [field16_eq] at hzero hreserved
    exact hid.elim hzero hreserved
  · rw [field16_eq] at hprogramme
    exact hprogramme hprog
  · have hlt := readable_claims h hfirst hlast
    omega
  · omega
  · omega

end Sys2Proof.Machine

namespace Sys2Proof

open Machine

/-- Settles O22: a run of samples is read bit by bit, byte by byte, and the checks end the frame. -/
theorem frameOnTheAirIsRead : Obligations.FrameOnTheAirIsRead := by
  refine ⟨?_, ?_, ?_, ?_⟩
  · intro ix bs s hst hrun hout hwarm hreadable hpending
    have hlen := (readable_iff.mp hreadable).1
    obtain ⟨g, hreads, hg⟩ := reads_frame (nf := s.netFilter) hst hrun hout (by omega) (readable_ends hreadable)
      fun k hk => readable_goes hreadable hk
    rw [List.take_of_length_le (by omega)] at hreads
    refine ⟨_, run_reads hreads hwarm hpending, ?_, ?_⟩
    · rw [framer_withPending, framer_modFramer_self]
      exact hg
    · rw [framer_withPending, framer_modFramer_self]
  · intro ix bs j o s hst hrun hout hwarm hj hends hgoes hpending
    obtain ⟨g, hreads, hg⟩ := reads_frame hst hrun hout hj hends hgoes
    refine ⟨_, run_reads hreads hwarm hpending, ?_, ?_⟩
    · rw [framer_withPending, framer_modFramer_self]
      exact hg
    · rw [framer_withPending, framer_modFramer_self]
  · intro ix xs s f hst hposition hvotes hstop hout hwarm hlen hvote hpending
    obtain ⟨r, hreads⟩ := reads_falseStart (nf := s.netFilter) (xs := xs) (f := f) ⟨hst, hposition, hstop, hout⟩ hvotes hlen.ge hvote
    rw [List.take_of_length_le hlen.le] at hreads
    have hrun := run_reads hreads hwarm hpending
    rw [hlen] at hrun
    refine ⟨_, hrun, ?_, ?_⟩
    · rw [framer_withPending, framer_modFramer_self]
    · rw [framer_withPending, framer_modFramer_self]
  · intro ix xs s f hf hposition hvotes hshift hstop hout hwarm hlen hvote hpending
    have hbytes : ReadsBytes f := hf
    obtain ⟨r, hreads⟩ := reads_byte (nf := s.netFilter) (hbytes.following hposition hstop hout) hvotes hshift hlen hvote
    rw [List.take_of_length_le hlen.le] at hreads
    have hrun := run_reads hreads hwarm hpending
    rw [hlen] at hrun
    refine ⟨_, hrun, ?_, ?_⟩
    · rw [framer_withPending, framer_modFramer_self]
    · rw [framer_withPending, framer_modFramer_self]
      have hread : (if 2 ≤ bitSpaces xs 9 then { f.atStop xs with position := none, stopSpace := true }
          else (f.atStop xs).completeByte s.netFilter) = f.byteRead s.netFilter xs := rfl
      rw [hread]
      obtain ⟨hnoise, hpos, hss, hbuf, hends, hgoes⟩ := completeByte_cases s.netFilter (hbytes.atStop (xs := xs)) hout
      rcases Nat.lt_or_ge 1 (bitSpaces xs 9) with h | h
      · rw [byteRead_noEnd h]
        exact ⟨rfl, rfl, fun _ => ⟨rfl, hout, rfl, rfl⟩, fun hle => absurd hle (by omega)⟩
      · rw [byteRead_completes h]
        refine ⟨hnoise, hpos, fun hge => absurd hge (by omega), fun _ => ⟨shiftAfter xs 8, fun k hk => ?_, hss.trans hstop, hbuf,
          fun o => ?_, fun hnone => ?_⟩⟩
        · rw [shiftAfter_bit xs le_rfl]
          simp [hk]
        · have hiff := hends o
          rw [← hbuf, ← hnoise] at hiff
          exact hiff
        · obtain ⟨hbody, hlimit, hcrc⟩ := hgoes hnone
          exact ⟨hbody, hlimit, hcrc.trans (congrArg crc8 hbuf.symm)⟩

end Sys2Proof
end
section
/-! PROOFS. The acts of a block boundary, one rule each: what an act writes, and the run of all of them (O9). -/

namespace Sys2Proof.Machine

open Sys2Proof

variable {s t u : State} {i j : PathIx} {reports : Vector (Option Nat) 12} {clips : Nat} {rest : List BoundaryAct}

/-! ### What an act of the boundary may write -/

/-- t is s but for what the boundary's own acts may write. -/
structure BoundaryFrame (s t : State) : Prop where
  frame : t = { s with
    paths := t.paths, tx := t.tx, builder := t.builder, gov := t.gov
    mon := { s.mon with visit := t.mon.visit, verdicts := t.mon.verdicts }
    lines := { t.lines with permit := s.lines.permit } } := by rfl
  timer : t.builder.frameTimer = s.builder.frameTimer := by rfl
  tx : ∀ i : PathIx, t.txSide i = { s.txSide i with
    pendingSet := (t.txSide i).pendingSet, tone := (t.txSide i).tone } := by exact fun _ => rfl

namespace BoundaryFrame

theorem refl (s : State) : BoundaryFrame s s := {}

theorem trans (h : BoundaryFrame s t) (g : BoundaryFrame t u) : BoundaryFrame s u where
  frame := g.frame.trans (congrArg (fun w : State => { w with
    paths := u.paths, tx := u.tx, builder := u.builder, gov := u.gov
    mon := { w.mon with visit := u.mon.visit, verdicts := u.mon.verdicts }
    lines := { u.lines with permit := w.lines.permit } }) h.frame)
  timer := g.timer.trans h.timer
  tx i := (g.tx i).trans (congrArg (fun x : TxSide => { x with
    pendingSet := (u.txSide i).pendingSet, tone := (u.txSide i).tone }) (h.tx i))

theorem withGov (s : State) (g : Governor) : BoundaryFrame s { s with gov := g } := {}

theorem modPath (s : State) (i : PathIx) (f : PathRec → PathRec) : BoundaryFrame s (s.modPath i f) := {}

/-- A change of the site's levels, or an act, that leaves the slots and what goes with them. -/
theorem of_site (h : SiteFrame s t) (htuning : t.tuning = s.tuning) (hsources : t.sources = s.sources)
    (hslots : t.slots = s.slots) (hwaits : t.waits = s.waits) (hpinned : t.pinnedCollision = s.pinnedCollision)
    (hsilent : t.silentRelease = s.silentRelease) : BoundaryFrame s t := by
  unfold SiteFrame at h
  rw [htuning, hsources, hslots, hwaits, hpinned, hsilent] at h
  generalize t.paths = ps, t.gov.site = site, t.gov.graceDeadline = grace, t.mon.visit = v, t.mon.verdicts = vs,
    t.lines.txkey = key, t.lines.keyHoldDeadline = hold, t.lines.inhibitAlarmDeadline = d, t.lines.inhibitAlarm = a,
    t.lines.alarm = l at h
  rw [h]
  exact {}

theorem refreshPath (s : State) (i : PathIx) : BoundaryFrame s (refreshPath i s) :=
  of_site (refreshPath_act s i).siteFrame (refreshPath_tuning s i) (refreshPath_sources s i) (refreshPath_slots s i)
    (refreshPath_waits s i) (refreshPath_pinnedCollision s i) (refreshPath_silentRelease s i)

theorem refreshAll (s : State) : BoundaryFrame s (refreshAll s) := by
  unfold Machine.refreshAll
  exact forPaths_keeps (P := BoundaryFrame s) (fun i _ hu => hu.trans (refreshPath _ i)) (refl s)

theorem alarmUpdate (s : State) : BoundaryFrame s (alarmUpdate s) := {}

theorem cutVisit (s : State) : BoundaryFrame s (cutVisit s) := {}

theorem writeSite (new : Site) (s : State) : BoundaryFrame s (writeSite new s) where
  frame := by
    have hpermit := (writeSite_lines new s).2.2
    rw [← hpermit]
    rfl

theorem siteLevels (new : Site) (s : State) : BoundaryFrame s (siteLevels new s) := by
  unfold Machine.siteLevels
  have hcut : BoundaryFrame s (if s.gov.site == .transmitting then Machine.cutVisit (Machine.writeSite new s)
      else Machine.writeSite new s) := by
    split
    · exact (writeSite new s).trans (cutVisit _)
    · exact writeSite new s
  exact (hcut.trans (refreshAll _)).trans (alarmUpdate _)

end BoundaryFrame

/-! ### The report of one path (R130) -/

/-- A path's record with its block report taken by the level controller. -/
def PathRec.levelled (p : Params) (target : Nat) (report : Option Nat) (r : PathRec) : PathRec :=
  match report with
  | none => r
  | some m => if watching r.state then r.takeLevel p target m else r

theorem modPath_same {f : PathRec → PathRec} (h : f (s.path i) = s.path i) : s.modPath i f = s := by
  have hpaths : upd s.paths i f = s.paths := by
    rw [upd]
    refine Vector.ext fun k hk => ?_
    rw [Vector.getElem_set]
    split
    · next he => subst he; exact h
    · rfl
  rw [State.modPath, hpaths]

theorem levelPath_eq (reports : Vector (Option Nat) 12) (i : PathIx) (s : State) : levelPath reports i s =
    s.modPath i (PathRec.levelled s.params (s.carryOf i).target reports[i.val]) := by
  have hsame (h : PathRec.levelled s.params (s.carryOf i).target reports[i.val] (s.path i) = s.path i) :
      s.modPath i (PathRec.levelled s.params (s.carryOf i).target reports[i.val]) = s := modPath_same h
  have hpath {f g : PathRec → PathRec} (h : f (s.path i) = g (s.path i)) : s.modPath i f = s.modPath i g := by
    simp only [State.modPath, upd]
    rw [State.path] at h
    rw [h]
  rw [levelPath]
  cases hr : reports[i.val] with
  | none =>
    rw [hr] at hsame
    rw [hsame rfl]
    split <;> rfl
  | some m =>
    rw [hr] at hsame
    by_cases hw : watching (s.path i).state = true
    · rw [if_pos hw]
      exact hpath (if_pos hw).symm
    · rw [if_neg hw, hsame (if_neg hw)]

theorem levelled_writes (p : Params) (target : Nat) (report : Option Nat) (r : PathRec) : r.levelled p target report =
    { r with m := (r.levelled p target report).m, g := (r.levelled p target report).g
             acquired := (r.levelled p target report).acquired } := by
  cases report with
  | none => rfl
  | some m =>
    simp only [PathRec.levelled, PathRec.takeLevel]
    split
    · split
      · rfl
      · split <;> rfl
    · rfl

theorem levelPath_self (reports : Vector (Option Nat) 12) (i : PathIx) (s : State) : (levelPath reports i s).path i =
    (s.path i).levelled s.params (s.carryOf i).target reports[i.val] := by
  rw [levelPath_eq, State.path_modPath_self]

theorem levelPath_ne (reports : Vector (Option Nat) 12) (s : State) (h : j ≠ i) :
    (levelPath reports i s).path j = s.path j := by
  rw [levelPath_eq, State.path_modPath_ne _ _ _ h]

/-! ### The clip count (R140) -/

/-- The governor's record of a clip fault taken, before the site follows. -/
def State.faulted (s : State) : State := { s with gov := s.gov.recordFault s.now }

theorem takeClipCount_quiet (h : clips ≤ s.params.clipLimit ∨ s.gov.site ≠ .transmitting) : takeClipCount clips s = s := by
  rw [takeClipCount, if_neg]
  rw [Bool.and_eq_true, decide_eq_true_eq, beq_iff_eq]
  rintro ⟨hlt, hsite⟩
  rcases h with h | h
  · omega
  · exact h hsite

/-- A fault makes a mute or a lockout. -/
theorem recordFault_deadline (now : Time) (g : Governor) :
    (g.recordFault now).lockoutDeadline ≠ none ∨ (g.recordFault now).muteDeadline ≠ none := by
  unfold Governor.recordFault
  dsimp only
  split
  · exact .inl (by simp)
  · exact .inr (by simp)

theorem faulted_derived (s : State) : s.faulted.derivedSite ≠ .transmitting := by
  rw [State.derivedSite, siteOf]
  split
  · decide
  · next hst =>
    have h := recordFault_deadline s.now s.gov
    cases hl : s.faulted.gov.lockoutDeadline with
    | some d => simp
    | none =>
      obtain ⟨d, hd⟩ := Option.ne_none_iff_exists'.mp (h.resolve_left (fun hn => hn hl))
      have hm : s.faulted.gov.muteDeadline = some d := hd
      simp [hm]

theorem takeClipCount_fault (hclips : s.params.clipLimit < clips) (hsite : s.gov.site = .transmitting) :
    takeClipCount clips s = silencePending (siteLevels s.faulted.derivedSite s.faulted) := by
  have hgov : s.faulted.gov.site = .transmitting := (recordFault_site s.now s.gov).trans hsite
  have hne : s.faulted.derivedSite ≠ s.faulted.gov.site := by
    rw [hgov]
    exact faulted_derived s
  rw [takeClipCount, if_pos (by rw [decide_eq_true hclips, hsite]; rfl), clipFaultAct]
  change silencePending (rederiveSite s.faulted) = _
  rw [rederiveSite_of_ne hne, enterSite_silent (faulted_derived s)]

namespace BoundaryFrame

theorem levelPath (reports : Vector (Option Nat) 12) (i : PathIx) (s : State) : BoundaryFrame s (levelPath reports i s) := by
  rw [levelPath_eq]
  exact modPath s i _

theorem silencePending (s : State) : BoundaryFrame s (silencePending s) where
  tx i := by simp [Machine.silencePending, State.txSide]

theorem takeClipCount (clips : Nat) (s : State) : BoundaryFrame s (takeClipCount clips s) := by
  by_cases h : s.params.clipLimit < clips ∧ s.gov.site = .transmitting
  · rw [takeClipCount_fault h.1 h.2]
    exact (withGov s _).trans ((siteLevels _ s.faulted).trans (silencePending _))
  · rw [takeClipCount_quiet (by rwa [not_and_or, Nat.not_lt] at h)]
    exact refl s

theorem recordEvent (i : PathIx) (e : PathEvent) (s : State) : BoundaryFrame s (recordEvent i e s) := modPath s i _

theorem shedOne (i : PathIx) (s : State) : BoundaryFrame s (shedOne i s) :=
  ((modPath s i _).trans (recordEvent i .shed _)).trans (refreshPath _ i)

theorem shedLoop (n : Nat) (s : State) : BoundaryFrame s (shedLoop n s) := by
  induction n generalizing s with
  | zero => exact refl s
  | succ n ih =>
    unfold Machine.shedLoop
    split
    · split
      · exact refl s
      · exact (shedOne _ s).trans (ih _)
    · exact refl s

theorem clearShedFlags (s : State) : BoundaryFrame s (clearShedFlags s) := {}

theorem restoreTest (s : State) : BoundaryFrame s (restoreTest s) := by
  unfold Machine.restoreTest
  split
  · exact withGov s _
  · split
    · split <;> exact withGov s _
    · exact withGov s _

theorem applyBackoff (cap : Nat) (s : State) : BoundaryFrame s (applyBackoff cap s) where
  tx i := by rw [applyBackoff_txSide]

theorem raiseCap (s : State) : BoundaryFrame s (raiseCap s) := {}

theorem compositeEvaluation (s : State) : BoundaryFrame s (compositeEvaluation s) :=
  ((((clearShedFlags s).trans (shedLoop 12 _)).trans (restoreTest _)).trans (applyBackoff _ _)).trans (raiseCap _)

theorem restoreOne (i : PathIx) (s : State) : BoundaryFrame s (restoreOne i s) := by
  rw [restoreOne_eq]
  refine BoundaryFrame.trans ?_ (refreshPath _ i)
  exact ((modPath s i _).trans (recordEvent i .restored _)).trans (withGov _ _)

theorem restore (s : State) : BoundaryFrame s (restore s) := by
  obtain h | ⟨i, -, -, h⟩ := restore_cases s <;> rw [h]
  · exact refl s
  · exact (restoreOne i s).trans (applyBackoff _ _)

theorem handBit (i : PathIx) (s : State) : BoundaryFrame s (handBit i s) where
  tx j := by
    rcases eq_or_ne j i with rfl | h
    · rw [(handBit_self s j).2]
      rfl
    · rw [(handBit_ne s h).2]

theorem rxSide (h : BoundaryFrame s t) (i : PathIx) : t.rxSide i = s.rxSide i := by
  have hrx : t.rx = s.rx := by rw [h.frame]
  rw [State.rxSide, hrx]
  rfl

end BoundaryFrame

/-! ### The run of the acts -/

/-- The evaluation as the boundary takes it: completed by the restore it calls for when an act follows. -/
def evaluated (last : Bool) (s : State) : State := if last then compositeEvaluation s else restore (compositeEvaluation s)

theorem BoundaryFrame.evaluated (last : Bool) (s : State) : BoundaryFrame s (evaluated last s) := by
  unfold Machine.evaluated
  split
  · exact compositeEvaluation s
  · exact (compositeEvaluation s).trans (restore _)

theorem BoundaryFrame.act {a : BoundaryAct} (h : ∀ b, a ≠ .step b) (s : State) :
    BoundaryFrame s (boundaryAct reports clips rest a s) := by
  cases a with
  | level i => exact levelPath reports i s
  | clips => exact takeClipCount clips s
  | evaluation => exact evaluated rest.isEmpty s
  | bit i => exact handBit i s
  | step b => exact absurd rfl (h b)

/-- The acts of a boundary up to those of the tail. -/
def boundaryUpTo (reports : Vector (Option Nat) 12) (clips : Nat) (tail : List BoundaryAct) : List BoundaryAct → State → State
  | [], s => s
  | a :: l, s => boundaryUpTo reports clips tail l (boundaryAct reports clips (l ++ tail) a s)

theorem boundaryRun_append (l tail : List BoundaryAct) (s : State) : boundaryRun reports clips (l ++ tail) s =
    boundaryRun reports clips tail (boundaryUpTo reports clips tail l s) := by
  induction l generalizing s with
  | nil => rfl
  | cons a l ih => exact ih _

theorem boundaryRun_eq_upTo (l : List BoundaryAct) (s : State) : boundaryRun reports clips l s = boundaryUpTo reports clips [] l s := by
  have h := boundaryRun_append (reports := reports) (clips := clips) l [] s
  rwa [List.append_nil] at h

/-- What each of some acts keeps, their run keeps. -/
theorem boundaryUpTo_keeps {P : State → Prop} {l tail : List BoundaryAct}
    (h : ∀ a ∈ l, ∀ rest s, P s → P (boundaryAct reports clips rest a s)) (hs : P s) : P (boundaryUpTo reports clips tail l s) := by
  induction l generalizing s with
  | nil => exact hs
  | cons a l ih => exact ih (fun b hb => h b (List.mem_cons_of_mem a hb)) (h a List.mem_cons_self _ s hs)

theorem boundaryRun_keeps_of {P : State → Prop} {l : List BoundaryAct}
    (h : ∀ a ∈ l, ∀ rest s, P s → P (boundaryAct reports clips rest a s)) (hs : P s) : P (boundaryRun reports clips l s) := by
  rw [boundaryRun_eq_upTo]
  exact boundaryUpTo_keeps h hs

theorem BoundaryFrame.upTo {l tail : List BoundaryAct} (h : PlainOrder l) (s : State) :
    BoundaryFrame s (boundaryUpTo reports clips tail l s) :=
  boundaryUpTo_keeps (P := BoundaryFrame s) (fun _ ha _ _ ht => ht.trans (act (fun b hb => h b (hb ▸ ha)) _)) (refl s)

theorem BoundaryFrame.run {l : List BoundaryAct} (h : PlainOrder l) (s : State) :
    BoundaryFrame s (boundaryRun reports clips l s) := by
  rw [boundaryRun_eq_upTo]
  exact upTo h s

/-! ### The opening of a boundary (R7, R10, R13, R116, R119, R158) -/

theorem blockReports_get (s : State) (i : PathIx) : (blockReports s)[i.val] = (s.rxSide i).report := by
  simp [blockReports]

theorem openBoundary_rxSide (s : State) (i : PathIx) : (openBoundary s).rxSide i = (s.rxSide i).close := by
  simp [openBoundary, restartClips, takePending, closeBlock, monitorReport, surveyReport, tickTime, State.rxSide]

theorem openBoundary_tx (s : State) (i : PathIx) : (openBoundary s).txSide i = (s.txSide i).takeSet (s.path i).output := by
  simp [openBoundary, restartClips, takePending, closeBlock, monitorReport, surveyReport, tickTime, State.txSide, State.path,
    PathRec.takeReport]

theorem openBoundary_frame (s : State) : openBoundary s = { s with
    timing := s.timing.tick, rx := (openBoundary s).rx, tx := (openBoundary s).tx
    composite := { s.composite with clips := 0 }, paths := (openBoundary s).paths
    builder := { s.builder with frameTimer := s.builder.frameTimer + 1 }
    survey := { s.survey with rx := (openBoundary s).survey.rx, dwell := (openBoundary s).survey.dwell }
    mon := { s.mon with rx := s.mon.rx.close, visit := (openBoundary s).mon.visit } } := rfl

/-- w with all that a boundary may have written as it stands in t. -/
def State.withBoundary (t w : State) : State :=
  { w with
    timing := t.timing, rx := t.rx, tx := t.tx, composite := t.composite, builder := t.builder, paths := t.paths
    gov := t.gov
    survey := { w.survey with rx := t.survey.rx, dwell := t.survey.dwell }
    mon := { w.mon with rx := t.mon.rx, visit := t.mon.visit, verdicts := t.mon.verdicts }
    lines := { t.lines with permit := w.lines.permit } }

theorem BoundaryFrame.withBoundary (h : BoundaryFrame s t) : t = t.withBoundary s :=
  (congrArg t.withBoundary h.frame).trans rfl

theorem openBoundary_withBoundary (s t : State) : t.withBoundary (openBoundary s) = t.withBoundary s := by
  have h := congrArg t.withBoundary (openBoundary_frame s)
  generalize openBoundary s = o at *
  exact h.trans rfl

theorem BoundaryFrame.whole (h : BoundaryFrame (openBoundary s) t) : t = t.withBoundary s :=
  h.withBoundary.trans (openBoundary_withBoundary s t)

theorem RxSide.close_eq (r : RxSide) : r.close =
    { r with
      sum := 0, count := 0, warmUp := false
      latest := if r.warmUp then r.latest else some (r.sum / 256) } := by
  rw [RxSide.close, RxSide.report]
  cases r.warmUp <;> rfl

theorem takeSet_eq (output : Option Slot) (x : TxSide) : x.takeSet output =
    { x with
      inUse := x.pendingSet, recordSlot := output
      channel := if x.pendingSet.cond = .full then x.channel else ⟨0, 0⟩ } := by
  rw [TxSide.takeSet, channelFor_eq]

end Sys2Proof.Machine

namespace Sys2Proof

open Machine

/-- Settles O9: the opening writes the time and the ports, and no act of the boundary writes them again. -/
theorem boundaryTimeAndPorts : Obligations.BoundaryTimeAndPorts := by
  intro order s hplain
  rw [answers_iff, effect, blockBoundary]
  have hrun : BoundaryFrame (openBoundary s) (boundaryRun (blockReports s) s.composite.clips (boundaryOrder order) (openBoundary s)) :=
    BoundaryFrame.run (boundaryOrder_plain hplain) _
  generalize boundaryRun (blockReports s) s.composite.clips (boundaryOrder order) (openBoundary s) = t at hrun ⊢
  have hrx (i : PathIx) : t.rxSide i = (s.rxSide i).close := by rw [hrun.rxSide, openBoundary_rxSide]
  have htx (i : PathIx) := hrun.tx i
  simp only [openBoundary_tx, takeSet_eq] at htx
  have hwhole := hrun.whole
  obtain ⟨hframe, htimer, -⟩ := hrun
  refine ⟨by rw [hframe]; rfl, ?_, htimer, by rw [hframe]; rfl, fun i => (hrx i).trans (RxSide.close_eq _), htx, ?_,
    by rw [hframe]; rfl, hwhole⟩
  · have hsecs : t.timing.secs = s.timing.tick.secs := by rw [hframe]; rfl
    rw [hsecs, Timing.tick]
    simp only [wholeSecondAt, beq_iff_eq]
  · have hsurvey : t.survey.rx = closeSurvey s.station s.survey.rx := by rw [hframe]; rfl
    rw [hsurvey, closeSurvey_warmUp, State.unloaded]
    cases s.station <;> rfl

end Sys2Proof
end
section
/-! PROOFS. The path records through a block boundary: each act has its place once, and the level controller's act takes the
path's block report (O10). -/

namespace Sys2Proof.Machine

open Sys2Proof

variable {s t u : State} {i j : PathIx} {reports : Vector (Option Nat) 12} {clips : Nat} {rest order : List BoundaryAct}
  {p q r : PathRec}

/-! ### Each act once -/

theorem all_nodup : BoundaryAct.all.Nodup := by decide +kernel

theorem mem_all {a : BoundaryAct} (h : ∀ b, a ≠ .step b) : a ∈ BoundaryAct.all := by
  unfold BoundaryAct.all BoundaryAct.levels BoundaryAct.bits
  cases a with
  | level i => simp [mem_indices]
  | clips => simp
  | evaluation => simp
  | bit i => simp [mem_indices]
  | step b => exact absurd rfl (h b)

theorem filter_own (h : PlainOrder order) : order.filter BoundaryAct.isOwn = order := by
  rw [List.filter_eq_self]
  intro a ha
  cases a with
  | step b => exact absurd ha (h b)
  | level i => rfl
  | clips => rfl
  | evaluation => rfl
  | bit i => rfl

theorem orderOk_perm (h : PlainOrder order) (hok : orderOk order = true) : order.Perm BoundaryAct.all := by
  rw [orderOk, filter_own h] at hok
  exact List.isPerm_iff.mp hok

theorem boundaryOrder_perm (h : PlainOrder order) : (boundaryOrder order).Perm BoundaryAct.all := by
  unfold boundaryOrder
  split
  · next hok => exact orderOk_perm h hok
  · exact List.Perm.refl _

/-- An act of the boundary with the acts before it and behind it. -/
theorem order_split {l : List BoundaryAct} (hperm : l.Perm BoundaryAct.all) {a : BoundaryAct} (ha : ∀ b, a ≠ .step b) :
    ∃ first last, l = first ++ a :: last := List.append_of_mem (hperm.mem_iff.mpr (mem_all ha))

/-- No act stands twice. -/
theorem order_once {a : BoundaryAct} {first last : List BoundaryAct} (hperm : (first ++ a :: last).Perm BoundaryAct.all) :
    a ∉ first ∧ a ∉ last := by
  have hnd := (hperm.nodup_iff).mpr all_nodup
  obtain ⟨-, hlast, hcross⟩ := List.nodup_append.mp hnd
  exact ⟨fun h => hcross a h a List.mem_cons_self rfl, (List.nodup_cons.mp hlast).1⟩

theorem plain_left {l₁ l₂ : List BoundaryAct} (h : PlainOrder (l₁ ++ l₂)) : PlainOrder l₁ :=
  fun b hb => h b (List.mem_append_left l₂ hb)

theorem plain_right {l₁ l₂ : List BoundaryAct} (h : PlainOrder (l₁ ++ l₂)) : PlainOrder l₂ :=
  fun b hb => h b (List.mem_append_right l₁ hb)

theorem plain_tail {a : BoundaryAct} {l : List BoundaryAct} (h : PlainOrder (a :: l)) : PlainOrder l :=
  fun b hb => h b (List.mem_cons_of_mem a hb)

/-! ### What the governor's acts write in a path's record -/

/-- The record has at most another shed flag, last event and condition. -/
def PathRec.Turned (p q : PathRec) : Prop := q = { p with shed := q.shed, event := q.event, cond := q.cond }

theorem PathRec.Turned.refl (p : PathRec) : p.Turned p := rfl

theorem PathRec.Turned.trans (h : p.Turned q) (g : q.Turned r) : p.Turned r :=
  Eq.trans g (congrArg (fun x : PathRec => { x with shed := r.shed, event := r.event, cond := r.cond }) h)

theorem PathRec.Turned.of_eq (h : q = p) : p.Turned q := h ▸ .refl p

theorem PathRec.Turned.fields (h : p.Turned q) : q.state = p.state ∧ q.g = p.g ∧ q.m = p.m ∧ q.acquired = p.acquired ∧
    q.check = p.check ∧ q.lowCarrier = p.lowCarrier := by
  unfold Turned at h
  rw [h]
  exact ⟨rfl, rfl, rfl, rfl, rfl, rfl⟩

theorem refreshPath_turned (s : State) (i j : PathIx) : (s.path j).Turned ((refreshPath i s).path j) := by
  rcases eq_or_ne j i with rfl | h
  · rw [refreshPath_path_self]
    rfl
  · rw [refreshPath_path_ne _ h]
    rfl

theorem shedOne_turned (s : State) (i j : PathIx) : (s.path j).Turned ((shedOne i s).path j) := by
  refine PathRec.Turned.trans ?_ (refreshPath_turned _ i j)
  rcases eq_or_ne j i with rfl | h
  · rw [recordEvent_path_self, State.path_modPath_self]
    rfl
  · rw [recordEvent_path_ne _ _ h, State.path_modPath_ne _ _ _ h]
    rfl

theorem shedLoop_turned (n : Nat) (s : State) (j : PathIx) : (s.path j).Turned ((shedLoop n s).path j) := by
  induction n generalizing s with
  | zero => exact .refl _
  | succ n ih =>
    unfold shedLoop
    split
    · split
      · exact .refl _
      · exact (shedOne_turned s _ j).trans (ih _)
    · exact .refl _

theorem clearShedFlags_path (s : State) (j : PathIx) :
    (clearShedFlags s).path j = if (s.path j).state = .on then s.path j else { s.path j with shed := false } := by
  have h : (clearShedFlags s).path j = if (s.path j).state == .on then s.path j else { s.path j with shed := false } :=
    updAll_get s.paths (fun _ p => if p.state == .on then p else { p with shed := false }) j
  rw [h]
  exact if_congr beq_iff_eq rfl rfl

theorem clearShedFlags_turned (s : State) (j : PathIx) : (s.path j).Turned ((clearShedFlags s).path j) := by
  rw [clearShedFlags_path]
  split <;> exact rfl

theorem restoreTest_path (s : State) (j : PathIx) : (restoreTest s).path j = s.path j := by
  unfold restoreTest
  split
  · rfl
  · split
    · split <;> rfl
    · rfl

theorem raiseCap_path (s : State) (j : PathIx) : (raiseCap s).path j = s.path j := rfl

/-- The path records of an evaluation are those that its shed loop leaves. -/
theorem compositeEvaluation_path (s : State) (j : PathIx) :
    (compositeEvaluation s).path j = (shedLoop 12 (clearShedFlags s)).path j := by
  rw [compositeEvaluation, raiseCap_path, applyBackoff_path, restoreTest_path]

theorem compositeEvaluation_turned (s : State) (j : PathIx) : (s.path j).Turned ((compositeEvaluation s).path j) := by
  rw [compositeEvaluation_path]
  exact (clearShedFlags_turned s j).trans (shedLoop_turned 12 _ j)

theorem restoreOne_turned (s : State) (i j : PathIx) : (s.path j).Turned ((restoreOne i s).path j) := by
  rw [restoreOne_eq]
  refine PathRec.Turned.trans ?_ (refreshPath_turned _ i j)
  rcases eq_or_ne j i with rfl | h
  · rw [unshed_path_self]
    rfl
  · rw [unshed_path_ne _ h]
    rfl

theorem restore_turned (s : State) (j : PathIx) : (s.path j).Turned ((restore s).path j) := by
  obtain h | ⟨i, -, -, h⟩ := restore_cases s <;> rw [h]
  · exact .refl _
  · rw [applyBackoff_path]
    exact restoreOne_turned s i j

theorem evaluated_turned (last : Bool) (s : State) (j : PathIx) : (s.path j).Turned ((evaluated last s).path j) := by
  unfold evaluated
  split
  · exact compositeEvaluation_turned s j
  · exact (compositeEvaluation_turned s j).trans (restore_turned _ j)

theorem takeClipCount_fault_path (hclips : s.params.clipLimit < clips) (hsite : s.gov.site = .transmitting) (j : PathIx) :
    (takeClipCount clips s).path j = { s.path j with cond := .off } := by
  have hpath (w : State) : (silencePending w).path j = w.path j := rfl
  rw [takeClipCount_fault hclips hsite, hpath, siteLevels_path, condOf_silenced (faulted_derived s)]
  rfl

theorem takeClipCount_turned (clips : Nat) (s : State) (j : PathIx) : (s.path j).Turned ((takeClipCount clips s).path j) := by
  by_cases h : s.params.clipLimit < clips ∧ s.gov.site = .transmitting
  · rw [takeClipCount_fault_path h.1 h.2]
    rfl
  · rw [takeClipCount_quiet (by rwa [not_and_or, Nat.not_lt] at h)]
    exact .refl _

/-- Of the boundary's own acts only the report of a path writes the rest of its record. -/
theorem act_turned {a : BoundaryAct} (hown : ∀ b, a ≠ .step b) (hne : a ≠ .level i) (s : State) :
    (s.path i).Turned ((boundaryAct reports clips rest a s).path i) := by
  cases a with
  | level j => exact .of_eq (levelPath_ne reports s fun h => hne (h ▸ rfl))
  | clips => exact takeClipCount_turned clips s i
  | evaluation => exact evaluated_turned rest.isEmpty s i
  | bit j => exact .refl _
  | step b => exact absurd rfl (hown b)

theorem upTo_turned {l tail : List BoundaryAct} (hplain : PlainOrder l) (hne : .level i ∉ l) (s : State) :
    (s.path i).Turned ((boundaryUpTo reports clips tail l s).path i) :=
  boundaryUpTo_keeps (P := fun u => (s.path i).Turned (u.path i)) (fun _ ha _ _ ht =>
    ht.trans (act_turned (fun b hb => hplain b (hb ▸ ha)) (fun h => hne (h ▸ ha)) _)) (.refl _)

theorem run_turned {l : List BoundaryAct} (hplain : PlainOrder l) (hne : .level i ∉ l) (s : State) :
    (s.path i).Turned ((boundaryRun reports clips l s).path i) := by
  rw [boundaryRun_eq_upTo]
  exact upTo_turned hplain hne s

/-- A path's record through a boundary: the opening takes its report, the level controller its measurement, and the governor
turns its condition. -/
theorem boundary_path {l : List BoundaryAct} (hplain : PlainOrder l) (hperm : l.Perm BoundaryAct.all) (s : State) (i : PathIx) :
    ∃ r, ((s.path i).takeReport s.params.mFloor (s.rxSide i).report).Turned r ∧
      (r.levelled s.params (s.carryOf i).target (s.rxSide i).report).Turned
        ((boundaryRun (blockReports s) clips l (openBoundary s)).path i) := by
  obtain ⟨first, last, rfl⟩ := order_split hperm (a := .level i) (fun b => by simp)
  obtain ⟨hfirst, hlast⟩ := order_once hperm
  have hframe := BoundaryFrame.upTo (reports := blockReports s) (clips := clips) (tail := .level i :: last)
    (plain_left hplain) (openBoundary s)
  have hturned := upTo_turned (reports := blockReports s) (clips := clips) (tail := .level i :: last)
    (plain_left hplain) hfirst (openBoundary s)
  rw [boundaryRun_append, boundaryRun_cons]
  generalize boundaryUpTo (blockReports s) clips (.level i :: last) first (openBoundary s) = u at *
  rw [openBoundary_path] at hturned
  have hparams : u.params = s.params := by rw [hframe.frame]; rfl
  have hcarry : u.carryOf i = s.carryOf i := by rw [State.carryOf, hframe.frame]; rfl
  have hlevel : (boundaryAct (blockReports s) clips last (.level i) u).path i =
      (u.path i).levelled s.params (s.carryOf i).target (s.rxSide i).report := by
    rw [boundaryAct, levelPath_self, hparams, hcarry, blockReports_get]
  refine ⟨u.path i, hturned, ?_⟩
  rw [← hlevel]
  exact run_turned (plain_tail (plain_right hplain)) hlast _

/-- x with all that a boundary may have written in a path's record as it stands in q. -/
def PathRec.withBoundary (q x : PathRec) : PathRec :=
  { x with
    g := q.g, m := q.m, acquired := q.acquired, check := q.check, lowCarrier := q.lowCarrier, shed := q.shed
    event := q.event, cond := q.cond }

theorem PathRec.withBoundary_eq {params : Params} {target mFloor : Nat} {report : Option Nat}
    (hr : (p.takeReport mFloor report).Turned r) (hq : (r.levelled params target report).Turned q) : q = q.withBoundary p := by
  have hlevel := levelled_writes params target report r
  calc q = q.withBoundary q := rfl
    _ = q.withBoundary (r.levelled params target report) := (congrArg q.withBoundary hq).trans rfl
    _ = q.withBoundary r := (congrArg q.withBoundary hlevel).trans rfl
    _ = q.withBoundary (p.takeReport mFloor report) := (congrArg q.withBoundary hr).trans rfl
    _ = q.withBoundary p := rfl

theorem levelled_fields (params : Params) (target : Nat) (report : Option Nat) (r : PathRec) :
    (r.levelled params target report).state = r.state ∧ (r.levelled params target report).check = r.check ∧
    (r.levelled params target report).lowCarrier = r.lowCarrier := by
  rw [levelled_writes]
  exact ⟨rfl, rfl, rfl⟩

/-! ### What a report makes of a record (R116, R119, R130 to R132) -/

theorem levelled_idle (p : Params) (target : Nat) {report : Option Nat} (h : watching r.state = false ∨ report = none) :
    r.levelled p target report = r := by
  cases report with
  | none => rfl
  | some m => exact if_neg (by rw [h.resolve_right (by simp)]; decide)

theorem levelled_takes (p : Params) (target m : Nat) (h : watching r.state = true) :
    r.levelled p target (some m) = r.takeLevel p target m := if_pos h

theorem takeLevel_low {p : Params} {target m : Nat} (h : m < p.mFloor) : r.takeLevel p target m = { r with m := m } := if_pos h

theorem takeLevel_acquired {p : Params} {target m : Nat} (h : p.mFloor ≤ m) (ha : r.acquired = true) : r.takeLevel p target m =
    { r with m := m, g := desiredGain p target m, acquired := false } := by
  rw [PathRec.takeLevel, if_neg (by omega), if_pos ha]

theorem takeLevel_slews {p : Params} {target m : Nat} (h : p.mFloor ≤ m) (ha : r.acquired = false) : r.takeLevel p target m =
    { r with m := m, g := slewGain r.g (desiredGain p target m) } := by
  rw [PathRec.takeLevel, if_neg (by omega), if_neg (by rw [ha]; decide)]

theorem takeReport_check {mFloor m n : Nat} (hcheck : p.check = .counting n) (hn : n < 20) :
    (p.takeReport mFloor (some m)).check = if mFloor ≤ m then .passed else .counting (n + 1) := by
  simp [PathRec.takeReport, hcheck, CarrierCheck.takeReport, Nat.not_le.mpr hn]

theorem takeReport_check_warmUp {mFloor : Nat} (hcheck : p.check = .warmUp) : (p.takeReport mFloor none).check = .counting 0 := by
  simp [PathRec.takeReport, hcheck, CarrierCheck.takeReport]

theorem takeReport_lowCarrier {mFloor m : Nat} (hw : watching p.state = true) (hlow : p.lowCarrier < 50) :
    (p.takeReport mFloor (some m)).lowCarrier = if m < mFloor then p.lowCarrier + 1 else 0 := by
  simp [PathRec.takeReport, hw, lowCarrierCount, Nat.not_le.mpr hlow]

theorem takeReport_lowCarrier_idle {mFloor : Nat} {report : Option Nat} (h : watching p.state = false ∨ report = none) :
    (p.takeReport mFloor report).lowCarrier = p.lowCarrier := by
  rw [PathRec.takeReport]
  rcases h with h | h
  · simp [h]
  · rw [h]
    simp [lowCarrierCount]

end Sys2Proof.Machine

namespace Sys2Proof

open Machine

/-- Settles O10: the opening takes the report into check and count, and the level controller's act into the gain. -/
theorem boundaryTakesReports : Obligations.BoundaryTakesReports := by
  intro order s i hplain
  rw [answers_iff, effect, blockBoundary]
  obtain ⟨r, hr, hq⟩ := boundary_path (clips := s.composite.clips) (boundaryOrder_plain hplain) (boundaryOrder_perm hplain) s i
  generalize boundaryRun (blockReports s) s.composite.clips (boundaryOrder order) (openBoundary s) = t at hq ⊢
  have hwarm (h : (s.rxSide i).warmUp = true) : (s.rxSide i).report = none := if_pos h
  have hmeasured (h : (s.rxSide i).warmUp = false) : (s.rxSide i).report = some ((s.rxSide i).sum / 256) :=
    if_neg (by rw [h]; decide)
  intro p q M
  have hsame := PathRec.withBoundary_eq hr hq
  obtain ⟨-, hg, hm, hacquired, hcheck, hlow⟩ := hq.fields
  obtain ⟨hstate, hrg, hrm, hracquired, hrcheck, hrlow⟩ := hr.fields
  obtain ⟨-, hlcheck, hllow⟩ := levelled_fields s.params (s.carryOf i).target (s.rxSide i).report r
  have hcheck := hcheck.trans (hlcheck.trans hrcheck)
  have hlow := hlow.trans (hllow.trans hrlow)
  refine ⟨hsame, fun hidle => ?_, fun hw hwarm' => ?_, fun n hn hcounting hwarm' => ?_, fun hwarming hwarm' => ?_⟩
  · have hnone : watching p.state = false ∨ (s.rxSide i).report = none := hidle.imp_right hwarm
    rw [levelled_idle _ _ (hnone.imp_left fun h => (congrArg watching hstate).trans h)] at hg hm hacquired
    exact ⟨hg.trans hrg, hm.trans hrm, hacquired.trans hracquired,
      hlow.trans (takeReport_lowCarrier_idle hnone)⟩
  · rw [hmeasured hwarm', levelled_takes _ _ _ ((congrArg watching hstate).trans hw)] at hg hm hacquired
    rw [hmeasured hwarm'] at hlow
    refine ⟨?_, fun hfloor => ?_, fun hfloor => ?_, fun hcount => hlow.trans (takeReport_lowCarrier hw hcount)⟩
    · refine hm.trans ?_
      unfold PathRec.takeLevel
      split
      · rfl
      · split <;> rfl
    · rw [takeLevel_low hfloor] at hg hacquired
      exact ⟨hg.trans hrg, hacquired.trans hracquired⟩
    · intro want slew
      cases ha : p.acquired with
      | true =>
        rw [takeLevel_acquired hfloor (hracquired.trans ha)] at hg hacquired
        exact ⟨hacquired, fun _ => hg, nofun, nofun, nofun⟩
      | false =>
        rw [takeLevel_slews hfloor (hracquired.trans ha)] at hg hacquired
        have hslewed : q.g = slewGain p.g want := hg.trans (by rw [hrg]; rfl)
        refine ⟨hacquired.trans (hracquired.trans ha), nofun, fun _ h => ?_, fun _ h => ?_, fun _ h => ?_⟩
        · rw [hslewed, slewGain, if_pos h]
        · rw [hslewed, slewGain, if_neg (by omega), if_pos h]
        · rw [hslewed, slewGain, if_neg (by omega), if_neg (by omega)]
  · rw [hcheck, hmeasured hwarm']
    exact takeReport_check hcounting hn
  · rw [hcheck, hwarm hwarm']
    exact takeReport_check_warmUp hwarming

end Sys2Proof
end
section
/-! PROOFS. The composite governor through a block boundary: what its evaluation leaves and what the acts behind it keep
(O13). -/

namespace Sys2Proof.Machine

open Sys2Proof

variable {s t u : State} {i j : PathIx} {reports : Vector (Option Nat) 12} {clips : Nat} {rest order l : List BoundaryAct}

/-! ### What an evaluation leaves of the governor -/

/-- g with the budget and the restore test of h. -/
def Governor.withBudget (h g : Governor) : Governor :=
  { g with
    backoff := h.backoff, cap := h.cap, evaluationCap := h.evaluationCap, restoreCandidate := h.restoreCandidate
    restoreCount := h.restoreCount, amplitudes := h.amplitudes }

/-- The faults, deadlines and the site state of the governor stand. -/
def Governor.KeepsFaults (g h : Governor) : Prop := h = h.withBudget g

theorem Governor.KeepsFaults.refl (g : Governor) : g.KeepsFaults g := rfl

theorem Governor.KeepsFaults.trans {g h k : Governor} (hg : g.KeepsFaults h) (hh : h.KeepsFaults k) : g.KeepsFaults k :=
  Eq.trans hh ((congrArg k.withBudget hg).trans rfl)

theorem shedOne_gov (i : PathIx) (s : State) : (shedOne i s).gov = s.gov := (refreshPath_act _ i).gov_eq

theorem shedLoop_gov (n : Nat) (s : State) : (shedLoop n s).gov = s.gov := by
  induction n generalizing s with
  | zero => rfl
  | succ n ih =>
    unfold shedLoop
    split
    · split
      · rfl
      · rw [ih, shedOne_gov]
    · rfl

theorem clearShedFlags_gov (s : State) : (clearShedFlags s).gov = s.gov := rfl

theorem restoreTest_gov (s : State) : (restoreTest s).gov =
    { s.gov with restoreCandidate := (restoreTest s).gov.restoreCandidate, restoreCount := (restoreTest s).gov.restoreCount } := by
  unfold restoreTest
  split
  · rfl
  · split
    · split <;> rfl
    · rfl

theorem restoreTest_frame (s : State) : restoreTest s = { s with gov := (restoreTest s).gov } := by
  unfold restoreTest
  split
  · rfl
  · split
    · split <;> rfl
    · rfl

theorem compositeEvaluation_gov (s : State) : (compositeEvaluation s).gov =
    { s.gov with
      restoreCandidate := (restoreTest (shedLoop 12 (clearShedFlags s))).gov.restoreCandidate
      restoreCount := (restoreTest (shedLoop 12 (clearShedFlags s))).gov.restoreCount
      backoff := min (computedBackoff (compositeEvaluation s)) s.gov.cap, evaluationCap := s.gov.cap
      amplitudes := Vector.ofFn fun i => nominalAmplitude ((compositeEvaluation s).path i)
      cap := min 256 (s.gov.cap + 8) } := by
  have hgov : (restoreTest (shedLoop 12 (clearShedFlags s))).gov =
      { s.gov with
        restoreCandidate := (restoreTest (shedLoop 12 (clearShedFlags s))).gov.restoreCandidate
        restoreCount := (restoreTest (shedLoop 12 (clearShedFlags s))).gov.restoreCount } := by
    have h := restoreTest_gov (shedLoop 12 (clearShedFlags s))
    rw [shedLoop_gov, clearShedFlags_gov] at h
    exact h
  have hraise (w : State) : (raiseCap w).gov = { w.gov with cap := min 256 (w.gov.cap + 8) } := rfl
  have hcap : (restoreTest (shedLoop 12 (clearShedFlags s))).gov.cap = s.gov.cap := by rw [hgov]
  have hfactor : computedBackoff (compositeEvaluation s) = computedBackoff (restoreTest (shedLoop 12 (clearShedFlags s))) := by
    refine computedBackoff_congr (fun i => ?_) ?_
    · rw [compositeEvaluation, raiseCap_path, applyBackoff_path]
    · rw [compositeEvaluation]
      generalize restoreTest (shedLoop 12 (clearShedFlags s)) = x
      rfl
  have hpath (i : PathIx) : (compositeEvaluation s).path i = (restoreTest (shedLoop 12 (clearShedFlags s))).path i := by
    rw [compositeEvaluation, raiseCap_path, applyBackoff_path]
  rw [hfactor]
  simp only [hpath]
  rw [compositeEvaluation]
  rw [hraise, applyBackoff_gov, hcap]
  generalize restoreTest (shedLoop 12 (clearShedFlags s)) = x at *
  rw [hgov]

theorem compositeEvaluation_keepsFaults (s : State) : s.gov.KeepsFaults (compositeEvaluation s).gov := by
  rw [compositeEvaluation_gov]
  rfl

theorem restoreOne_gov (i : PathIx) (s : State) :
    (restoreOne i s).gov = { s.gov with restoreCandidate := none, restoreCount := 0 } := by
  rw [restoreOne_eq, (refreshPath_act _ i).gov_eq]
  rfl

theorem restore_keepsFaults (s : State) : s.gov.KeepsFaults (restore s).gov := by
  obtain h | ⟨i, -, -, h⟩ := restore_cases s <;> rw [h]
  · exact .refl _
  · rw [applyBackoff_gov, restoreOne_gov]
    rfl

theorem evaluated_keepsFaults (last : Bool) (s : State) : s.gov.KeepsFaults (evaluated last s).gov := by
  unfold evaluated
  split
  · exact compositeEvaluation_keepsFaults s
  · exact (compositeEvaluation_keepsFaults s).trans (restore_keepsFaults _)

/-! ### The budget after an evaluation (R10, R134, R137) -/

/-- The amplitudes, the applied factor under a cap and the pending sets are those of the conditions as they stand. -/
structure Settled (cap : Nat) (s : State) : Prop where
  amplitude : ∀ i : PathIx, s.amplitude i = nominalAmplitude (s.path i)
  backoff : s.gov.backoff = min (computedBackoff s) cap
  pending : ∀ i : PathIx, (s.txSide i).pendingSet = pendingFor s.gov.backoff (s.path i)

theorem settled_applyBackoff (cap : Nat) (s : State) : Settled cap (applyBackoff cap s) where
  amplitude i := applyBackoff_amplitude cap s i
  backoff := rfl
  pending i := by rw [applyBackoff_txSide]; rfl

theorem settled_raiseCap {cap : Nat} (h : Settled cap s) : Settled cap (raiseCap s) := ⟨h.amplitude, h.backoff, h.pending⟩

theorem settled_compositeEvaluation (s : State) : Settled s.gov.cap (compositeEvaluation s) := by
  have hcap : (restoreTest (shedLoop 12 (clearShedFlags s))).gov.cap = s.gov.cap := by
    rw [restoreTest_gov, shedLoop_gov, clearShedFlags_gov]
  have h := settled_raiseCap (settled_applyBackoff (restoreTest (shedLoop 12 (clearShedFlags s))).gov.cap
    (restoreTest (shedLoop 12 (clearShedFlags s))))
  rw [hcap] at h
  rw [compositeEvaluation]
  rw [hcap]
  exact h

theorem compositeEvaluation_evaluationCap (s : State) : (compositeEvaluation s).gov.evaluationCap = s.gov.cap := by
  rw [compositeEvaluation_gov]

theorem settled_evaluated (last : Bool) (s : State) : Settled s.gov.cap (evaluated last s) := by
  unfold evaluated
  split
  · exact settled_compositeEvaluation s
  · obtain h | ⟨i, -, -, h⟩ := restore_cases (compositeEvaluation s) <;> rw [h]
    · exact settled_compositeEvaluation s
    · rw [compositeEvaluation_evaluationCap]
      exact settled_applyBackoff _ _

theorem evaluated_cap (last : Bool) (s : State) : (evaluated last s).gov.cap = min 256 (s.gov.cap + 8) := by
  have hcap : (compositeEvaluation s).gov.cap = min 256 (s.gov.cap + 8) := by rw [compositeEvaluation_gov]
  unfold evaluated
  split
  · exact hcap
  · obtain h | ⟨i, -, -, h⟩ := restore_cases (compositeEvaluation s) <;> rw [h]
    · exact hcap
    · rw [applyBackoff_gov, restoreOne_gov]
      exact hcap

/-- The composite sum as the recorded amplitudes give it. -/
theorem sum_amplitudes (h : ∀ i : PathIx, t.amplitude i = nominalAmplitude (s.path i)) :
    ((indices 12).map fun i => t.amplitude i * t.amplitude i).sum = compositeSum s := by
  simp only [compositeSum, h]

/-- The applied factor keeps the composite within its budget. -/
theorem backoff_within (s : State) {b : Nat} (hb : b ≤ computedBackoff s) : b * b * compositeSum s ≤ s.params.pMax * 65536 ∧
    (b = 256 → compositeSum s ≤ s.params.pMax) ∧ b ≤ 256 := by
  rcases Nat.lt_or_ge s.params.pMax (compositeSum s) with h | h
  · rw [computedBackoff_of_lt h] at hb
    have hle := hb.trans (largestWithin_le _ _ _)
    exact ⟨(Nat.mul_le_mul_right _ (Nat.mul_le_mul hb hb)).trans (largestWithin_within _ _ _), fun he => by omega, by omega⟩
  · rw [computedBackoff_of_le h] at hb
    refine ⟨?_, fun _ => h, hb⟩
    calc b * b * compositeSum s ≤ 256 * 256 * s.params.pMax := Nat.mul_le_mul (Nat.mul_le_mul hb hb) h
      _ = s.params.pMax * 65536 := by ring

/-! ### What the other acts leave of the budget -/

/-- The budget and the restore test stand. -/
structure Governor.KeepsBudget (g h : Governor) : Prop where
  backoff : h.backoff = g.backoff := by rfl
  cap : h.cap = g.cap := by rfl
  evaluationCap : h.evaluationCap = g.evaluationCap := by rfl
  candidate : h.restoreCandidate = g.restoreCandidate := by rfl
  count : h.restoreCount = g.restoreCount := by rfl
  amplitudes : h.amplitudes = g.amplitudes := by rfl

theorem Governor.KeepsBudget.trans {g h k : Governor} (hg : g.KeepsBudget h) (hh : h.KeepsBudget k) : g.KeepsBudget k :=
  ⟨hh.backoff.trans hg.backoff, hh.cap.trans hg.cap, hh.evaluationCap.trans hg.evaluationCap, hh.candidate.trans hg.candidate,
    hh.count.trans hg.count, hh.amplitudes.trans hg.amplitudes⟩

theorem Governor.KeepsBudget.of_eq {g h : Governor} (he : h = g) : g.KeepsBudget h := he ▸ {}

theorem levelPath_gov (reports : Vector (Option Nat) 12) (i : PathIx) (s : State) : (levelPath reports i s).gov = s.gov := by
  rw [levelPath_eq]
  rfl

theorem handBit_gov (i : PathIx) (s : State) : (handBit i s).gov = s.gov := rfl

theorem recordFault_keepsBudget (now : Time) (g : Governor) : g.KeepsBudget (g.recordFault now) := by
  unfold Governor.recordFault
  dsimp only
  split <;> exact {}

theorem takeClipCount_fault_gov (hclips : s.params.clipLimit < clips) (hsite : s.gov.site = .transmitting) :
    (takeClipCount clips s).gov = (writeSite s.faulted.derivedSite s.faulted).gov := by
  have hgov (w : State) : (silencePending w).gov = w.gov := rfl
  rw [takeClipCount_fault hclips hsite, hgov, siteLevels_gov]

theorem takeClipCount_keepsBudget (clips : Nat) (s : State) : s.gov.KeepsBudget (takeClipCount clips s).gov := by
  by_cases h : s.params.clipLimit < clips ∧ s.gov.site = .transmitting
  · rw [takeClipCount_fault_gov h.1 h.2]
    have hwrite (w : State) (new : Site) : w.gov.KeepsBudget (writeSite new w).gov := {}
    exact (recordFault_keepsBudget s.now s.gov).trans (hwrite s.faulted _)
  · rw [takeClipCount_quiet (by rwa [not_and_or, Nat.not_lt] at h)]
    exact {}

/-- Of the boundary's own acts only the evaluation writes the budget. -/
theorem act_keepsBudget {a : BoundaryAct} (hown : ∀ b, a ≠ .step b) (hne : a ≠ .evaluation) (s : State) :
    s.gov.KeepsBudget (boundaryAct reports clips rest a s).gov := by
  cases a with
  | level j => exact .of_eq (levelPath_gov reports j s)
  | clips => exact takeClipCount_keepsBudget clips s
  | evaluation => exact absurd rfl hne
  | bit j => exact .of_eq (handBit_gov j s)
  | step b => exact absurd rfl (hown b)

theorem upTo_keepsBudget {tail : List BoundaryAct} (hplain : PlainOrder l) (hne : .evaluation ∉ l) (s : State) :
    s.gov.KeepsBudget (boundaryUpTo reports clips tail l s).gov :=
  boundaryUpTo_keeps (P := fun u => s.gov.KeepsBudget u.gov) (fun _ ha _ _ ht =>
    ht.trans (act_keepsBudget (fun b hb => hplain b (hb ▸ ha)) (fun h => hne (h ▸ ha)) _)) {}

theorem run_keepsBudget (hplain : PlainOrder l) (hne : .evaluation ∉ l) (s : State) :
    s.gov.KeepsBudget (boundaryRun reports clips l s).gov := by
  rw [boundaryRun_eq_upTo]
  exact upTo_keepsBudget hplain hne s

/-! ### Conditions behind the evaluation -/

/-- A report, a bit and the clip count leave a path's record but for the report's own fields, and only take it off the
air. -/
theorem act_cond {a : BoundaryAct} (hown : ∀ b, a ≠ .step b) (hne : a ≠ .evaluation) (s : State) :
    ((boundaryAct reports clips rest a s).path i).cond = (s.path i).cond ∨
      a = .clips ∧ ((boundaryAct reports clips rest a s).path i).cond = .off := by
  cases a with
  | level j =>
    left
    rcases eq_or_ne i j with rfl | h
    · rw [boundaryAct, levelPath_self, levelled_writes]
    · rw [boundaryAct, levelPath_ne _ _ h]
  | clips =>
    by_cases h : s.params.clipLimit < clips ∧ s.gov.site = .transmitting
    · right
      rw [boundaryAct, takeClipCount_fault_path h.1 h.2]
      exact ⟨rfl, rfl⟩
    · left
      rw [boundaryAct, takeClipCount_quiet (by rwa [not_and_or, Nat.not_lt] at h)]
  | evaluation => exact absurd rfl hne
  | bit j => exact .inl rfl
  | step b => exact absurd rfl (hown b)

theorem run_cond (hplain : PlainOrder l) (hne : .evaluation ∉ l) (s : State) :
    ((boundaryRun reports clips l s).path i).cond = (s.path i).cond ∨ ((boundaryRun reports clips l s).path i).cond = .off :=
  boundaryRun_keeps_of (P := fun u => (u.path i).cond = (s.path i).cond ∨ (u.path i).cond = .off) (fun a ha rest t ht => by
    rcases act_cond (reports := reports) (clips := clips) (rest := rest) (i := i) (fun b hb => hplain b (hb ▸ ha))
      (fun h => hne (h ▸ ha)) t with h | ⟨-, h⟩
    · rw [h]
      exact ht
    · exact .inr h) (.inl rfl)

/-! ### A boundary cut at its evaluation -/

/-- The state of a boundary before its evaluation. -/
def beforeEvaluation (first last : List BoundaryAct) (s : State) : State :=
  boundaryUpTo (blockReports s) s.composite.clips (.evaluation :: last) first (openBoundary s)

/-- The state of a boundary behind its evaluation. -/
def afterEvaluation (first last : List BoundaryAct) (s : State) : State :=
  evaluated last.isEmpty (beforeEvaluation first last s)

theorem blockBoundary_cut {first last : List BoundaryAct} (h : boundaryOrder order = first ++ .evaluation :: last) (s : State) :
    blockBoundary order s = boundaryRun (blockReports s) s.composite.clips last (afterEvaluation first last s) := by
  rw [blockBoundary, h, boundaryRun_append, boundaryRun_cons]
  rfl

theorem exists_cut (hplain : PlainOrder order) : ∃ first last, boundaryOrder order = first ++ .evaluation :: last :=
  order_split (boundaryOrder_perm hplain) fun b => by simp

theorem boundaryOrder_of_ok (hok : orderOk order = true) : boundaryOrder order = order := if_pos hok

theorem cut_last (hok : orderOk order = true) (hlast : order.getLast? = some .evaluation) :
    boundaryOrder order = order.dropLast ++ .evaluation :: [] := by
  rw [boundaryOrder_of_ok hok]
  exact (List.dropLast_append_getLast? _ hlast).symm

section cut
variable {first last : List BoundaryAct} (hplain : PlainOrder order) (hcut : boundaryOrder order = first ++ .evaluation :: last)
include hplain hcut

theorem cut_plain : PlainOrder first ∧ PlainOrder last := by
  have h := boundaryOrder_plain hplain
  rw [hcut] at h
  exact ⟨plain_left h, plain_tail (plain_right h)⟩

theorem cut_once : .evaluation ∉ first ∧ .evaluation ∉ last := by
  have h := boundaryOrder_perm hplain
  rw [hcut] at h
  exact order_once h

theorem before_frame (s : State) : BoundaryFrame (openBoundary s) (beforeEvaluation first last s) :=
  BoundaryFrame.upTo (cut_plain hplain hcut).1 _

theorem before_budget (s : State) : s.gov.KeepsBudget (beforeEvaluation first last s).gov :=
  upTo_keepsBudget (s := openBoundary s) (cut_plain hplain hcut).1 (cut_once hplain hcut).1

theorem after_frame (s : State) : BoundaryFrame (openBoundary s) (afterEvaluation first last s) :=
  (before_frame hplain hcut s).trans (BoundaryFrame.evaluated _ _)

theorem after_settled (s : State) : Settled s.gov.cap (afterEvaluation first last s) := by
  rw [← (before_budget hplain hcut s).cap]
  exact settled_evaluated _ _

theorem after_cap (s : State) : (afterEvaluation first last s).gov.cap = min 256 (s.gov.cap + 8) := by
  rw [← (before_budget hplain hcut s).cap]
  exact evaluated_cap _ _

theorem boundary_budget (s : State) : (afterEvaluation first last s).gov.KeepsBudget (blockBoundary order s).gov := by
  rw [blockBoundary_cut hcut]
  exact run_keepsBudget (cut_plain hplain hcut).2 (cut_once hplain hcut).2 _

theorem boundary_cond (s : State) (i : PathIx) :
    ((blockBoundary order s).path i).cond = ((afterEvaluation first last s).path i).cond ∨
      ((blockBoundary order s).path i).cond = .off := by
  rw [blockBoundary_cut hcut]
  exact run_cond (cut_plain hplain hcut).2 (cut_once hplain hcut).2 _

/-- A report taken before the evaluation is the one that stands behind the boundary. -/
theorem level_before (s : State) (h : .level i ∈ first) :
    ((afterEvaluation first last s).path i).Turned ((blockBoundary order s).path i) := by
  have hperm := boundaryOrder_perm hplain
  rw [hcut] at hperm
  have hnd := hperm.nodup_iff.mpr all_nodup
  obtain ⟨-, -, hcross⟩ := List.nodup_append.mp hnd
  have hlast : .level i ∉ last := fun hl => hcross _ h _ (List.mem_cons_of_mem _ hl) rfl
  rw [blockBoundary_cut hcut]
  exact run_turned (cut_plain hplain hcut).2 hlast _

/-- A report that is taken behind the evaluation is not the one that it uses. -/
theorem level_behind (s : State) (h : .level i ∈ last) :
    ((openBoundary s).path i).Turned ((afterEvaluation first last s).path i) := by
  have hperm := boundaryOrder_perm hplain
  rw [hcut] at hperm
  have hnd := hperm.nodup_iff.mpr all_nodup
  obtain ⟨-, -, hcross⟩ := List.nodup_append.mp hnd
  have hfirst : .level i ∉ first := fun hf => hcross _ hf _ (List.mem_cons_of_mem _ h) rfl
  exact (upTo_turned (cut_plain hplain hcut).1 hfirst _).trans (evaluated_turned _ _ _)

end cut

/-- With the evaluation last the boundary ends behind it. -/
theorem blockBoundary_last (hok : orderOk order = true) (hlast : order.getLast? = some .evaluation) (s : State) :
    blockBoundary order s = afterEvaluation order.dropLast [] s := by
  rw [blockBoundary_cut (cut_last hok hlast)]
  rfl

theorem amplitude_of_keeps (h : s.gov.KeepsBudget t.gov) (i : PathIx) : t.amplitude i = s.amplitude i := by
  rw [State.amplitude, State.amplitude, h.amplitudes]

theorem fullAmplitude_eq {p : PathRec} : fullAmplitude p = min 4095 (p.m * p.g / 1024) := rfl

theorem pendingFor_off {p : PathRec} {b : Nat} (h : p.cond = .off) : pendingFor b p = ⟨.off, 0, 0⟩ := by
  simp [pendingFor, h, TxSet.silent]

theorem pendingFor_tagOnly {p : PathRec} {b : Nat} (h : p.cond = .tagOnly) : pendingFor b p = ⟨.tagOnly, 0, b⟩ := by
  simp [pendingFor, h]

theorem pendingFor_full {p : PathRec} {b : Nat} (h : p.cond = .full) :
    pendingFor b p = ⟨.full, p.g * b / 256, fullAmplitude p * b / 256 / 16⟩ := by
  simp [pendingFor, h, effectiveAmplitude]

theorem nominalAmplitude_off {p : PathRec} (h : p.cond = .off) : nominalAmplitude p = 0 := by
  simp [nominalAmplitude, h]

/-- A path that is FULL behind the boundary has the full amplitude that its evaluation met. -/
theorem amplitude_at_cut {first last : List BoundaryAct} (hplain : PlainOrder order)
    (hcut : boundaryOrder order = first ++ .evaluation :: last) (hfull : ((blockBoundary order s).path i).cond = .full) :
    (blockBoundary order s).amplitude i = min 4095 (((afterEvaluation first last s).path i).m *
      ((afterEvaluation first last s).path i).g / 1024) := by
  have hcond : ((afterEvaluation first last s).path i).cond = .full := by
    rcases boundary_cond hplain hcut s i with h | h
    · rw [← h, hfull]
    · rw [h] at hfull
      cases hfull
  rw [amplitude_of_keeps (boundary_budget hplain hcut s), (after_settled hplain hcut s).amplitude, nominalAmplitude_full hcond,
    fullAmplitude_eq]

end Sys2Proof.Machine

namespace Sys2Proof

open Machine

/-- Settles O13: the evaluation settles the budget, and no act behind it writes it again. -/
theorem boundaryKeepsBudget : Obligations.BoundaryKeepsBudget := by
  intro order s hplain
  rw [answers_iff, effect]
  obtain ⟨first, last, hcut⟩ := exists_cut hplain
  have hsettled := after_settled hplain hcut s
  have hkeeps := boundary_budget hplain hcut s
  have hparams : (afterEvaluation first last s).params = s.params := by rw [(after_frame hplain hcut s).frame]; rfl
  have hamplitude (i : PathIx) : (blockBoundary order s).amplitude i = nominalAmplitude ((afterEvaluation first last s).path i) :=
    (amplitude_of_keeps hkeeps i).trans (hsettled.amplitude i)
  have hsum := sum_amplitudes hamplitude
  have hback : (blockBoundary order s).gov.backoff = min (computedBackoff (afterEvaluation first last s)) s.gov.cap :=
    hkeeps.backoff.trans hsettled.backoff
  obtain ⟨hwithin, hunit, hmost⟩ := backoff_within (afterEvaluation first last s)
    (b := (blockBoundary order s).gov.backoff) (hback ▸ Nat.min_le_left _ _)
  rw [hparams] at hwithin hunit
  refine ⟨?_, ?_, Nat.le_min.mpr ⟨hmost, hback ▸ Nat.min_le_right _ _⟩, hkeeps.cap.trans (after_cap hplain hcut s), fun i => ?_,
    fun hok hlast i => ?_, fun first last horder hok i hfull => ⟨fun hbefore => ?_, fun hbehind => ?_⟩⟩
  · rw [hsum]
    exact hwithin
  · intro h
    rw [hsum]
    exact hunit h
  · rw [hamplitude]
    exact nominalAmplitude_le _
  · have hset := after_settled hplain (cut_last hok hlast) s
    rw [blockBoundary_last hok hlast, hset.amplitude i, hset.pending i]
    exact ⟨fun h => ⟨nominalAmplitude_off h, pendingFor_off h⟩, fun h => ⟨nominalAmplitude_tagOnly h, pendingFor_tagOnly h⟩,
      fun h => ⟨nominalAmplitude_full h, by rw [pendingFor_full h, nominalAmplitude_full h]⟩⟩
  · have hcut := (boundaryOrder_of_ok hok).trans horder
    obtain ⟨-, hg, hm, -⟩ := (level_before hplain hcut s hbefore).fields
    rw [amplitude_at_cut hplain hcut hfull, hm, hg]
  · have hcut := (boundaryOrder_of_ok hok).trans horder
    obtain ⟨-, hg, hm, -⟩ := (level_behind hplain hcut s hbehind).fields
    rw [amplitude_at_cut hplain hcut hfull, hm, hg, openBoundary_path]
    rfl

end Sys2Proof
end
section
/-! PROOFS. Shedding: the order of the shed loop, where it stops, and the restore candidate (O14, O16). -/

namespace Sys2Proof.Machine

open Sys2Proof

variable {s t u : State} {i j k : PathIx} {reports : Vector (Option Nat) 12} {clips : Nat} {rest order l : List BoundaryAct}

/-! ### A choice made in ascending order -/

/-- A fold over ascending items that keeps the preferred of those that qualify. -/
theorem foldl_choice {n : Nat} {P : Fin n → Prop} {R : Fin n → Fin n → Prop} {f : Option (Fin n) → Fin n → Option (Fin n)}
    (hrefl : ∀ i, R i i) (htrans : ∀ i j k, R i j → R j k → R i k) (hskip : ∀ o i, ¬P i → f o i = o)
    (hfirst : ∀ i, P i → f none i = some i) (hpick : ∀ b i, P i → b < i → (f (some b) i = some i ∧ R i b) ∨ (f (some b) i = some b ∧ R b i))
    (l : List (Fin n)) (hl : l.Pairwise (· < ·)) (acc : Option (Fin n)) (hacc : ∀ b, acc = some b → ∀ j ∈ l, b < j) :
    (l.foldl f acc = none → acc = none ∧ ∀ j ∈ l, ¬P j) ∧
    (∀ b, l.foldl f acc = some b → (acc = some b ∨ P b) ∧ (∀ j ∈ l, P j → R b j) ∧ ∀ a, acc = some a → R b a) := by
  induction l generalizing acc with
  | nil =>
    refine ⟨fun h => ⟨h, fun j hj => by cases hj⟩, fun b hb => ⟨.inl hb, fun j hj => (by cases hj), fun a ha => ?_⟩⟩
    have hab : a = b := Option.some.inj (ha.symm.trans hb)
    exact hab ▸ hrefl a
  | cons i l ih =>
    obtain ⟨hi, hl⟩ := List.pairwise_cons.mp hl
    rw [List.foldl_cons]
    by_cases hP : P i
    · cases acc with
      | none =>
        rw [hfirst i hP]
        obtain ⟨hnone, hsome⟩ := ih hl (some i) fun b hb j hj => Option.some.inj hb ▸ hi j hj
        refine ⟨fun h => absurd (hnone h).1 (by simp), fun b hb => ?_⟩
        obtain ⟨hqual, hall, hpref⟩ := hsome b hb
        refine ⟨.inr (hqual.elim (fun h => Option.some.inj h ▸ hP) id), fun j hj hPj => ?_, fun a ha => by cases ha⟩
        rcases List.mem_cons.mp hj with rfl | hj
        · exact hpref j rfl
        · exact hall j hj hPj
      | some c =>
        have hc : c < i := hacc c rfl i List.mem_cons_self
        have hcl : ∀ j ∈ l, c < j := fun j hj => hacc c rfl j (List.mem_cons_of_mem i hj)
        rcases hpick c i hP hc with ⟨hf, hR⟩ | ⟨hf, hR⟩
        · rw [hf]
          obtain ⟨hnone, hsome⟩ := ih hl (some i) fun b hb j hj => Option.some.inj hb ▸ hi j hj
          refine ⟨fun h => absurd (hnone h).1 (by simp), fun b hb => ?_⟩
          obtain ⟨hqual, hall, hpref⟩ := hsome b hb
          have hbi := hpref i rfl
          refine ⟨.inr (hqual.elim (fun h => Option.some.inj h ▸ hP) id), fun j hj hPj => ?_, fun a ha => ?_⟩
          · rcases List.mem_cons.mp hj with rfl | hj
            · exact hbi
            · exact hall j hj hPj
          · exact htrans b i a hbi (Option.some.inj ha ▸ hR)
        · rw [hf]
          obtain ⟨hnone, hsome⟩ := ih hl (some c) fun b hb j hj => Option.some.inj hb ▸ hcl j hj
          refine ⟨fun h => absurd (hnone h).1 (by simp), fun b hb => ?_⟩
          obtain ⟨hqual, hall, hpref⟩ := hsome b hb
          refine ⟨hqual, fun j hj hPj => ?_, hpref⟩
          rcases List.mem_cons.mp hj with rfl | hj
          · exact htrans b c j (hpref c rfl) hR
          · exact hall j hj hPj
    · rw [hskip acc i hP]
      obtain ⟨hnone, hsome⟩ := ih hl acc fun b hb j hj => hacc b hb j (List.mem_cons_of_mem i hj)
      refine ⟨fun h => ⟨(hnone h).1, fun j hj => ?_⟩, fun b hb => ?_⟩
      · rcases List.mem_cons.mp hj with rfl | hj
        · exact hP
        · exact (hnone h).2 j hj
      · obtain ⟨hqual, hall, hpref⟩ := hsome b hb
        refine ⟨hqual, fun j hj hPj => ?_, hpref⟩
        rcases List.mem_cons.mp hj with rfl | hj
        · exact absurd hPj hP
        · exact hall j hj hPj

/-- The preferred of all items that qualify. -/
theorem foldl_choice_all {n : Nat} {P : Fin n → Prop} {R : Fin n → Fin n → Prop} {f : Option (Fin n) → Fin n → Option (Fin n)}
    (hrefl : ∀ i, R i i) (htrans : ∀ i j k, R i j → R j k → R i k) (hskip : ∀ o i, ¬P i → f o i = o)
    (hfirst : ∀ i, P i → f none i = some i)
    (hpick : ∀ b i, P i → b < i → (f (some b) i = some i ∧ R i b) ∨ (f (some b) i = some b ∧ R b i)) :
    ((indices n).foldl f none = none → ∀ j, ¬P j) ∧
    (∀ b, (indices n).foldl f none = some b → P b ∧ ∀ j, P j → R b j) := by
  obtain ⟨hnone, hsome⟩ := foldl_choice hrefl htrans hskip hfirst hpick (indices n) (indices_pairwise n) none
    (fun b hb => by cases hb)
  refine ⟨fun h j => (hnone h).2 j (mem_indices j), fun b hb => ?_⟩
  obtain ⟨hqual, hall, -⟩ := hsome b hb
  exact ⟨hqual.resolve_left (by simp), fun j => hall j (mem_indices j)⟩

/-! ### The order of importance (R135, R136) -/

/-- Path i is no more important than path j: a larger priority number, or the same and no lower an index. -/
def Behind (s : State) (i j : PathIx) : Prop :=
  (s.carryOf j).priority < (s.carryOf i).priority ∨ ((s.carryOf j).priority = (s.carryOf i).priority ∧ j ≤ i)

theorem Behind.refl (s : State) (i : PathIx) : Behind s i i := .inr ⟨rfl, le_rfl⟩

theorem Behind.trans (h : Behind s i j) (g : Behind s j k) : Behind s i k := by
  simp only [Behind, Fin.le_def] at *
  omega

theorem Behind.antisymm (h : Behind s i j) (g : Behind s j i) : i = j := by
  simp only [Behind, Fin.le_def] at *
  exact Fin.ext (by omega)

theorem Behind.strict (h : Behind s i j) (hne : i ≠ j) : (s.carryOf j).priority < (s.carryOf i).priority ∨
    ((s.carryOf j).priority = (s.carryOf i).priority ∧ j < i) := by
  have hval : i.val ≠ j.val := fun he => hne (Fin.ext he)
  simp only [Behind, Fin.le_def, Fin.lt_def] at *
  omega

theorem shedPath_spec (s : State) : (shedPath s = none → ∀ j, (s.path j).cond ≠ .full) ∧
    (∀ i, shedPath s = some i → (s.path i).cond = .full ∧ ∀ j, (s.path j).cond = .full → Behind s i j) := by
  refine foldl_choice_all (R := Behind s) (Behind.refl s) (fun _ _ _ => Behind.trans) (fun o i hi => ?_) (fun i hi => ?_)
    fun b i hi hlt => ?_
  · unfold shedChoice
    rw [if_neg (by simpa using hi)]
  · unfold shedChoice
    rw [if_pos (by simpa using hi)]
  · unfold shedChoice
    rw [if_pos (by simpa using hi)]
    simp only [Behind, Fin.le_def, Fin.lt_def] at *
    by_cases hp : (s.carryOf b).priority ≤ (s.carryOf i).priority
    · left
      rw [if_pos hp]
      exact ⟨rfl, by omega⟩
    · right
      rw [if_neg hp]
      exact ⟨rfl, by omega⟩

theorem restoreCandidate_spec (s : State) : (restoreCandidate s = none → ∀ j, ¬restorable (s.path j) = true) ∧
    (∀ i, restoreCandidate s = some i → restorable (s.path i) = true ∧ ∀ j, restorable (s.path j) = true → Behind s j i) := by
  refine foldl_choice_all (R := fun i j => Behind s j i) (Behind.refl s) (fun _ _ _ h g => g.trans h) (fun o i hi => ?_)
    (fun i hi => ?_) fun b i hi hlt => ?_
  · unfold restoreChoice
    rw [if_neg hi]
  · unfold restoreChoice
    rw [if_pos hi]
  · unfold restoreChoice
    rw [if_pos hi]
    simp only [Behind, Fin.le_def, Fin.lt_def] at *
    by_cases hp : (s.carryOf i).priority < (s.carryOf b).priority
    · left
      rw [if_pos hp]
      exact ⟨rfl, by omega⟩
    · right
      rw [if_neg hp]
      exact ⟨rfl, by omega⟩

/-! ### One path shed (R135) -/

theorem condOf_eq_full {site : Site} {p : PathRec} (h : condOf site p = .full) :
    site = .transmitting ∧ p.txFaultDeadline = none ∧ p.state = .on ∧ p.shed = false := by
  unfold condOf at h
  split at h
  · cases h
  · next hair =>
    rw [Bool.or_eq_true, not_or] at hair
    obtain ⟨hfault, hsite⟩ := hair
    split at h
    · next hon =>
      split at h
      · cases h
      · next hshed => exact ⟨by simpa using hsite, by simpa using hfault, hon, by simpa using hshed⟩
    all_goals cases h

/-- A FULL path's record once it is shed. -/
def PathRec.shedded (p : PathRec) : PathRec := { p with shed := true, event := some .shed, cond := .tagOnly }

theorem shedOne_path_self (hconds : CondsOk s) (hfull : (s.path i).cond = .full) :
    (shedOne i s).path i = (s.path i).shedded := by
  obtain ⟨hsite, hfault, hon, -⟩ := condOf_eq_full ((hconds i).symm.trans hfull)
  have hgov (w : State) (e : PathEvent) (f : PathRec → PathRec) : (recordEvent i e (w.modPath i f)).gov = w.gov := rfl
  rw [shedOne, refreshPath_path_self, recordEvent_path_self, State.path_modPath_self, hgov, hsite]
  simp [PathRec.shedded, condOf, hfault, hon]

theorem shedOne_path_ne (s : State) (h : j ≠ i) : (shedOne i s).path j = s.path j := by
  rw [shedOne, refreshPath_path_ne _ h, recordEvent_path_ne _ _ h, State.path_modPath_ne _ _ _ h]

theorem shedOne_carry (i : PathIx) (s : State) : (shedOne i s).carry = s.carry := by rw [(BoundaryFrame.shedOne i s).frame]

theorem shedOne_params (i : PathIx) (s : State) : (shedOne i s).params = s.params := by rw [(BoundaryFrame.shedOne i s).frame]

theorem behind_congr (h : t.carry = s.carry) : Behind t i j ↔ Behind s i j := by
  rw [Behind, Behind, State.carryOf, State.carryOf, h]
  rfl

/-! ### The shed loop -/

/-- Paths shed one after another, each the least important FULL one while the factor lies below s_floor. -/
inductive Sheds : State → State → Prop
  | done (s : State) : Sheds s s
  | shed {s t : State} {i : PathIx} (hlow : computedBackoff s < s.params.sFloor) (hpick : shedPath s = some i)
      (hrest : Sheds (shedOne i s) t) : Sheds s t

theorem shedLoop_sheds (n : Nat) (s : State) : Sheds s (shedLoop n s) := by
  induction n generalizing s with
  | zero => exact .done s
  | succ n ih =>
    unfold shedLoop
    split
    · next hlow =>
      split
      · exact .done s
      · next i hpick => exact .shed hlow hpick (ih _)
    · exact .done s

namespace Sheds

theorem carry (h : Sheds s t) : t.carry = s.carry := by
  induction h with
  | done _ => rfl
  | shed _ _ _ ih => rw [ih, shedOne_carry]

theorem params (h : Sheds s t) : t.params = s.params := by
  induction h with
  | done _ => rfl
  | shed _ _ _ ih => rw [ih, shedOne_params]

theorem levels (h : Sheds s t) (hs : LevelsOk s) : LevelsOk t := by
  induction h with
  | done _ => exact hs
  | shed _ _ _ ih => exact ih (levelsOk_shedOne hs _)

/-- A path stands or goes from FULL to TAG_ONLY. -/
theorem path (h : Sheds s t) (hs : LevelsOk s) (i : PathIx) :
    t.path i = s.path i ∨ ((s.path i).cond = .full ∧ t.path i = (s.path i).shedded) := by
  induction h with
  | done _ => exact .inl rfl
  | @shed s t k hlow hpick _ ih =>
    obtain ⟨hk, -⟩ := (shedPath_spec s).2 k hpick
    rcases eq_or_ne i k with rfl | hne
    · have hself := shedOne_path_self (LevelsOk.conds hs) hk
      rcases ih (levelsOk_shedOne hs _) with hp | ⟨hfull, -⟩
      · exact .inr ⟨hk, hp.trans hself⟩
      · rw [hself] at hfull
        cases hfull
    · rw [← shedOne_path_ne s hne]
      exact ih (levelsOk_shedOne hs _)

/-- A path is shed when it was FULL and is no longer. -/
def Shed (s t : State) (i : PathIx) : Prop := (s.path i).cond = .full ∧ (t.path i).cond ≠ .full

theorem shed_path (h : Sheds s t) (hs : LevelsOk s) (hi : Shed s t i) : t.path i = (s.path i).shedded := by
  rcases h.path hs i with hp | ⟨-, hp⟩
  · exact absurd (hp ▸ hi.1) hi.2
  · exact hp

theorem path_of_not_shed (h : Sheds s t) (hs : LevelsOk s) (hi : ¬Shed s t i) : t.path i = s.path i := by
  rcases h.path hs i with hp | ⟨hfull, hp⟩
  · exact hp
  · exact absurd ⟨hfull, by rw [hp]; simp [PathRec.shedded]⟩ hi

/-- A path shed stands behind every path that is still FULL. -/
theorem behind (h : Sheds s t) (hs : LevelsOk s) (hi : Shed s t i) (hj : (t.path j).cond = .full) : Behind s i j := by
  induction h with
  | done s => exact absurd hi.1 hi.2
  | @shed s t k hlow hpick hrest ih =>
    obtain ⟨hk, hleast⟩ := (shedPath_spec s).2 k hpick
    have hs' := levelsOk_shedOne hs k
    have hself := shedOne_path_self (LevelsOk.conds hs) hk
    have hjs : (s.path j).cond = .full := by
      rcases (Sheds.shed hlow hpick hrest).path hs j with hp | ⟨hp, -⟩
      · rw [← hp, hj]
      · exact hp
    rcases eq_or_ne i k with rfl | hne
    · exact hleast j hjs
    · have hi' : Shed (shedOne k s) t i := ⟨by rw [shedOne_path_ne s hne]; exact hi.1, hi.2⟩
      exact (behind_congr (shedOne_carry k s)).mp (ih hs' hi' hj)

/-- Before the most important of the paths shed was shed, all others stood as they do now and the factor was too low. -/
theorem last (h : Sheds s t) (hs : LevelsOk s) (hi : Shed s t i) (hmost : ∀ j, Shed s t j → Behind s j i) :
    ∃ u : State, u.path i = s.path i ∧ (∀ j, j ≠ i → u.path j = t.path j) ∧ u.params = s.params ∧
      computedBackoff u < s.params.sFloor := by
  induction h with
  | done s => exact absurd hi.1 hi.2
  | @shed s t k hlow hpick hrest ih =>
    obtain ⟨hk, hleast⟩ := (shedPath_spec s).2 k hpick
    have hs' := levelsOk_shedOne hs k
    have hself := shedOne_path_self (LevelsOk.conds hs) hk
    have hshed {j : PathIx} (hj : Shed (shedOne k s) t j) : j ≠ k ∧ Shed s t j := by
      have hne : j ≠ k := by
        rintro rfl
        obtain ⟨hfull, -⟩ := hj
        rw [hself] at hfull
        cases hfull
      exact ⟨hne, by rw [Shed, ← shedOne_path_ne s hne]; exact hj⟩
    rcases eq_or_ne i k with rfl | hne
    · refine ⟨s, rfl, fun j hj => ?_, rfl, hlow⟩
      have hnot : ¬Shed (shedOne i s) t j := fun h => by
        obtain ⟨hji, hjs⟩ := hshed h
        exact hji (Behind.antisymm (hmost j hjs) (hleast j hjs.1))
      rw [hrest.path_of_not_shed hs' hnot, shedOne_path_ne s hj]
    · have hi' : Shed (shedOne k s) t i := ⟨by rw [shedOne_path_ne s hne]; exact hi.1, hi.2⟩
      obtain ⟨u, hui, huj, hup, hulow⟩ := ih hs' hi' fun j hj => (behind_congr (shedOne_carry k s)).mpr (hmost j (hshed hj).2)
      rw [shedOne_params] at hup hulow
      exact ⟨u, hui.trans (shedOne_path_ne s hne), huj, hup, hulow⟩

end Sheds

/-! ### Where the shed loop stops -/

/-- The FULL paths. -/
def fullPaths (s : State) : Finset PathIx := Finset.univ.filter fun i => (s.path i).cond = .full

theorem fullPaths_shedOne (hs : LevelsOk s) (hpick : shedPath s = some i) : fullPaths (shedOne i s) ⊂ fullPaths s := by
  obtain ⟨hi, -⟩ := (shedPath_spec s).2 i hpick
  have hself := shedOne_path_self (LevelsOk.conds hs) hi
  refine Finset.ssubset_iff_subset_ne.mpr ⟨fun j hj => ?_, fun he => ?_⟩
  · have hj' : ((shedOne i s).path j).cond = .full := (Finset.mem_filter.mp hj).2
    refine Finset.mem_filter.mpr ⟨Finset.mem_univ j, ?_⟩
    rcases eq_or_ne j i with rfl | hne
    · exact hi
    · rwa [shedOne_path_ne s hne] at hj'
  · have hmem : i ∈ fullPaths (shedOne i s) := he ▸ Finset.mem_filter.mpr ⟨Finset.mem_univ i, hi⟩
    have hfull := (Finset.mem_filter.mp hmem).2
    rw [hself] at hfull
    cases hfull

/-- The loop has turns enough: when it stops with the factor too low, no path is FULL. -/
theorem shedLoop_stops {n : Nat} (hs : LevelsOk s) (hn : (fullPaths s).card ≤ n)
    (hlow : computedBackoff (shedLoop n s) < s.params.sFloor) (j : PathIx) : ((shedLoop n s).path j).cond ≠ .full := by
  induction n generalizing s with
  | zero =>
    have hnone : fullPaths s = ∅ := Finset.card_eq_zero.mp (Nat.le_zero.mp hn)
    intro hj
    have hmem : j ∈ fullPaths s := Finset.mem_filter.mpr ⟨Finset.mem_univ j, hj⟩
    rw [hnone] at hmem
    exact absurd hmem (Finset.notMem_empty j)
  | succ n ih =>
    unfold shedLoop at hlow ⊢
    split at hlow
    · next hbelow =>
      rw [if_pos hbelow]
      split at hlow
      · next hnone =>
        exact (shedPath_spec s).1 hnone j
      · next i hpick =>
        have hless := Finset.card_lt_card (fullPaths_shedOne hs hpick)
        rw [← shedOne_params i s] at hlow
        exact ih (levelsOk_shedOne hs i) (by omega) hlow
    · next hbelow => exact absurd hlow hbelow

theorem card_fullPaths (s : State) : (fullPaths s).card ≤ 12 := (Finset.card_le_univ _).trans (by simp)

end Sys2Proof.Machine
end
section
/-! PROOFS. The paths behind an evaluation: which are shed, which is restored, and what the boundary's other acts leave of
them (O14). -/

namespace Sys2Proof.Machine

open Sys2Proof

variable {s t u : State} {i j k : PathIx} {reports : Vector (Option Nat) 12} {clips : Nat} {rest order l : List BoundaryAct}
  {p q r : PathRec}

/-! ### The derived levels through the acts of a boundary -/

theorem levelsOk_evaluated (hs : LevelsOk s) (last : Bool) : LevelsOk (evaluated last s) := by
  unfold evaluated
  split
  · exact levelsOk_compositeEvaluation hs
  · exact levelsOk_restore (levelsOk_compositeEvaluation hs)

theorem levelsOk_act (hs : LevelsOk s) (a : BoundaryAct) : LevelsOk (boundaryAct reports clips rest a s) := by
  cases a with
  | level i => exact levelsOk_keeps.level reports i s hs
  | clips => exact levelsOk_takeClipCount hs clips
  | evaluation => exact levelsOk_evaluated hs _
  | bit i => exact levelsOk_keeps.bit i s hs
  | step b => exact levelsOk_takeStep _ b hs

theorem levelsOk_upTo {tail : List BoundaryAct} (hs : LevelsOk s) : LevelsOk (boundaryUpTo reports clips tail l s) :=
  boundaryUpTo_keeps (fun a _ _ _ h => levelsOk_act h a) hs

theorem levelsOk_before (first last : List BoundaryAct) (hs : LevelsOk s) : LevelsOk (beforeEvaluation first last s) :=
  levelsOk_upTo (LevelsOk.opening hs)

/-! ### What the acts other than the evaluation leave of a path -/

/-- State, shed flag and last event of a path stand. -/
def PathRec.KeepsFlags (p q : PathRec) : Prop := q.state = p.state ∧ q.shed = p.shed ∧ q.event = p.event

theorem PathRec.KeepsFlags.refl (p : PathRec) : p.KeepsFlags p := ⟨rfl, rfl, rfl⟩

theorem PathRec.KeepsFlags.trans (h : p.KeepsFlags q) (g : q.KeepsFlags r) : p.KeepsFlags r :=
  ⟨g.1.trans h.1, g.2.1.trans h.2.1, g.2.2.trans h.2.2⟩

theorem act_flags {a : BoundaryAct} (hown : ∀ b, a ≠ .step b) (hne : a ≠ .evaluation) (s : State) :
    (s.path i).KeepsFlags ((boundaryAct reports clips rest a s).path i) := by
  cases a with
  | level j =>
    rcases eq_or_ne i j with rfl | h
    · rw [boundaryAct, levelPath_self, levelled_writes]
      exact ⟨rfl, rfl, rfl⟩
    · rw [boundaryAct, levelPath_ne _ _ h]
      exact .refl _
  | clips =>
    by_cases h : s.params.clipLimit < clips ∧ s.gov.site = .transmitting
    · rw [boundaryAct, takeClipCount_fault_path h.1 h.2]
      exact ⟨rfl, rfl, rfl⟩
    · rw [boundaryAct, takeClipCount_quiet (by rwa [not_and_or, Nat.not_lt] at h)]
      exact .refl _
  | evaluation => exact absurd rfl hne
  | bit j => exact .refl _
  | step b => exact absurd rfl (hown b)

theorem upTo_flags {tail : List BoundaryAct} (hplain : PlainOrder l) (hne : .evaluation ∉ l) (s : State) :
    (s.path i).KeepsFlags ((boundaryUpTo reports clips tail l s).path i) :=
  boundaryUpTo_keeps (P := fun u => (s.path i).KeepsFlags (u.path i)) (fun _ ha _ _ ht =>
    ht.trans (act_flags (fun b hb => hplain b (hb ▸ ha)) (fun h => hne (h ▸ ha)) _)) (.refl _)

theorem run_flags (hplain : PlainOrder l) (hne : .evaluation ∉ l) (s : State) :
    (s.path i).KeepsFlags ((boundaryRun reports clips l s).path i) := by
  rw [boundaryRun_eq_upTo]
  exact upTo_flags hplain hne s

/-! ### The restore test (R136) -/

theorem restoreTest_none (h : restoreCandidate s = none) :
    (restoreTest s).gov = { s.gov with restoreCandidate := none, restoreCount := 0 } := by
  simp [restoreTest, h]

theorem restoreTest_new (h : restoreCandidate s = some i) (hheld : s.gov.restoreCandidate ≠ some i) :
    (restoreTest s).gov = { s.gov with restoreCandidate := some i, restoreCount := 0 } := by
  simp [restoreTest, h, hheld]

theorem restoreTest_held (h : restoreCandidate s = some i) (hheld : s.gov.restoreCandidate = some i) :
    (restoreTest s).gov = { s.gov with restoreCount :=
      if s.params.sFloor + 16 ≤ backoffFor s.params.pMax (restoredSum s i) then min 1000 (s.gov.restoreCount + 1) else 0 } := by
  unfold restoreTest
  rw [h]
  dsimp only
  rw [if_pos (by rw [hheld]; exact beq_self_eq_true _)]
  split
  · rfl
  · rfl

theorem restoreTest_candidate (s : State) : (restoreTest s).gov.restoreCandidate = restoreCandidate s := by
  cases h : restoreCandidate s with
  | none => rw [restoreTest_none h]
  | some i =>
    by_cases hheld : s.gov.restoreCandidate = some i
    · rw [restoreTest_held h hheld]
      exact hheld
    · rw [restoreTest_new h hheld]

/-- A count that has reached its limit is the held candidate's, which fits. -/
theorem restoreTest_reached (h : restoreCandidate s = some i) (hcount : 1000 ≤ (restoreTest s).gov.restoreCount) :
    s.gov.restoreCandidate = some i ∧ 999 ≤ s.gov.restoreCount ∧
      s.params.sFloor + 16 ≤ backoffFor s.params.pMax (restoredSum s i) := by
  by_cases hheld : s.gov.restoreCandidate = some i
  · rw [restoreTest_held h hheld] at hcount
    dsimp only at hcount
    split at hcount
    · next hfits => exact ⟨hheld, by omega, hfits⟩
    · omega
  · rw [restoreTest_new h hheld] at hcount
    exact absurd hcount (by simp)

theorem restorable_iff : restorable p = true ↔ p.shed = true ∧ p.state = .on ∧ p.cond = .tagOnly := by
  simp [restorable, and_assoc]

/-! ### The paths behind an evaluation -/

/-- The state once the evaluation's shed loop has ended. -/
def shedPhase (s : State) : State := shedLoop 12 (clearShedFlags s)

theorem shedPhase_sheds (s : State) : Sheds (clearShedFlags s) (shedPhase s) := shedLoop_sheds 12 _

theorem shedPhase_gov (s : State) : (shedPhase s).gov = s.gov := (shedLoop_gov 12 _).trans (clearShedFlags_gov s)

theorem shedPhase_params (s : State) : (shedPhase s).params = s.params := (shedPhase_sheds s).params

theorem shedPhase_carry (s : State) : (shedPhase s).carry = s.carry := (shedPhase_sheds s).carry

theorem condOf_onAir {site : Site} (h : condOf site p ≠ .off) : site = .transmitting ∧ p.txFaultDeadline = none := by
  unfold condOf at h
  split at h
  · exact absurd rfl h
  · next hair =>
    rw [Bool.or_eq_true, not_or] at hair
    exact ⟨by simpa using hair.2, by simpa using hair.1⟩

theorem clearShedFlags_fields (s : State) (i : PathIx) : ((clearShedFlags s).path i).state = (s.path i).state ∧
    ((clearShedFlags s).path i).cond = (s.path i).cond ∧ ((clearShedFlags s).path i).event = (s.path i).event ∧
    ((s.path i).shed = false → ((clearShedFlags s).path i).shed = false) ∧
    ((s.path i).state ≠ .on → ((clearShedFlags s).path i).shed = false) := by
  rw [clearShedFlags_path]
  split
  · next h => exact ⟨rfl, rfl, rfl, id, fun hne => absurd h hne⟩
  · exact ⟨rfl, rfl, rfl, fun _ => rfl, fun _ => rfl⟩

/-- The evaluation of s restores path k. -/
structure Restores (s e : State) (k : PathIx) : Prop where
  candidate : restoreCandidate (shedPhase s) = some k
  held : s.gov.restoreCandidate = some k
  count : 999 ≤ s.gov.restoreCount
  fits : s.params.sFloor + 16 ≤ backoffFor s.params.pMax (restoredSum (shedPhase s) k)
  self : e.path k = { (shedPhase s).path k with shed := false, event := some .restored, cond := .full }
  others : ∀ j, j ≠ k → e.path j = (shedPhase s).path j

theorem restore_restores (hs : LevelsOk s) (hcand : (compositeEvaluation s).gov.restoreCandidate = some k)
    (hcount : 1000 ≤ (compositeEvaluation s).gov.restoreCount) : Restores s (restore (compositeEvaluation s)) k := by
  have hgov := compositeEvaluation_gov s
  have hpick : restoreCandidate (shedPhase s) = some k := by
    rw [← restoreTest_candidate, ← hcand, hgov]
    rfl
  have hreached := restoreTest_reached hpick (by rw [hgov] at hcount; exact hcount)
  rw [shedPhase_gov, shedPhase_params] at hreached
  obtain ⟨hheld, hlimit, hfits⟩ := hreached
  have hpath (j : PathIx) : (compositeEvaluation s).path j = (shedPhase s).path j := compositeEvaluation_path s j
  have hmay := ((restoreCandidate_spec _).2 k hpick).1
  rw [← hpath] at hmay
  obtain ⟨-, hon, hcond⟩ := restorable_iff.mp hmay
  have hair : condOf (compositeEvaluation s).gov.site ((compositeEvaluation s).path k) ≠ .off := by
    rw [← LevelsOk.conds (levelsOk_compositeEvaluation hs) k, hcond]
    decide
  obtain ⟨hsite, hfault⟩ := condOf_onAir hair
  refine ⟨hpick, hheld, hlimit, hfits, ?_, fun j hj => ?_⟩
  · rw [restore_due hcand hcount, applyBackoff_path, restoreOne_path_self hon hcond hfault hsite, hpath]
  · rw [restore_due hcand hcount, applyBackoff_path, restoreOne_path_ne hon hcond hfault hsite hj, hpath]

theorem compositeEvaluation_phase (s : State) (j : PathIx) : (compositeEvaluation s).path j = (shedPhase s).path j :=
  compositeEvaluation_path s j

/-- An evaluation ends with its own factor, or with the restore of a path that may be restored. -/
theorem evaluated_cases (hs : LevelsOk s) (last : Bool) : evaluated last s = compositeEvaluation s ∨
    ∃ k, Restores s (evaluated last s) k ∧
      evaluated last s = applyBackoff (compositeEvaluation s).gov.evaluationCap (restoreOne k (compositeEvaluation s)) := by
  unfold evaluated
  split
  · exact .inl rfl
  · by_cases hdue : (compositeEvaluation s).gov.restoreCount < 1000 ∨ (compositeEvaluation s).gov.restoreCandidate = none
    · exact .inl (restore_not_due hdue)
    · rw [not_or, Nat.not_lt] at hdue
      obtain ⟨k, hk⟩ := Option.ne_none_iff_exists'.mp hdue.2
      exact .inr ⟨k, restore_restores hs hk hdue.1, restore_due hk hdue.1⟩

/-- Behind an evaluation the paths are those of the shed loop, but for one that may be restored. -/
theorem evaluated_paths (hs : LevelsOk s) (last : Bool) :
    (∀ j, (evaluated last s).path j = (shedPhase s).path j) ∨ ∃ k, Restores s (evaluated last s) k := by
  rcases evaluated_cases hs last with h | ⟨k, hk, -⟩
  · exact .inl fun j => h ▸ compositeEvaluation_phase s j
  · exact .inr ⟨k, hk⟩

/-! ### The most important of the paths shed -/

theorem nominal_le_sum (s : State) (i : PathIx) :
    nominalAmplitude (s.path i) * nominalAmplitude (s.path i) ≤ compositeSum s :=
  List.single_le_sum (fun _ _ => Nat.zero_le _) _
    (List.mem_map_of_mem (f := fun j => nominalAmplitude (s.path j) * nominalAmplitude (s.path j)) (mem_indices i))

/-- With the most important of the paths shed back at its full level, the factor lies below the floor. -/
theorem Sheds.last_sum (h : Sheds s t) (hs : LevelsOk s) (hi : Sheds.Shed s t i) (hmost : ∀ j, Sheds.Shed s t j → Behind s j i) :
    backoffFor s.params.pMax (restoredSum t i) < s.params.sFloor := by
  obtain ⟨u, hui, huj, hparams, hlow⟩ := h.last hs hi hmost
  have hti := h.shed_path hs hi
  have hsum := compositeSum_of_one (i := i) huj
  have htag : nominalAmplitude (t.path i) = 256 := nominalAmplitude_tagOnly (by rw [hti]; rfl)
  have hfull : nominalAmplitude (u.path i) = fullAmplitude (t.path i) := by
    rw [nominalAmplitude_full (by rw [hui]; exact hi.1), hui, hti]
    rfl
  have hge := nominal_le_sum t i
  rw [htag, hfull] at hsum
  rw [htag] at hge
  have hrestored : restoredSum t i = compositeSum u := by
    rw [restoredSum]
    omega
  rw [computedBackoff, hparams] at hlow
  rw [hrestored]
  exact hlow

/-- No path is shed and restored in one evaluation. -/
theorem Restores.not_shed (h : Restores s u k) (hs : LevelsOk s) : ¬Sheds.Shed (clearShedFlags s) (shedPhase s) k := by
  intro hshed
  have hs' := levelsOk_clearShedFlags hs
  have hsheds := shedPhase_sheds s
  have hlow := hsheds.last_sum hs' hshed fun j hj => by
    have hmay : restorable ((shedPhase s).path j) = true := by
      have hstate := (condOf_eq_full ((LevelsOk.conds hs' j).symm.trans hj.1)).2.2.1
      rw [hsheds.shed_path hs' hj]
      exact restorable_iff.mpr ⟨rfl, hstate, rfl⟩
    exact (behind_congr hsheds.carry).mp (((restoreCandidate_spec _).2 k h.candidate).2 j hmay)
  have hfits := h.fits
  have hparams : (clearShedFlags s).params = s.params := rfl
  rw [hparams] at hlow
  omega

end Sys2Proof.Machine
end
section
/-! PROOFS. Shedding at a block boundary (O14). -/

namespace Sys2Proof.Machine

open Sys2Proof

variable {s t u : State} {i j k : PathIx} {order : List BoundaryAct} {first last : List BoundaryAct}

/-! ### A factor below the floor -/

/-- A factor below s_floor: the sum lies above P_max, and s_floor² times it above the budget. -/
theorem over_budget_of_low {pMax sum sFloor : Nat} (h : backoffFor pMax sum < sFloor) (hfloor : sFloor ≤ 255) :
    pMax < sum ∧ pMax * 65536 < sFloor * sFloor * sum := by
  unfold backoffFor at h
  split at h
  · omega
  · next hle =>
    refine ⟨Nat.not_le.mp hle, Nat.not_le.mp fun hin => ?_⟩
    have hge := le_largestWithin hfloor hin
    omega

/-! ### The shed flag behind an evaluation -/

/-- A path that is shed behind an evaluation and was not before it was FULL, and was shed by it. -/
theorem evaluated_shed (hs : LevelsOk s) (lst : Bool) (hbefore : (s.path i).shed = false)
    (hafter : ((evaluated lst s).path i).shed = true) :
    Sheds.Shed (clearShedFlags s) (shedPhase s) i ∧ (evaluated lst s).path i = ((clearShedFlags s).path i).shedded ∧
      ∀ k, Restores s (evaluated lst s) k → i ≠ k := by
  have hne (k) (hk : Restores s (evaluated lst s) k) : i ≠ k := by
    rintro rfl
    rw [hk.self] at hafter
    cases hafter
  have hpath : (evaluated lst s).path i = (shedPhase s).path i := by
    rcases evaluated_paths hs lst with h | ⟨k, hk⟩
    · exact h i
    · exact hk.others i (hne k hk)
  rw [hpath] at hafter ⊢
  have hs' := levelsOk_clearShedFlags hs
  have hclear := (clearShedFlags_fields s i).2.2.2.1 hbefore
  have hshed : Sheds.Shed (clearShedFlags s) (shedPhase s) i := by
    by_contra hnot
    rw [(shedPhase_sheds s).path_of_not_shed hs' hnot, hclear] at hafter
    cases hafter
  exact ⟨hshed, (shedPhase_sheds s).shed_path hs' hshed, hne⟩

/-- A path shed by an evaluation stood behind every path that it leaves FULL. -/
theorem evaluated_behind (hs : LevelsOk s) (lst : Bool) (hbefore : (s.path i).shed = false)
    (hafter : ((evaluated lst s).path i).shed = true) (hfull : ((evaluated lst s).path j).cond = .full) :
    Behind s i j ∧ i ≠ j := by
  obtain ⟨hshed, hself, hne⟩ := evaluated_shed hs lst hbefore hafter
  have hs' := levelsOk_clearShedFlags hs
  have hij : i ≠ j := by
    rintro rfl
    rw [hself] at hfull
    cases hfull
  refine ⟨?_, hij⟩
  have hphase (h : ((shedPhase s).path j).cond = .full) : Behind s i j :=
    (behind_congr (s := s) rfl).mp ((shedPhase_sheds s).behind hs' hshed h)
  rcases evaluated_paths hs lst with h | ⟨k, hk⟩
  · exact hphase (h j ▸ hfull)
  · rcases eq_or_ne j k with rfl | hjk
    · have hstate := (condOf_eq_full ((LevelsOk.conds hs' i).symm.trans hshed.1)).2.2.1
      have hmay : restorable ((shedPhase s).path i) = true := by
        rw [(shedPhase_sheds s).shed_path hs' hshed]
        exact restorable_iff.mpr ⟨rfl, hstate, rfl⟩
      exact (behind_congr (shedPhase_carry s)).mp (((restoreCandidate_spec _).2 j hk.candidate).2 i hmay)
    · exact hphase (hk.others j hjk ▸ hfull)

/-- Behind an evaluation no path is shed that is not ON. -/
theorem evaluated_not_on (hs : LevelsOk s) (lst : Bool) (hstate : (s.path i).state ≠ .on) :
    ((evaluated lst s).path i).shed = false := by
  have hs' := levelsOk_clearShedFlags hs
  obtain ⟨hsame, -, -, -, hclear⟩ := clearShedFlags_fields s i
  have hphase : ((shedPhase s).path i).shed = false := by
    rcases (shedPhase_sheds s).path hs' i with h | ⟨hfull, -⟩
    · rw [h]
      exact hclear hstate
    · exact absurd (hsame.symm.trans (condOf_eq_full ((LevelsOk.conds hs' i).symm.trans hfull)).2.2.1) hstate
  rcases evaluated_paths hs lst with h | ⟨k, hk⟩
  · rw [h]
    exact hphase
  · rcases eq_or_ne i k with rfl | hne
    · rw [hk.self]
    · rw [hk.others i hne]
      exact hphase

/-! ### The boundary as it meets its evaluation -/

section cut
variable (hplain : PlainOrder order) (hcut : boundaryOrder order = first ++ .evaluation :: last)
include hplain hcut

/-- Up to the evaluation every path keeps its state, its shed flag and its last event. -/
theorem before_flags (s : State) (i : PathIx) : (s.path i).KeepsFlags ((beforeEvaluation first last s).path i) := by
  have h := upTo_flags (reports := blockReports s) (clips := s.composite.clips) (tail := .evaluation :: last) (i := i)
    (cut_plain hplain hcut).1 (cut_once hplain hcut).1 (openBoundary s)
  rw [openBoundary_path] at h
  exact h

/-- Behind the evaluation too. -/
theorem boundary_flags (s : State) (i : PathIx) :
    ((afterEvaluation first last s).path i).KeepsFlags ((blockBoundary order s).path i) := by
  rw [blockBoundary_cut hcut]
  exact run_flags (cut_plain hplain hcut).2 (cut_once hplain hcut).2 _

theorem before_params (s : State) : (beforeEvaluation first last s).params = s.params := by
  rw [(before_frame hplain hcut s).frame]
  rfl

theorem before_carry (s : State) : (beforeEvaluation first last s).carry = s.carry := by
  rw [(before_frame hplain hcut s).frame]
  rfl

/-- A path FULL behind the boundary is FULL behind its evaluation. -/
theorem full_at_cut (h : ((blockBoundary order s).path i).cond = .full) :
    ((afterEvaluation first last s).path i).cond = .full := by
  rcases boundary_cond hplain hcut s i with he | he
  · rw [← he, h]
  · rw [he] at h
    cases h

end cut

/-- With the evaluation last the boundary's paths are those of the shed loop. -/
theorem boundary_last_path (hok : orderOk order = true) (hlast : order.getLast? = some .evaluation) (s : State) (i : PathIx) :
    (blockBoundary order s).path i = (shedPhase (beforeEvaluation order.dropLast [] s)).path i := by
  rw [blockBoundary_last hok hlast]
  exact compositeEvaluation_path _ i

end Sys2Proof.Machine

namespace Sys2Proof

open Machine

/-- Settles O14: the shed loop takes the least important FULL path each turn, and the boundary's other acts leave its flags. -/
theorem boundaryShedsLeastImportant : Obligations.BoundaryShedsLeastImportant := by
  intro order s hplain hs
  rw [answers_iff, effect]
  obtain ⟨first, last, hcut⟩ := exists_cut hplain
  have hu := levelsOk_before first last hs
  have hshed (i : PathIx) (hbefore : (s.path i).shed = false) (hafter : ((blockBoundary order s).path i).shed = true) :
      ((beforeEvaluation first last s).path i).shed = false ∧ ((afterEvaluation first last s).path i).shed = true := by
    obtain ⟨-, hsame, -⟩ := before_flags hplain hcut s i
    obtain ⟨-, hstands, -⟩ := boundary_flags hplain hcut s i
    exact ⟨hsame.trans hbefore, hstands.symm.trans hafter⟩
  refine ⟨fun hok hlast hlow i => ?_, fun i hbefore hafter => ?_, fun hok hlast hfloor i hbefore hafter hmost => ?_,
    fun i hstate => ?_⟩
  · have hpaths := boundary_last_path hok hlast s
    have hcut := cut_last hok hlast
    have hparams : (blockBoundary order s).params = (shedPhase (beforeEvaluation order.dropLast [] s)).params := by
      rw [shedPhase_params, before_params hplain hcut, blockBoundary_last hok hlast, (after_frame hplain hcut s).frame]
      rfl
    rw [computedBackoff_congr hpaths hparams] at hlow
    rw [hpaths]
    refine shedLoop_stops (levelsOk_clearShedFlags (levelsOk_before order.dropLast [] hs)) (card_fullPaths _) ?_ i
    have hfloor : (clearShedFlags (beforeEvaluation order.dropLast [] s)).params = s.params := before_params hplain hcut s
    rw [hfloor]
    exact hlow
  · obtain ⟨hb, ha⟩ := hshed i hbefore hafter
    obtain ⟨-, hself, -⟩ := evaluated_shed hu last.isEmpty hb ha
    obtain ⟨-, -, hevent⟩ := boundary_flags hplain hcut s i
    refine ⟨?_, fun hfull => ?_, fun j hfull => ?_⟩
    · rw [hevent, afterEvaluation, hself]
      rfl
    · have h := full_at_cut hplain hcut hfull
      rw [afterEvaluation, hself] at h
      cases h
    · obtain ⟨hbehind, hne⟩ := evaluated_behind hu last.isEmpty hb ha (full_at_cut hplain hcut hfull)
      exact ((behind_congr (before_carry hplain hcut s)).mp hbehind).strict hne
  · intro full sum
    have hcut' := cut_last hok hlast
    have hpaths := boundary_last_path hok hlast s
    have hu' := levelsOk_before order.dropLast [] hs
    have hs' := levelsOk_clearShedFlags hu'
    have hsheds := shedPhase_sheds (beforeEvaluation order.dropLast [] s)
    have hshedOf (j : PathIx) (hb : (s.path j).shed = false) (ha : ((blockBoundary order s).path j).shed = true) :
        Sheds.Shed (clearShedFlags (beforeEvaluation order.dropLast [] s))
          (shedPhase (beforeEvaluation order.dropLast [] s)) j := by
      refine (evaluated_shed hu' true ((before_flags hplain hcut' s j).2.1.trans hb) ?_).1
      rw [hpaths] at ha
      exact (congrArg PathRec.shed (compositeEvaluation_path _ j)).trans ha
    have hlow := hsheds.last_sum hs' (hshedOf i hbefore hafter) fun j hj => ?_
    · have hsum : sum = restoredSum (shedPhase (beforeEvaluation order.dropLast [] s)) i := by
        rw [restoredSum, ← compositeSum_congr hpaths, ← hpaths]
        rfl
      rw [hsum]
      have hparams : (clearShedFlags (beforeEvaluation order.dropLast [] s)).params = s.params := before_params hplain hcut' s
      rw [hparams] at hlow
      exact over_budget_of_low hlow hfloor
    · have hstate := condOf_eq_full ((LevelsOk.conds hs' j).symm.trans hj.1)
      have hb : (s.path j).shed = false := by
        have hsame := (before_flags hplain hcut' s j).2.1
        rw [← hsame]
        obtain ⟨-, -, hon, hnot⟩ := hstate
        have hclear := clearShedFlags_path (beforeEvaluation order.dropLast [] s) j
        rw [if_pos ((clearShedFlags_fields _ j).1.symm.trans hon)] at hclear
        rw [← hclear]
        exact hnot
      have ha : ((blockBoundary order s).path j).shed = true := by
        rw [hpaths, hsheds.shed_path hs' hj]
        rfl
      refine (behind_congr (before_carry hplain hcut' s)).mpr ?_
      rcases hmost j hb ha with h | ⟨h, hle⟩
      · exact .inl h
      · exact .inr ⟨h, hle⟩
  · have hkeeps := (before_flags hplain hcut s i).1
    obtain ⟨-, hstands, -⟩ := boundary_flags hplain hcut s i
    rw [hstands]
    exact evaluated_not_on hu last.isEmpty (hkeeps ▸ hstate)

end Sys2Proof
end
section
/-! PROOFS. The restore test of a block boundary (O16). -/

namespace Sys2Proof.Machine

open Sys2Proof

variable {s t u : State} {i j k : PathIx} {reports : Vector (Option Nat) 12} {clips : Nat} {order l : List BoundaryAct}

/-! ### The factor that a sum calls for -/

theorem le_backoffFor_iff {m pMax sum : Nat} : m ≤ backoffFor pMax sum ↔
    if sum ≤ pMax then m ≤ 256 else ∃ n : Nat, n ≤ 255 ∧ m ≤ n ∧ n * n * sum ≤ pMax * 65536 := by
  unfold backoffFor
  split
  · rfl
  · refine ⟨fun h => ⟨_, largestWithin_le _ _ _, h, largestWithin_within _ _ _⟩, ?_⟩
    rintro ⟨n, hn, hm, hin⟩
    exact hm.trans (le_largestWithin hn hin)

/-! ### Acts that leave the governor -/

/-- A report or a bit leaves the governor, and does not look at what the boundary has still to take. -/
theorem upTo_gov {tail : List BoundaryAct} (hplain : PlainOrder l) (hne : .evaluation ∉ l) (hclips : .clips ∉ l) (s : State) :
    (boundaryUpTo reports clips tail l s).gov = s.gov :=
  boundaryUpTo_keeps (P := fun u => u.gov = s.gov) (fun a ha rest u hu => by
    cases a with
    | level j => exact (levelPath_gov reports j u).trans hu
    | clips => exact absurd ha hclips
    | evaluation => exact absurd ha hne
    | bit j => exact (handBit_gov j u).trans hu
    | step b => exact absurd ha (hplain b)) rfl

theorem upTo_tail {tail : List BoundaryAct} (hplain : PlainOrder l) (hne : .evaluation ∉ l) (s : State) :
    boundaryUpTo reports clips tail l s = boundaryUpTo reports clips [] l s := by
  induction l generalizing s with
  | nil => rfl
  | cons a l ih =>
    have hact : boundaryAct reports clips (l ++ tail) a s = boundaryAct reports clips (l ++ []) a s := by
      cases a with
      | evaluation => exact absurd List.mem_cons_self hne
      | step b => exact absurd List.mem_cons_self (hplain b)
      | level j => rfl
      | clips => rfl
      | bit j => rfl
    rw [boundaryUpTo, boundaryUpTo, hact]
    exact ih (plain_tail hplain) (fun h => hne (List.mem_cons_of_mem a h)) _

/-! ### The test at the boundary's end -/

section last
variable (hok : orderOk order = true) (hlast : order.getLast? = some .evaluation)
include hok hlast

theorem boundary_last_test (s : State) :
    (blockBoundary order s).gov.restoreCandidate =
      (restoreTest (shedPhase (beforeEvaluation order.dropLast [] s))).gov.restoreCandidate ∧
    (blockBoundary order s).gov.restoreCount =
      (restoreTest (shedPhase (beforeEvaluation order.dropLast [] s))).gov.restoreCount := by
  rw [blockBoundary_last hok hlast]
  have h := compositeEvaluation_gov (beforeEvaluation order.dropLast [] s)
  have he : afterEvaluation order.dropLast [] s = compositeEvaluation (beforeEvaluation order.dropLast [] s) := rfl
  rw [he, h]
  exact ⟨rfl, rfl⟩

/-- What the shed loop hands the test: the candidate and count of before, and the parameters. -/
theorem boundary_last_held (hplain : PlainOrder order) (s : State) :
    (shedPhase (beforeEvaluation order.dropLast [] s)).gov.restoreCandidate = s.gov.restoreCandidate ∧
    (shedPhase (beforeEvaluation order.dropLast [] s)).gov.restoreCount = s.gov.restoreCount ∧
    (shedPhase (beforeEvaluation order.dropLast [] s)).params = s.params ∧
    (shedPhase (beforeEvaluation order.dropLast [] s)).carry = s.carry := by
  have hcut := cut_last hok hlast
  have hbudget := before_budget hplain hcut s
  rw [shedPhase_gov, shedPhase_params, shedPhase_carry]
  exact ⟨hbudget.candidate, hbudget.count, before_params hplain hcut s, before_carry hplain hcut s⟩

end last

/-! ### An evaluation that the clip count follows -/

theorem orderOk_of_perm {l₁ l₂ : List BoundaryAct} (h : l₁.Perm l₂) (hok : orderOk l₁ = true) : orderOk l₂ = true := by
  unfold orderOk at *
  exact List.isPerm_iff.mpr (((h.filter _).symm).trans (List.isPerm_iff.mp hok))

theorem plain_swap {first : List BoundaryAct} {a b : BoundaryAct} (hfirst : PlainOrder first) (ha : ∀ c, a ≠ .step c)
    (hb : ∀ c, b ≠ .step c) : PlainOrder (first ++ [a, b]) := fun c hc => by
  rcases List.mem_append.mp hc with h | h
  · exact hfirst c h
  · rcases List.mem_cons.mp h with h | h
    · exact ha c h.symm
    · exact hb c (List.mem_singleton.mp h).symm

theorem Governor.KeepsFaults.site {g h : Governor} (hk : g.KeepsFaults h) : h.site = g.site :=
  (congrArg Governor.site hk).trans rfl

theorem run_evaluation_clips (w : State) : boundaryRun reports clips [.evaluation, .clips] w =
    takeClipCount clips (restore (compositeEvaluation w)) := rfl

theorem run_clips_evaluation (w : State) : boundaryRun reports clips [.clips, .evaluation] w =
    compositeEvaluation (takeClipCount clips w) := rfl

/-- A quiet clip count before the evaluation or behind it: behind it the evaluation is completed by its restore. -/
theorem blockBoundary_swap {first : List BoundaryAct} (hfirst : PlainOrder first)
    (hok : orderOk (first ++ [.evaluation, .clips]) = true)
    (hquiet : s.composite.clips ≤ s.params.clipLimit ∨ s.gov.site ≠ .transmitting) :
    blockBoundary (first ++ [.evaluation, .clips]) s = restore (blockBoundary (first ++ [.clips, .evaluation]) s) := by
  have hperm := orderOk_perm (plain_swap hfirst (by simp) (by simp)) hok
  have hswap : (first ++ [BoundaryAct.evaluation, .clips]).Perm (first ++ [.clips, .evaluation]) :=
    (List.Perm.swap _ _ _).append_left first
  have hne := (order_once hperm).1
  have hclips := (order_once (hswap.symm.trans hperm)).1
  have hframe := BoundaryFrame.upTo (reports := blockReports s) (clips := s.composite.clips) (tail := []) hfirst (openBoundary s)
  have hgov := upTo_gov (reports := blockReports s) (clips := s.composite.clips) (tail := []) hfirst hne hclips (openBoundary s)
  rw [blockBoundary, blockBoundary, boundaryOrder_of_ok hok, boundaryOrder_of_ok (orderOk_of_perm hswap hok),
    boundaryRun_append, boundaryRun_append, upTo_tail (tail := [.evaluation, .clips]) hfirst hne,
    upTo_tail (tail := [.clips, .evaluation]) hfirst hne]
  generalize boundaryUpTo (blockReports s) s.composite.clips [] first (openBoundary s) = w at *
  have hparams : w.params = s.params := by rw [hframe.frame]; rfl
  have hstill {e : State} (hp : e.params = s.params) (hsite : e.gov.site = s.gov.site) :
      takeClipCount s.composite.clips e = e := takeClipCount_quiet (by rw [hp, hsite]; exact hquiet)
  have hbefore := hstill hparams (congrArg Governor.site hgov)
  have hafter : takeClipCount s.composite.clips (restore (compositeEvaluation w)) = restore (compositeEvaluation w) := by
    refine hstill ?_ ?_
    · rw [((BoundaryFrame.compositeEvaluation w).trans (BoundaryFrame.restore _)).frame]
      exact hparams
    · rw [((compositeEvaluation_keepsFaults w).trans (restore_keepsFaults _)).site, hgov]
      rfl
  rw [run_evaluation_clips, run_clips_evaluation, hafter, hbefore]

end Sys2Proof.Machine

namespace Sys2Proof

open Machine

/-- Settles O16: the test's branches at the boundary's end, and the swap of evaluation and clip count. -/
theorem boundaryTestsRestore : Obligations.BoundaryTestsRestore := by
  refine ⟨fun order s hplain hok hlast hcount => ?_, fun first s hplain hok hquiet => ?_⟩
  · rw [answers_iff, effect]
    obtain ⟨hcand, hnumber⟩ := boundary_last_test hok hlast s
    have hpaths := boundary_last_path hok hlast s
    obtain ⟨hheld, hheldCount, hparams, hcarry⟩ := boundary_last_held hok hlast hplain s
    generalize shedPhase (beforeEvaluation order.dropLast [] s) = w at *
    generalize blockBoundary order s = t at *
    intro may full
    have hmay (i : PathIx) : may i ↔ restorable (w.path i) = true := by
      rw [restorable_iff, ← hpaths]
    obtain ⟨hnone, hsome⟩ := restoreCandidate_spec w
    refine ⟨fun hno => ?_, fun i hi hfirst => ?_⟩
    · have hpick : restoreCandidate w = none := by
        by_contra h
        obtain ⟨i, hi⟩ := Option.ne_none_iff_exists'.mp h
        exact hno i ((hmay i).mpr (hsome i hi).1)
      rw [hcand, hnumber, restoreTest_none hpick]
      exact ⟨rfl, rfl⟩
    · intro sum fits
      have hpick : restoreCandidate w = some i := by
        cases h : restoreCandidate w with
        | none => exact absurd ((hmay i).mp hi) (hnone h i)
        | some k =>
          obtain ⟨hk, hall⟩ := hsome k h
          have hki : Behind w k i := (behind_congr hcarry).mpr ((hfirst k ((hmay k).mpr hk)).imp id id)
          rw [Behind.antisymm hki (hall i ((hmay i).mp hi))]
      have hsum : sum = restoredSum w i := by
        rw [restoredSum, ← compositeSum_congr hpaths, ← hpaths]
        rfl
      have hfits : fits ↔ w.params.sFloor + 16 ≤ backoffFor w.params.pMax (restoredSum w i) := by
        rw [hparams, ← hsum, le_backoffFor_iff]
      refine ⟨by rw [hcand, restoreTest_candidate, hpick], fun hnew => ?_, fun hold hfit => ?_, fun hold hfit => ?_⟩
      · rw [hnumber, restoreTest_new hpick (hheld ▸ hnew)]
      · rw [hnumber, restoreTest_held hpick (hheld.trans hold)]
        dsimp only
        rw [if_pos (hfits.mp hfit), hheldCount]
        omega
      · rw [hnumber, restoreTest_held hpick (hheld.trans hold)]
        exact if_neg (fun h => hfit (hfits.mpr h))
  · refine ⟨blockBoundary (first ++ [.clips, .evaluation]) s, rfl, ?_⟩
    rw [exec_eq, exec_eq, effect, effect, blockBoundary_swap hplain hok hquiet]

end Sys2Proof
end
section
/-! PROOFS. The tag bits of a block boundary (O12). -/

namespace Sys2Proof.Machine

open Sys2Proof

variable {s t u v : State} {i j k : PathIx} {reports : Vector (Option Nat) 12} {clips : Nat} {rest order l : List BoundaryAct}
  {first last : List BoundaryAct}

/-! ### What leaves a path's bit -/

/-- The builder's record of path i and the tone of its transmit side stand. -/
structure BitStands (i : PathIx) (s t : State) : Prop where
  builder : t.builderPath i = s.builderPath i := by rfl
  tone : (t.txSide i).tone = (s.txSide i).tone := by rfl

theorem BitStands.trans (h : BitStands i s t) (g : BitStands i t u) : BitStands i s u :=
  ⟨g.builder.trans h.builder, g.tone.trans h.tone⟩

theorem BitStands.of_site (h : SiteFrame s t) : BitStands i s t := by
  have hb : t.builder = s.builder := by rw [h]
  have ht : t.tx = s.tx := by rw [h]
  refine ⟨?_, ?_⟩
  · rw [State.builderPath, hb]
    rfl
  · rw [State.txSide, ht]
    rfl

theorem BitStands.of_act (h : ActFrame s t) : BitStands i s t := .of_site h.siteFrame

theorem BitStands.pending {f : PathIx → TxSet} : BitStands i s
    { s with tx := updAll s.tx (fun j x => { x with pendingSet := f j }) } where
  tone := by simp [State.txSide]

theorem BitStands.applyBackoff (cap : Nat) (s : State) : BitStands i s (applyBackoff cap s) where
  tone := by rw [applyBackoff_txSide]

theorem BitStands.sheds (h : Sheds s t) : BitStands i s t := by
  induction h with
  | done _ => exact {}
  | shed _ _ _ ih => exact (of_act (Acts.shedOne _ _).frame).trans ih

theorem BitStands.compositeEvaluation (s : State) : BitStands i s (compositeEvaluation s) := by
  have hclear : BitStands i s (clearShedFlags s) := {}
  have htest : BitStands i (shedPhase s) (restoreTest (shedPhase s)) := by
    rw [restoreTest_frame]
    exact {}
  have hraise (w : State) : BitStands i w (raiseCap w) := {}
  exact (((hclear.trans (sheds (shedPhase_sheds s))).trans htest).trans (applyBackoff _ _)).trans (hraise _)

theorem BitStands.restore (s : State) : BitStands i s (restore s) := by
  obtain h | ⟨k, -, -, h⟩ := restore_cases s <;> rw [h]
  · exact {}
  · have hunshed : BitStands i s (s.unshed k) := {}
    rw [restoreOne_eq]
    exact (hunshed.trans (of_act (refreshPath_act _ k))).trans (applyBackoff _ _)

theorem BitStands.evaluated (lst : Bool) (s : State) : BitStands i s (evaluated lst s) := by
  unfold Machine.evaluated
  split
  · exact compositeEvaluation s
  · exact (compositeEvaluation s).trans (restore _)

theorem BitStands.takeClipCount (clips : Nat) (s : State) : BitStands i s (takeClipCount clips s) := by
  by_cases h : s.params.clipLimit < clips ∧ s.gov.site = .transmitting
  · rw [takeClipCount_fault h.1 h.2]
    have hfault : BitStands i s s.faulted := {}
    exact (hfault.trans (of_site (siteLevels_frame _ _))).trans pending
  · rw [takeClipCount_quiet (by rwa [not_and_or, Nat.not_lt] at h)]
    exact {}

/-- Only the act that hands a path's bit touches it. -/
theorem BitStands.act {a : BoundaryAct} (hown : ∀ b, a ≠ .step b) (hne : a ≠ .bit i) (s : State) :
    BitStands i s (boundaryAct reports clips rest a s) := by
  cases a with
  | level j =>
    rw [boundaryAct, levelPath_eq]
    exact of_act (modPath_act s j _)
  | clips => exact takeClipCount clips s
  | evaluation => exact evaluated rest.isEmpty s
  | bit j =>
    obtain ⟨hb, ht⟩ := handBit_ne s (i := j) (j := i) fun h => hne (h ▸ rfl)
    exact ⟨hb, congrArg TxSide.tone ht⟩
  | step b => exact absurd rfl (hown b)

theorem BitStands.upTo {tail : List BoundaryAct} (hplain : PlainOrder l) (hne : .bit i ∉ l) (s : State) :
    BitStands i s (boundaryUpTo reports clips tail l s) :=
  boundaryUpTo_keeps (P := BitStands i s) (fun _ ha _ _ hu =>
    hu.trans (act (fun b hb => hplain b (hb ▸ ha)) (fun h => hne (h ▸ ha)) _)) {}

theorem BitStands.run (hplain : PlainOrder l) (hne : .bit i ∉ l) (s : State) :
    BitStands i s (boundaryRun reports clips l s) := by
  rw [boundaryRun_eq_upTo]
  exact upTo hplain hne s

/-! ### A condition only falls, but for the path restored -/

/-- Path i is FULL behind only when it was FULL before. -/
def OnlyFalls (i : PathIx) (s t : State) : Prop := (t.path i).cond = .full → (s.path i).cond = .full

/-- An evaluation restores another path than i, or none. -/
def NotRestored (i : PathIx) (s : State) : Prop := s.gov.restoreCandidate ≠ some i ∨ s.gov.restoreCount < 999

theorem NotRestored.keeps (h : NotRestored i s) (hb : s.gov.KeepsBudget t.gov) : NotRestored i t := by
  rwa [NotRestored, hb.candidate, hb.count]

theorem Restores.ne (h : Restores s t k) (hnot : NotRestored i s) : i ≠ k := by
  rintro rfl
  rcases hnot with hc | hc
  · exact hc h.held
  · exact absurd h.count (Nat.not_le.mpr hc)

theorem shedPhase_cond (hs : LevelsOk s) (h : ((shedPhase s).path i).cond = .full) : (s.path i).cond = .full := by
  rw [← (clearShedFlags_fields s i).2.1]
  rcases (shedPhase_sheds s).path (levelsOk_clearShedFlags hs) i with he | ⟨hfull, -⟩
  · rw [← he, h]
  · exact hfull

theorem OnlyFalls.evaluated (hs : LevelsOk s) (hnot : NotRestored i s) (lst : Bool) : OnlyFalls i s (evaluated lst s) := by
  intro h
  rcases evaluated_paths hs lst with hp | ⟨k, hk⟩
  · exact shedPhase_cond hs (hp i ▸ h)
  · exact shedPhase_cond hs (hk.others i (hk.ne hnot) ▸ h)

theorem OnlyFalls.act {a : BoundaryAct} (hown : ∀ b, a ≠ .step b) (hne : a ≠ .evaluation) (s : State) :
    OnlyFalls i s (boundaryAct reports clips rest a s) := by
  intro h
  rcases act_cond (reports := reports) (clips := clips) (rest := rest) (i := i) hown hne s with he | ⟨-, he⟩
  · rw [← he, h]
  · rw [he] at h
    cases h

theorem OnlyFalls.upTo {tail : List BoundaryAct} (hplain : PlainOrder l) (hnd : l.Nodup) (hs : LevelsOk s)
    (hnot : .evaluation ∈ l → NotRestored i s) : OnlyFalls i s (boundaryUpTo reports clips tail l s) := by
  induction l generalizing s with
  | nil => exact id
  | cons a l ih =>
    obtain ⟨ha, hl⟩ := List.nodup_cons.mp hnd
    have hown (b) : a ≠ .step b := fun h => hplain b (h ▸ List.mem_cons_self)
    rw [boundaryUpTo]
    by_cases he : a = .evaluation
    · subst he
      have hnext := ih (plain_tail hplain) hl (levelsOk_act (reports := reports) (clips := clips) (rest := l ++ tail) hs .evaluation)
        fun h => absurd h ha
      exact fun h => OnlyFalls.evaluated hs (hnot List.mem_cons_self) _ (hnext h)
    · have hnext := ih (plain_tail hplain) hl (levelsOk_act (reports := reports) (clips := clips) (rest := l ++ tail) hs a)
        fun h => (hnot (List.mem_cons_of_mem a h)).keeps (act_keepsBudget hown he s)
      exact fun h => OnlyFalls.act hown he s (hnext h)

theorem OnlyFalls.run (hplain : PlainOrder l) (hnd : l.Nodup) (hs : LevelsOk s) (hnot : .evaluation ∈ l → NotRestored i s) :
    OnlyFalls i s (boundaryRun reports clips l s) := by
  rw [boundaryRun_eq_upTo]
  exact upTo hplain hnd hs hnot

/-- Without the clip count and the evaluation the conditions stand. -/
theorem upTo_cond {tail : List BoundaryAct} (hplain : PlainOrder l) (hne : .evaluation ∉ l) (hclips : .clips ∉ l) (s : State) :
    ((boundaryUpTo reports clips tail l s).path i).cond = (s.path i).cond :=
  boundaryUpTo_keeps (P := fun u => (u.path i).cond = (s.path i).cond) (fun a ha rest u hu => by
    rcases act_cond (reports := reports) (clips := clips) (rest := rest) (i := i) (fun b hb => hplain b (hb ▸ ha))
      (fun h => hne (h ▸ ha)) u with h | ⟨h, -⟩
    · exact h.trans hu
    · exact absurd (h ▸ ha) hclips) rfl

/-! ### A boundary cut at the bit of one path -/

/-- The state of a boundary before its bit of path i. -/
def beforeBit (i : PathIx) (first last : List BoundaryAct) (s : State) : State :=
  boundaryUpTo (blockReports s) s.composite.clips (.bit i :: last) first (openBoundary s)

section cut
variable (hplain : PlainOrder order) (hcut : boundaryOrder order = first ++ .bit i :: last)
include hcut

theorem blockBoundary_bit (s : State) : blockBoundary order s =
    boundaryRun (blockReports s) s.composite.clips last (handBit i (beforeBit i first last s)) := by
  rw [blockBoundary, hcut, boundaryRun_append, boundaryRun_cons]
  rfl

include hplain

theorem bit_plain : PlainOrder first ∧ PlainOrder last := by
  have h := boundaryOrder_plain hplain
  rw [hcut] at h
  exact ⟨plain_left h, plain_tail (plain_right h)⟩

theorem bit_nodup : (first ++ .bit i :: last).Nodup := by
  have h := boundaryOrder_perm hplain
  rw [hcut] at h
  exact h.nodup_iff.mpr all_nodup

/-- The boundary's bit of path i: the check of the condition that it meets, and the tone of the set in use. -/
theorem boundary_bit (s : State) :
    (blockBoundary order s).builderPath i = { (s.builderPath i).checked ((beforeBit i first last s).path i).cond with
      bitPosition := (s.builderPath i).bitPosition + 1 } ∧
    ((blockBoundary order s).txSide i).tone = if (s.txSide i).pendingSet.cond = .off then none
      else some ((s.builderPath i).checked ((beforeBit i first last s).path i).cond).tone := by
  obtain ⟨hfirst, hlast⟩ := bit_plain hplain hcut
  have hperm := boundaryOrder_perm hplain
  rw [hcut] at hperm
  obtain ⟨hne₁, hne₂⟩ := order_once hperm
  have hbefore := BitStands.upTo (reports := blockReports s) (clips := s.composite.clips) (tail := .bit i :: last) hfirst hne₁
    (openBoundary s)
  have hside := (BoundaryFrame.upTo (reports := blockReports s) (clips := s.composite.clips) (tail := .bit i :: last) hfirst
    (openBoundary s)).tx i
  rw [blockBoundary_bit hcut s]
  have hafter := BitStands.run (reports := blockReports s) (clips := s.composite.clips) hlast hne₂
    (handBit i (beforeBit i first last s))
  obtain ⟨hself, htone⟩ := handBit_self (beforeBit i first last s) i
  have hbuilder : (beforeBit i first last s).builderPath i = s.builderPath i := hbefore.builder
  have huse : ((beforeBit i first last s).txSide i).inUse = (s.txSide i).pendingSet := by
    have h : ((beforeBit i first last s).txSide i).inUse = ((openBoundary s).txSide i).inUse :=
      (congrArg TxSide.inUse hside).trans rfl
    rw [h, openBoundary_tx]
    rfl
  rw [hbuilder] at hself htone
  refine ⟨hafter.builder.trans hself, hafter.tone.trans ?_⟩
  rw [htone, takeTone_eq, huse]

/-- What the bit meets and what the boundary leaves, when the evaluation restores another path or none. -/
theorem boundary_bit_falls (hs : LevelsOk s) (hnot : NotRestored i s) :
    (((beforeBit i first last s).path i).cond = .full → (s.path i).cond = .full) ∧
    (((blockBoundary order s).path i).cond = .full → ((beforeBit i first last s).path i).cond = .full) := by
  obtain ⟨hfirst, hlast⟩ := bit_plain hplain hcut
  have hnd := bit_nodup hplain hcut
  obtain ⟨hnd₁, hnd₂, hcross⟩ := List.nodup_append.mp hnd
  have hopen := LevelsOk.opening hs
  refine ⟨fun h => ?_, fun h => ?_⟩
  · have hfalls := OnlyFalls.upTo (reports := blockReports s) (clips := s.composite.clips) (tail := .bit i :: last) hfirst hnd₁
      hopen (i := i) (fun _ => hnot) h
    rwa [openBoundary_path] at hfalls
  · rw [blockBoundary_bit hcut s] at h
    have hbit : LevelsOk (handBit i (beforeBit i first last s)) := levelsOk_keeps.bit i _ (levelsOk_upTo hopen)
    have hrun := OnlyFalls.run (reports := blockReports s) (clips := s.composite.clips) (i := i) hlast
      (List.nodup_cons.mp hnd₂).2 hbit
    refine hrun (fun he => ?_) h
    have hne : .evaluation ∉ first := fun hf => hcross _ hf _ (List.mem_cons_of_mem _ he) rfl
    have hbudget := upTo_keepsBudget (reports := blockReports s) (clips := s.composite.clips) (tail := .bit i :: last) hfirst
      hne (openBoundary s)
    exact NotRestored.keeps (s := openBoundary s) hnot hbudget

end cut

/-! ### The check of R39 -/

section checked
variable {b : BuilderPath} {bs : List Byte} {c : Cond}

theorem checked_none (h : b.snapshot = none) : b.checked c = b ∧ b.tone = .mark := by
  have hdue : abandonDue c b = false := by rw [abandonDue, h]
  refine ⟨?_, by rw [BuilderPath.tone, h]⟩
  rw [BuilderPath.checked, hdue, Bool.or_false]

theorem checked_abandoned (h : b.abandoned = true) : b.checked c = b ∧ b.tone = .mark := by
  refine ⟨?_, ?_⟩
  · rw [BuilderPath.checked, h, Bool.true_or, ← h]
  · rw [BuilderPath.tone, h]
    cases b.snapshot <;> rfl

/-- A frame that promises nothing, has ended or keeps its promise goes on. -/
theorem checked_goes_on (hsnap : b.snapshot = some bs) (h : b.abandoned = false)
    (hkeeps : (byteAt bs 2).getLsbD 6 = true ∨ frameBits bs ≤ b.bitPosition ∨ c = .full) :
    b.checked c = b ∧ b.tone = frameTone bs b.bitPosition := by
  have hdue : abandonDue c b = false := by
    rw [abandonDue, hsnap]
    rcases hkeeps with he | he | he
    · simp [promisesFull, he]
    · simp [Nat.not_lt.mpr he]
    · simp [he]
  refine ⟨?_, by rw [BuilderPath.tone, hsnap, h]; rfl⟩
  rw [BuilderPath.checked, hdue, Bool.or_false]

/-- A frame whose promise is broken is abandoned. -/
theorem checked_breaks (hsnap : b.snapshot = some bs) (hflag : (byteAt bs 2).getLsbD 6 = false)
    (hpos : b.bitPosition < frameBits bs) (hc : c ≠ .full) :
    (b.checked c).abandoned = true ∧ (b.checked c).tone = .mark := by
  have hdue : abandonDue c b = true := by
    have hpromise : promisesFull bs = true := by rw [promisesFull, hflag]; rfl
    rw [abandonDue, hsnap]
    simp [hpromise, hpos, hc]
  have hab : (b.checked c).abandoned = true := by rw [BuilderPath.checked, hdue, Bool.or_true]
  exact ⟨hab, (checked_abandoned (c := c) hab).2⟩

end checked

end Sys2Proof.Machine

namespace Sys2Proof

open Machine

/-- Settles O12: the bit of a path meets the condition that stands at its place among the acts. -/
theorem boundaryHandsTagBits : Obligations.BoundaryHandsTagBits := by
  refine ⟨fun order s i hplain hs hnot => ?_, fun first last i bs s => ?_⟩
  · rw [answers_iff, effect]
    obtain ⟨first, last, hcut⟩ := order_split (boundaryOrder_perm hplain) (a := .bit i) fun b => by simp
    obtain ⟨hbuilder, htone⟩ := boundary_bit hplain hcut s
    obtain ⟨hmet, hleft⟩ := boundary_bit_falls hplain hcut hs hnot
    generalize ((beforeBit i first last s).path i).cond = met at *
    intro b c handed
    have hrecord : c = { b.checked met with bitPosition := b.bitPosition + 1 } := hbuilder
    have habandoned : c.abandoned = (b.checked met).abandoned :=
      (congrArg BuilderPath.abandoned hrecord).trans rfl
    refine ⟨?_, fun hnone => ?_, fun hab => ?_, fun bs hsnap hab => ⟨fun hkeeps => ?_, fun hflag hpos hfull => ?_⟩⟩
    · rw [habandoned, hrecord, BuilderPath.checked]
    · obtain ⟨hsame, hmark⟩ := checked_none (c := met) hnone
      exact ⟨htone.trans (by rw [hsame, hmark]), habandoned.trans (by rw [hsame])⟩
    · obtain ⟨hsame, hmark⟩ := checked_abandoned (c := met) hab
      exact ⟨htone.trans (by rw [hsame, hmark]), habandoned.trans (by rw [hsame, hab])⟩
    · obtain ⟨hsame, hnext⟩ := checked_goes_on hsnap hab (hkeeps.imp_right fun h => h.imp_right hleft)
      exact ⟨htone.trans (by rw [hsame, hnext]), habandoned.trans (by rw [hsame, hab])⟩
    · obtain ⟨hgone, hmark⟩ := checked_breaks hsnap hflag hpos fun h => hfull (hmet h)
      exact ⟨htone.trans (by rw [hmark]), habandoned.trans hgone⟩
  · intro order hplain hok hs hsnap hab hflag hpos
    rw [answers_iff, effect]
    have hcut : boundaryOrder order = first ++ .bit i :: last := boundaryOrder_of_ok hok
    obtain ⟨hfirst, hlast⟩ := bit_plain hplain hcut
    obtain ⟨-, -, hcross⟩ := List.nodup_append.mp (bit_nodup hplain hcut)
    have hapart {a : BoundaryAct} (hf : a ∈ first) (hl : a ∈ last) : False := hcross a hf a (List.mem_cons_of_mem _ hl) rfl
    obtain ⟨hbuilder, htone⟩ := boundary_bit hplain hcut s
    intro checked
    have hmet : checked ((beforeBit i first last s).path i).cond := by
      generalize ((beforeBit i first last s).path i).cond = met at *
      have habandoned := congrArg BuilderPath.abandoned hbuilder
      by_cases hfull : met = .full
      · obtain ⟨hsame, hnext⟩ := checked_goes_on (c := met) hsnap hab (.inr (.inr hfull))
        rw [hsame] at habandoned htone
        refine ⟨habandoned.trans (by rw [hab, hfull]; rfl), htone.trans ?_⟩
        rw [hnext, if_pos hfull]
      · obtain ⟨hgone, hmark⟩ := checked_breaks hsnap hflag hpos hfull
        refine ⟨habandoned.trans (hgone.trans (decide_eq_true hfull).symm), htone.trans ?_⟩
        rw [hmark, if_neg hfull]
    refine ⟨fun hclips he => ?_, fun hclips he => ?_⟩
    · have hsame : ((beforeBit i first last s).path i).cond = (s.path i).cond := by
        have h := upTo_cond (reports := blockReports s) (clips := s.composite.clips) (tail := .bit i :: last) (i := i) hfirst
          (fun h => hapart h he) (fun h => hapart h hclips) (openBoundary s)
        rw [openBoundary_path] at h
        exact h
      rw [← hsame]
      exact hmet
    · have hsame : ((blockBoundary order s).path i).cond = ((beforeBit i first last s).path i).cond := by
        rw [blockBoundary_bit hcut s, boundaryRun_eq_upTo]
        exact upTo_cond hlast (hapart he) (hapart hclips) _
      rw [hsame]
      exact hmet

end Sys2Proof
end
section
/-! PROOFS. What a block boundary without a clip fault leaves of the visit and of the site lines (O11). -/

namespace Sys2Proof.Machine

open Sys2Proof

variable {s t u : State} {i j k : PathIx} {reports : Vector (Option Nat) 12} {clips : Nat} {rest order l : List BoundaryAct}
  {first last : List BoundaryAct} {v : Visit}

/-! ### A condition turned -/

/-- The visit but for one of path i. -/
def visitBut (i : PathIx) (v : Option Visit) : Option Visit := v.filter fun x => x.path != i

theorem visitBut_self (h : v.path = i) : visitBut i (some v) = none := by simp [visitBut, h]

theorem visitBut_ne (h : v.path ≠ i) : visitBut i (some v) = some v := by simp [visitBut, h]

theorem cutVisitOf_visit (i : PathIx) (s : State) : (cutVisitOf i s).mon.visit = visitBut i s.mon.visit := by
  unfold cutVisitOf
  split
  · next h => rw [h]; rfl
  · next x h =>
    rw [h]
    by_cases hp : x.path = i
    · rw [if_pos (by simp [hp]), visitBut_self hp]
    · rw [if_neg (by simp [hp]), visitBut_ne hp, h]

theorem turnCond_visit (i : PathIx) (c : Cond) (s : State) : (turnCond i c s).mon.visit = visitBut i s.mon.visit := by
  have hcut := cutVisitOf_visit i (s.modPath i fun p => { p with cond := c })
  unfold turnCond
  dsimp only
  rw [keyUpdate_mon]
  split
  · exact hcut
  · exact hcut

/-- The key stands while a path is on the air before and behind. -/
theorem lines_stand (h : ActFrame s t) (hs : KeyOk s) (ht : KeyOk t) (hon : (s.path i).cond ≠ .off)
    (hoff : (t.path j).cond ≠ .off) : t.lines = s.lines := by
  have hair {w : State} {k : PathIx} (hw : (w.path k).cond ≠ .off) : w.anyOnAir = true :=
    List.any_eq_true.mpr ⟨k, mem_indices k, by simpa [State.onAir] using hw⟩
  have hold {w : State} (hw : KeyOk w) (ha : w.anyOnAir = true) : w.lines.txkey = true ∧ w.lines.keyHoldDeadline = none := by
    obtain ⟨hkey, hhold⟩ := hw
    rw [ha, Bool.not_true, Bool.and_false] at hhold
    exact ⟨hkey ha, Option.isSome_eq_false_iff.mp hhold |> Option.isNone_iff_eq_none.mp⟩
  obtain ⟨hkey, hnone⟩ := hold hs (hair hon)
  obtain ⟨hkey', hnone'⟩ := hold ht (hair hoff)
  have hlines : t.lines = { s.lines with txkey := t.lines.txkey, keyHoldDeadline := t.lines.keyHoldDeadline } := by rw [h]
  rw [hlines, hkey', hnone', ← hkey, ← hnone]

/-! ### Visit and lines through an evaluation -/

theorem shedOne_turns (hconds : CondsOk s) (hfull : (s.path i).cond = .full) : shedOne i s =
    turnCond i .tagOnly (recordEvent i .shed (s.modPath i fun p => { p with shed := true })) := by
  obtain ⟨hsite, hfault, hon, -⟩ := condOf_eq_full ((hconds i).symm.trans hfull)
  have hgov (w : State) (e : PathEvent) (f : PathRec → PathRec) : (recordEvent i e (w.modPath i f)).gov = w.gov := rfl
  have hcond : condOf s.gov.site ((recordEvent i .shed (s.modPath i fun p => { p with shed := true })).path i) = .tagOnly := by
    rw [recordEvent_path_self, State.path_modPath_self, hsite]
    simp [condOf, hfault, hon]
  have hold : ((recordEvent i .shed (s.modPath i fun p => { p with shed := true })).path i).cond = .full := by
    rw [recordEvent_path_self, State.path_modPath_self]
    exact hfull
  rw [shedOne, refreshPath, hgov, hcond, hold]
  rfl

/-- A path that may be restored turns to FULL. -/
theorem restorable_turns (hs : LevelsOk s) (h : restorable (s.path k) = true) :
    restoreOne k s = turnCond k .full (s.unshed k) := by
  obtain ⟨-, hon, hcond⟩ := restorable_iff.mp h
  obtain ⟨hsite, hfault⟩ := condOf_onAir (site := s.gov.site) (p := s.path k) (by rw [← LevelsOk.conds hs k, hcond]; decide)
  exact restoreOne_turns hon hcond hfault hsite

/-- A visit stands while its path is not shed, and is cut when it is; the lines stand. -/
theorem Sheds.visit (h : Sheds s t) (hs : LevelsOk s) : (s.mon.visit = none → t.mon.visit = none) ∧
    (∀ v, s.mon.visit = some v → (Shed s t v.path → t.mon.visit = none) ∧ (¬Shed s t v.path → t.mon.visit = some v)) ∧
    t.lines = s.lines := by
  induction h with
  | done s => exact ⟨id, fun v hv => ⟨fun hshed => absurd hshed.1 hshed.2, fun _ => hv⟩, rfl⟩
  | @shed s t k hlow hpick hrest ih =>
    obtain ⟨hk, -⟩ := (shedPath_spec s).2 k hpick
    have hs' := levelsOk_shedOne hs k
    obtain ⟨hnone, hsome, hlines⟩ := ih hs'
    have hvisit : (shedOne k s).mon.visit = visitBut k s.mon.visit := by
      rw [shedOne_turns (LevelsOk.conds hs) hk, turnCond_visit]
      rfl
    have hself := shedOne_path_self (LevelsOk.conds hs) hk
    refine ⟨fun h => hnone (by rw [hvisit, h]; rfl), fun v hv => ?_, hlines.trans ?_⟩
    · by_cases hp : v.path = k
      · have hcut := hnone (by rw [hvisit, hv, visitBut_self hp])
        refine ⟨fun _ => hcut, fun hnot => absurd ⟨by rw [hp]; exact hk, fun hfull => ?_⟩ hnot⟩
        rcases hrest.path hs' k with hkept | ⟨hagain, -⟩
        · rw [hp, hkept, hself] at hfull
          cases hfull
        · rw [hself] at hagain
          cases hagain
      · obtain ⟨hcut, hstands⟩ := hsome v (by rw [hvisit, hv, visitBut_ne hp])
        rw [Shed, shedOne_path_ne s hp] at hcut hstands
        exact ⟨hcut, hstands⟩
    · refine lines_stand (i := k) (j := k) (Acts.shedOne s k).frame (LevelsOk.key hs) (LevelsOk.key hs') ?_ ?_
      · rw [hk]
        decide
      · rw [hself]
        exact nofun

theorem restoreTest_keeps (s : State) : (restoreTest s).mon = s.mon ∧ (restoreTest s).lines = s.lines := by
  rw [restoreTest_frame]
  exact ⟨rfl, rfl⟩

theorem compositeEvaluation_keeps (s : State) : (compositeEvaluation s).mon = (shedPhase s).mon ∧
    (compositeEvaluation s).lines = (shedPhase s).lines := by
  have hraise (w : State) : (raiseCap w).mon = w.mon ∧ (raiseCap w).lines = w.lines := ⟨rfl, rfl⟩
  have hbackoff (cap : Nat) (w : State) : (applyBackoff cap w).mon = w.mon ∧ (applyBackoff cap w).lines = w.lines := by
    rw [applyBackoff_frame]
    exact ⟨rfl, rfl⟩
  have htest := restoreTest_keeps (shedPhase s)
  unfold shedPhase at *
  unfold compositeEvaluation
  dsimp only
  rw [(hraise _).1, (hraise _).2, (hbackoff _ _).1, (hbackoff _ _).2]
  exact htest

theorem restored_keeps (hs : LevelsOk s) (h : restorable (s.path k) = true) (cap : Nat) :
    (applyBackoff cap (restoreOne k s)).mon.visit = visitBut k s.mon.visit ∧
    (applyBackoff cap (restoreOne k s)).lines = s.lines := by
  have hturns := restorable_turns hs h
  have hkeeps (w : State) : (applyBackoff cap w).mon = w.mon ∧ (applyBackoff cap w).lines = w.lines := ⟨rfl, rfl⟩
  obtain ⟨-, -, hcond⟩ := restorable_iff.mp h
  rw [(hkeeps _).1, (hkeeps _).2]
  refine ⟨by rw [hturns, turnCond_visit]; rfl, ?_⟩
  have hkey : KeyOk (s.unshed k) := (LevelsOk.key hs).congr (fun j => ?_) rfl rfl
  · refine lines_stand (s := s.unshed k) (i := k) (j := k) ?_ hkey (LevelsOk.key (levelsOk_restoreOne hs k)) ?_ ?_
    · rw [restoreOne_eq]
      exact refreshPath_act _ k
    · rw [unshed_path_self, hcond]
      decide
    · rw [hturns, turnCond_path_self]
      exact nofun
  · rcases eq_or_ne j k with rfl | hne
    · rw [unshed_path_self]
    · rw [unshed_path_ne _ hne]

/-- An evaluation leaves the site lines. -/
theorem evaluated_lines (hs : LevelsOk s) (lst : Bool) : (evaluated lst s).lines = s.lines := by
  have hphase := ((shedPhase_sheds s).visit (levelsOk_clearShedFlags hs)).2.2
  have heval := (compositeEvaluation_keeps s).2.trans hphase
  rcases evaluated_cases hs lst with h | ⟨k, hk, h⟩
  · rw [h]
    exact heval
  · rw [h, (restored_keeps (levelsOk_compositeEvaluation hs) ?_ _).2]
    · exact heval
    · rw [compositeEvaluation_phase]
      exact ((restoreCandidate_spec _).2 k hk.candidate).1

/-- An evaluation cuts a visit just when the condition of its path has changed. -/
theorem evaluated_visit (hs : LevelsOk s) (lst : Bool) : (s.mon.visit = none → (evaluated lst s).mon.visit = none) ∧
    ∀ v, s.mon.visit = some v →
      (((evaluated lst s).path v.path).cond ≠ (s.path v.path).cond → (evaluated lst s).mon.visit = none) ∧
      (((evaluated lst s).path v.path).cond = (s.path v.path).cond → (evaluated lst s).mon.visit = some v) := by
  have hs' := levelsOk_clearShedFlags hs
  have hsheds := shedPhase_sheds s
  obtain ⟨hnone, hsome, -⟩ := hsheds.visit hs'
  have hclear (j : PathIx) : ((clearShedFlags s).path j).cond = (s.path j).cond := (clearShedFlags_fields s j).2.1
  have hturned {j : PathIx} (h : Sheds.Shed (clearShedFlags s) (shedPhase s) j) :
      ((shedPhase s).path j).cond ≠ (s.path j).cond := fun he => h.2 (by rw [he, ← hclear]; exact h.1)
  have hstood {j : PathIx} (h : ¬Sheds.Shed (clearShedFlags s) (shedPhase s) j) :
      ((shedPhase s).path j).cond = (s.path j).cond := by rw [hsheds.path_of_not_shed hs' h, hclear]
  have heval := congrArg Monitor.visit (compositeEvaluation_keeps s).1
  rcases evaluated_cases hs lst with h | ⟨k, hk, h⟩
  · refine ⟨fun hn => by rw [h, heval]; exact hnone hn, fun v hv => ?_⟩
    obtain ⟨hcut, hstands⟩ := hsome v hv
    rw [h, compositeEvaluation_phase, heval]
    by_cases hshed : Sheds.Shed (clearShedFlags s) (shedPhase s) v.path
    · exact ⟨fun _ => hcut hshed, fun he => absurd he (hturned hshed)⟩
    · exact ⟨fun hne => absurd (hstood hshed) hne, fun _ => hstands hshed⟩
  · have hmay : restorable ((compositeEvaluation s).path k) = true := by
      rw [compositeEvaluation_phase]
      exact ((restoreCandidate_spec _).2 k hk.candidate).1
    have hvisit : (evaluated lst s).mon.visit = visitBut k (shedPhase s).mon.visit := by
      rw [h, (restored_keeps (levelsOk_compositeEvaluation hs) hmay _).1, heval]
    refine ⟨fun hn => by rw [hvisit, hnone hn]; rfl, fun v hv => ?_⟩
    obtain ⟨hcut, hstands⟩ := hsome v hv
    rw [hvisit]
    by_cases hp : v.path = k
    · have hnot := hk.not_shed hs
      have hkept := hstands (by rw [hp]; exact hnot)
      have hcond : ((evaluated lst s).path v.path).cond ≠ (s.path v.path).cond := by
        obtain ⟨-, -, htag⟩ := restorable_iff.mp hmay
        rw [compositeEvaluation_phase, hstood hnot] at htag
        rw [hp, hk.self, htag]
        exact nofun
      exact ⟨fun _ => by rw [hkept, visitBut_self hp], fun he => absurd he hcond⟩
    · rw [hk.others _ hp]
      by_cases hshed : Sheds.Shed (clearShedFlags s) (shedPhase s) v.path
      · exact ⟨fun _ => by rw [hcut hshed]; rfl, fun he => absurd he (hturned hshed)⟩
      · exact ⟨fun hne => absurd (hstood hshed) hne, fun _ => by rw [hstands hshed, visitBut_ne hp]⟩

/-! ### A boundary without a clip fault -/

/-- The governor, the lines, the visit and the conditions stand. -/
structure QuietStands (s t : State) : Prop where
  params : t.params = s.params := by rfl
  gov : t.gov = s.gov := by rfl
  lines : t.lines = s.lines := by rfl
  visit : t.mon.visit = s.mon.visit := by rfl
  cond : ∀ i : PathIx, (t.path i).cond = (s.path i).cond := by exact fun _ => rfl

theorem QuietStands.trans (h : QuietStands s t) (g : QuietStands t u) : QuietStands s u :=
  ⟨g.params.trans h.params, g.gov.trans h.gov, g.lines.trans h.lines, g.visit.trans h.visit, fun i => (g.cond i).trans (h.cond i)⟩

theorem QuietStands.level (reports : Vector (Option Nat) 12) (j : PathIx) (s : State) : QuietStands s (levelPath reports j s) := by
  have hcond (i : PathIx) : ((levelPath reports j s).path i).cond = (s.path i).cond := by
    rcases eq_or_ne i j with rfl | h
    · rw [levelPath_self, levelled_writes]
    · rw [levelPath_ne _ _ h]
  rw [levelPath_eq] at *
  exact { cond := hcond }

/-- No clip fault can be due. -/
def ClipsQuiet (clips : Nat) (s : State) : Prop := clips ≤ s.params.clipLimit ∨ s.gov.site ≠ .transmitting

theorem ClipsQuiet.stands (h : ClipsQuiet clips s) (hparams : t.params = s.params) (hsite : t.gov.site = s.gov.site) :
    ClipsQuiet clips t := by rwa [ClipsQuiet, hparams, hsite]

theorem QuietStands.act {a : BoundaryAct} (hown : ∀ b, a ≠ .step b) (hne : a ≠ .evaluation) (hquiet : ClipsQuiet clips s) :
    QuietStands s (boundaryAct reports clips rest a s) := by
  cases a with
  | level j => exact level reports j s
  | clips =>
    rw [boundaryAct, takeClipCount_quiet hquiet]
    exact {}
  | evaluation => exact absurd rfl hne
  | bit j => exact {}
  | step b => exact absurd rfl (hown b)

theorem QuietStands.upTo {tail : List BoundaryAct} (hplain : PlainOrder l) (hne : .evaluation ∉ l) (hquiet : ClipsQuiet clips s) :
    QuietStands s (boundaryUpTo reports clips tail l s) :=
  boundaryUpTo_keeps (P := QuietStands s) (fun _ ha _ _ hu => hu.trans (act (fun b hb => hplain b (hb ▸ ha))
    (fun h => hne (h ▸ ha)) (hquiet.stands hu.params (congrArg Governor.site hu.gov)))) {}

theorem QuietStands.run (hplain : PlainOrder l) (hne : .evaluation ∉ l) (hquiet : ClipsQuiet clips s) :
    QuietStands s (boundaryRun reports clips l s) := by
  rw [boundaryRun_eq_upTo]
  exact upTo hplain hne hquiet

section cut
variable (hplain : PlainOrder order) (hcut : boundaryOrder order = first ++ .evaluation :: last)
  (hquiet : ClipsQuiet s.composite.clips s)
include hplain hcut hquiet

theorem before_quiet : QuietStands (openBoundary s) (beforeEvaluation first last s) :=
  QuietStands.upTo (cut_plain hplain hcut).1 (cut_once hplain hcut).1 (hquiet.stands (s := s) rfl rfl)

theorem boundary_quiet : QuietStands (afterEvaluation first last s) (blockBoundary order s) := by
  have hbefore := before_quiet hplain hcut hquiet
  have hparams : (afterEvaluation first last s).params = s.params := by
    rw [(after_frame hplain hcut s).frame]
    rfl
  have hsite : (afterEvaluation first last s).gov.site = s.gov.site :=
    (evaluated_keepsFaults _ _).site.trans (congrArg Governor.site hbefore.gov)
  rw [blockBoundary_cut hcut]
  exact QuietStands.run (cut_plain hplain hcut).2 (cut_once hplain hcut).2 (hquiet.stands hparams hsite)

end cut

/-! ### No visit in progress -/

theorem act_visit_none {a : BoundaryAct} (hown : ∀ b, a ≠ .step b) (hs : LevelsOk s) (h : s.mon.visit = none) :
    (boundaryAct reports clips rest a s).mon.visit = none := by
  cases a with
  | level j => exact (QuietStands.level reports j s).visit.trans h
  | clips =>
    by_cases hfault : s.params.clipLimit < clips ∧ s.gov.site = .transmitting
    · have hkeeps (w : State) : (silencePending w).mon = w.mon := rfl
      have hsite : s.faulted.gov.site = .transmitting := (recordFault_site s.now s.gov).trans hfault.2
      rw [boundaryAct, takeClipCount_fault hfault.1 hfault.2, hkeeps]
      exact siteLevels_visit _ hsite
    · rw [boundaryAct, takeClipCount_quiet (by rwa [not_and_or, Nat.not_lt] at hfault)]
      exact h
  | evaluation => exact (evaluated_visit hs _).1 h
  | bit j => exact h
  | step b => exact absurd rfl (hown b)

theorem run_visit_none (hplain : PlainOrder l) (hs : LevelsOk s) (h : s.mon.visit = none) :
    (boundaryRun reports clips l s).mon.visit = none :=
  (boundaryRun_keeps_of (P := fun u => LevelsOk u ∧ u.mon.visit = none) (fun a ha _ _ hu =>
    ⟨levelsOk_act hu.1 a, act_visit_none (fun b hb => hplain b (hb ▸ ha)) hu.1 hu.2⟩) ⟨hs, h⟩).2

/-! ### The reports that the opening hands on -/

theorem openBoundary_visit (s : State) :
    (openBoundary s).mon.visit = s.mon.visit.map (Visit.takeReport s.mon.rx.report) := rfl

theorem openBoundary_dwell (s : State) :
    (openBoundary s).survey.dwell = s.survey.dwell.map (Dwell.takeReport s.params s.survey.rx.report) := rfl

theorem Visit.takeReport_path (report : Option Nat) (v : Visit) : (v.takeReport report).path = v.path := by
  unfold Visit.takeReport
  split <;> rfl

theorem Visit.takeReport_warmUp (h : v.phase = .warmUp) : v.takeReport none = { v with phase := .listening } := by
  simp [Visit.takeReport, h]

theorem Visit.takeReport_listening (report : Option Nat) (h : v.phase = .listening) : v.takeReport report = v := by
  simp [Visit.takeReport, h]

theorem report_warmUp {r : RxSide} (h : r.warmUp = true) : r.report = none := if_pos h

theorem report_measured {r : RxSide} (h : r.warmUp = false) : r.report = some (r.sum / 256) := if_neg (by rw [h]; decide)

section dwell
variable {d : Dwell} {p : Params} {m : Nat}

theorem Dwell.takeReport_warmUp (h : d.phase = .warmUp) : d.takeReport p none = { d with phase := .check } := by
  simp [Dwell.takeReport, h]

theorem Dwell.takeReport_check (h : d.phase = .check) (hless : d.checks < 20) : d.takeReport p (some m) = { d with
    checks := d.checks + 1, good := if p.mFloor ≤ m then d.good + 1 else d.good, latest := some m } := by
  simp [Dwell.takeReport, h, hless]

theorem Dwell.takeReport_listening (h : d.phase = .listening) : d.takeReport p (some m) = { d with latest := some m } := by
  simp [Dwell.takeReport, h]

theorem Dwell.takeReport_none (h : d.phase ≠ .warmUp) : d.takeReport p none = d := by
  cases hp : d.phase with
  | warmUp => exact absurd hp h
  | check => simp [Dwell.takeReport, hp]
  | listening => simp [Dwell.takeReport, hp]

end dwell

/-- The survey side's close, field by field. -/
theorem openBoundary_survey (s : State) : (openBoundary s).survey.rx = { s.survey.rx with
    sum := 0, count := 0, warmUp := s.unloaded
    latest := if s.survey.rx.warmUp then s.survey.rx.latest else some (s.survey.rx.sum / 256) } := by
  have hclose : (openBoundary s).survey.rx = closeSurvey s.station s.survey.rx := rfl
  have hstation : (!listening s.station) = s.unloaded := by
    rw [State.unloaded]
    cases s.station <;> rfl
  rw [hclose, closeSurvey_eq, closeSurvey_warmUp, RxSide.close_eq, hstation]

end Sys2Proof.Machine

namespace Sys2Proof

open Machine

/-- Settles O11: the opening hands the reports on, and only the evaluation turns a condition and cuts its visit. -/
theorem boundaryReportsToDwellAndVisit : Obligations.BoundaryReportsToDwellAndVisit := by
  intro order s hplain hs
  rw [answers_iff, effect]
  intro M
  have hframe : BoundaryFrame (openBoundary s) (blockBoundary order s) := BoundaryFrame.run (boundaryOrder_plain hplain) _
  have hsurvey : (blockBoundary order s).survey = (openBoundary s).survey := by rw [hframe.frame]
  have hmon : (blockBoundary order s).mon.rx = (openBoundary s).mon.rx := by rw [hframe.frame]
  have hopen := LevelsOk.opening hs
  refine ⟨?_, ?_, fun hnone => ?_, fun d hd => ?_, fun hnone => ?_, fun v hv hquiet => ?_⟩
  · rw [hsurvey]
    exact openBoundary_survey s
  · rw [hmon]
    exact RxSide.close_eq _
  · rw [hsurvey, openBoundary_dwell, hnone]
    rfl
  · have hdwell : (blockBoundary order s).survey.dwell = some (d.takeReport s.params s.survey.rx.report) := by
      rw [hsurvey, openBoundary_dwell, hd]
      rfl
    refine ⟨fun hp hw => ?_, fun hp hw hless => ?_, fun hp hw => ?_, fun hp hw => ?_⟩
    · rw [hdwell, report_warmUp hw, Dwell.takeReport_warmUp hp]
    · rw [hdwell, report_measured hw, Dwell.takeReport_check hp hless]
    · rw [hdwell, report_measured hw, Dwell.takeReport_listening hp]
    · rw [hdwell, report_warmUp hw, Dwell.takeReport_none hp]
  · exact run_visit_none (boundaryOrder_plain hplain) hopen (by rw [openBoundary_visit, hnone]; rfl)
  · obtain ⟨first, last, hcut⟩ := exists_cut hplain
    have hbefore := before_quiet hplain hcut hquiet
    have hafter := boundary_quiet hplain hcut hquiet
    have hu := levelsOk_before first last hs
    have hvisit : (beforeEvaluation first last s).mon.visit = some (v.takeReport s.mon.rx.report) := by
      rw [hbefore.visit, openBoundary_visit, hv]
      rfl
    obtain ⟨hcutVisit, hstands⟩ := (evaluated_visit hu last.isEmpty).2 _ hvisit
    have hcond : ((beforeEvaluation first last s).path v.path).cond = (s.path v.path).cond := by
      rw [hbefore.cond, openBoundary_path]
      rfl
    rw [Visit.takeReport_path, hcond] at hcutVisit hstands
    rw [hafter.visit, hafter.cond]
    refine ⟨hcutVisit, fun hsame => ⟨fun hp hw => ?_, fun hp => ?_⟩⟩
    · rw [report_warmUp hw, Visit.takeReport_warmUp hp] at hstands
      exact hstands hsame
    · rw [Visit.takeReport_listening _ hp] at hstands
      exact hstands hsame

end Sys2Proof
end
section
/-! PROOFS. A clip fault at a block boundary (O15). -/

namespace Sys2Proof.Machine

open Sys2Proof

variable {s t u : State} {i j k : PathIx} {reports : Vector (Option Nat) 12} {clips : Nat} {rest order l : List BoundaryAct}
  {first last : List BoundaryAct}

/-! ### The governor's record of a fault -/

theorem Governor.KeepsFaults.fields {g h : Governor} (hk : g.KeepsFaults h) : h.faultHistory = g.faultHistory ∧
    h.lastMuteEnd = g.lastMuteEnd ∧ h.muteDeadline = g.muteDeadline ∧ h.lockoutDeadline = g.lockoutDeadline ∧
    h.graceDeadline = g.graceDeadline ∧ h.site = g.site ∧ h.lockoutFlag = g.lockoutFlag := by
  unfold KeepsFaults at hk
  rw [hk]
  exact ⟨rfl, rfl, rfl, rfl, rfl, rfl, rfl⟩

/-- A site that transmits runs without mute and lockout (R139). -/
theorem LevelsOk.transmitting (hs : LevelsOk s) (h : s.gov.site = .transmitting) :
    s.station = .running ∧ s.gov.lockoutDeadline = none ∧ s.gov.muteDeadline = none := by
  rw [LevelsOk.site hs, State.derivedSite, siteOf] at h
  split at h
  · cases h
  · next hst =>
    split at h
    · cases h
    · next hlock =>
      split at h
      · cases h
      · next hmute => exact ⟨by simpa using hst, by simpa using hlock, by simpa using hmute⟩

/-- The fault history with the fault of this time (R142). -/
def faultTimes (now : Time) (ts : List Time) : List Time := recentTimes now ts ++ [now]

theorem recordFault_third {now : Time} {g : Governor} (h : 3 ≤ (faultTimes now g.faultHistory).length) : g.recordFault now =
    { g with faultHistory := faultTimes now g.faultHistory, lockoutDeadline := some (later now 900000), lockoutFlag := true } :=
  if_pos h

theorem recordFault_early {now : Time} {g : Governor} (h : (faultTimes now g.faultHistory).length < 3) : g.recordFault now =
    { g with faultHistory := faultTimes now g.faultHistory, muteDeadline := some (later now (muteLength now g.lastMuteEnd)) } :=
  if_neg (Nat.not_le.mpr h)

/-- Every path is OFF, with its pending set OFF. -/
def Silenced (s : State) : Prop := ∀ i : PathIx, (s.path i).cond = .off ∧ (s.txSide i).pendingSet = ⟨.off, 0, 0⟩

/-- What a clip fault leaves: the history, the grace deadline, and a mute or at the third fault a lockout. -/
structure FaultTaken (now : Time) (grace : Nat) (before after : Governor) : Prop where
  history : after.faultHistory = faultTimes now before.faultHistory
  grace : after.graceDeadline = some (laterS now grace)
  mute : (faultTimes now before.faultHistory).length < 3 → after.site = .muted ∧ after.lockoutDeadline = none ∧
    after.muteDeadline = some (later now (muteLength now before.lastMuteEnd))
  lockout : 3 ≤ (faultTimes now before.faultHistory).length → after.site = .lockedOut ∧ after.lockoutFlag = true ∧
    after.muteDeadline = none ∧ after.lockoutDeadline = some (later now 900000)

theorem faultTaken_writeSite (hs : LevelsOk s) (hsite : s.gov.site = .transmitting) :
    FaultTaken s.now s.params.silenceGrace s.gov (writeSite s.faulted.derivedSite s.faulted).gov := by
  obtain ⟨hst, hlock, hmute⟩ := LevelsOk.transmitting hs hsite
  have hold : s.faulted.gov.site = .transmitting := (recordFault_site s.now s.gov).trans hsite
  have hgov : s.faulted.gov = s.gov.recordFault s.now := rfl
  have hwrite (x : Site) : (writeSite x s.faulted).gov = { s.gov.recordFault s.now with
      site := x, graceDeadline := graceAfter s.now s.params.silenceGrace .transmitting x (s.gov.recordFault s.now).graceDeadline } := by
    rw [← hold]
    rfl
  rw [hwrite]
  rcases Nat.lt_or_ge (faultTimes s.now s.gov.faultHistory).length 3 with h | h
  · have hderived : s.faulted.derivedSite = .muted := by
      rw [State.derivedSite, hgov, recordFault_early h]
      simp only [hlock]
      exact (congrArg (fun x => siteOf x none _ _) hst).trans rfl
    rw [hderived, recordFault_early h]
    exact ⟨rfl, rfl, fun _ => ⟨rfl, hlock, rfl⟩, fun h' => absurd h' (Nat.not_le.mpr h)⟩
  · have hderived : s.faulted.derivedSite = .lockedOut := by
      rw [State.derivedSite, hgov, recordFault_third h]
      exact (congrArg (fun x => siteOf x (some _) _ _) hst).trans rfl
    rw [hderived, recordFault_third h]
    exact ⟨rfl, rfl, fun h' => absurd h' (Nat.not_lt.mpr h), fun _ => ⟨rfl, rfl, hmute, rfl⟩⟩

/-- A clip fault silences every path and cuts the visit. -/
theorem takeClipCount_silences (hclips : s.params.clipLimit < clips) (hsite : s.gov.site = .transmitting) :
    Silenced (takeClipCount clips s) ∧ (takeClipCount clips s).mon.visit = none := by
  refine ⟨fun i => ⟨by rw [takeClipCount_fault_path hclips hsite], ?_⟩, ?_⟩
  · rw [takeClipCount_fault hclips hsite]
    simp [silencePending, State.txSide, TxSet.silent]
  · have hkeeps (w : State) : (silencePending w).mon = w.mon := rfl
    rw [takeClipCount_fault hclips hsite, hkeeps]
    exact siteLevels_visit _ ((recordFault_site s.now s.gov).trans hsite)

/-! ### The acts beside the clip count -/

theorem act_keepsFaults {a : BoundaryAct} (hown : ∀ b, a ≠ .step b) (hne : a ≠ .clips) (s : State) :
    s.gov.KeepsFaults (boundaryAct reports clips rest a s).gov := by
  cases a with
  | level j =>
    rw [boundaryAct, levelPath_gov]
    exact .refl _
  | clips => exact absurd rfl hne
  | evaluation => exact evaluated_keepsFaults _ s
  | bit j => exact .refl _
  | step b => exact absurd rfl (hown b)

theorem upTo_keepsFaults {tail : List BoundaryAct} (hplain : PlainOrder l) (hne : .clips ∉ l) (s : State) :
    s.gov.KeepsFaults (boundaryUpTo reports clips tail l s).gov :=
  boundaryUpTo_keeps (P := fun u => s.gov.KeepsFaults u.gov) (fun _ ha _ _ hu =>
    hu.trans (act_keepsFaults (fun b hb => hplain b (hb ▸ ha)) (fun h => hne (h ▸ ha)) _)) (.refl _)

theorem run_keepsFaults (hplain : PlainOrder l) (hne : .clips ∉ l) (s : State) :
    s.gov.KeepsFaults (boundaryRun reports clips l s).gov := by
  rw [boundaryRun_eq_upTo]
  exact upTo_keepsFaults hplain hne s

/-- No evaluation puts a silenced path on the air. -/
theorem Silenced.evaluated (h : Silenced s) (hs : LevelsOk s) (lst : Bool) : Silenced (evaluated lst s) := by
  have hphase (j : PathIx) : ((shedPhase s).path j).cond = .off := by
    have hclear : ((clearShedFlags s).path j).cond = .off := (clearShedFlags_fields s j).2.1.trans (h j).1
    rcases (shedPhase_sheds s).path (levelsOk_clearShedFlags hs) j with hp | ⟨hfull, -⟩
    · rw [hp]
      exact hclear
    · rw [hclear] at hfull
      cases hfull
  have hpaths : ∀ j, (Machine.evaluated lst s).path j = (shedPhase s).path j := by
    rcases evaluated_paths hs lst with hp | ⟨k, hk⟩
    · exact hp
    · obtain ⟨-, -, htag⟩ := restorable_iff.mp ((restoreCandidate_spec _).2 k hk.candidate).1
      rw [hphase] at htag
      cases htag
  intro i
  have hoff : ((Machine.evaluated lst s).path i).cond = .off := by rw [hpaths, hphase]
  exact ⟨hoff, ((settled_evaluated lst s).pending i).trans (pendingFor_off hoff)⟩

theorem Silenced.act {a : BoundaryAct} (hown : ∀ b, a ≠ .step b) (hne : a ≠ .clips) (h : Silenced s) (hs : LevelsOk s) :
    Silenced (boundaryAct reports clips rest a s) := by
  cases a with
  | level j => exact fun i => ⟨((QuietStands.level reports j s).cond i).trans (h i).1, by
      rw [boundaryAct, levelPath_eq]
      exact (h i).2⟩
  | clips => exact absurd rfl hne
  | evaluation => exact h.evaluated hs _
  | bit j =>
    refine fun i => ⟨(h i).1, ?_⟩
    rw [boundaryAct]
    rcases eq_or_ne i j with rfl | hij
    · rw [(handBit_self s i).2]
      exact (h i).2
    · rw [(handBit_ne s hij).2]
      exact (h i).2
  | step b => exact absurd rfl (hown b)

theorem Silenced.run (hplain : PlainOrder l) (hne : .clips ∉ l) (h : Silenced s) (hs : LevelsOk s) :
    Silenced (boundaryRun reports clips l s) :=
  (boundaryRun_keeps_of (P := fun u => LevelsOk u ∧ Silenced u) (fun a ha _ _ hu =>
    ⟨levelsOk_act hu.1 a, hu.2.act (fun b hb => hplain b (hb ▸ ha)) (fun h => hne (h ▸ ha)) hu.1⟩) ⟨hs, h⟩).2

/-! ### A boundary with a clip fault -/

theorem FaultTaken.keeps {now : Time} {grace : Nat} {g g' h h' : Governor} (hf : FaultTaken now grace g h)
    (hg : g'.KeepsFaults g) (hh : h.KeepsFaults h') : FaultTaken now grace g' h' := by
  obtain ⟨hist, hlast, -⟩ := hg.fields
  obtain ⟨hist', -, hmute', hlock', hgrace', hsite', hflag'⟩ := hh.fields
  obtain ⟨h₁, h₂, h₃, h₄⟩ := hf
  rw [hist] at h₁ h₃ h₄
  rw [hlast] at h₃
  refine ⟨hist'.trans h₁, hgrace'.trans h₂, fun hlt => ?_, fun hge => ?_⟩
  · rw [hsite', hlock', hmute']
    exact h₃ hlt
  · rw [hsite', hlock', hmute', hflag']
    exact h₄ hge

/-- The boundary's fault: its governor, its silence and its visit. -/
theorem boundary_fault (hplain : PlainOrder order) (hs : LevelsOk s) (hclips : s.params.clipLimit < s.composite.clips)
    (hsite : s.gov.site = .transmitting) :
    FaultTaken (s.timing.ms + 1) s.params.silenceGrace s.gov (blockBoundary order s).gov ∧ Silenced (blockBoundary order s) ∧
      (blockBoundary order s).mon.visit = none := by
  have hown := boundaryOrder_plain hplain
  have hperm := boundaryOrder_perm hplain
  rw [blockBoundary]
  obtain ⟨first, last, hcut⟩ := order_split hperm (a := .clips) fun b => by simp
  rw [hcut] at hperm hown ⊢
  obtain ⟨hne₁, hne₂⟩ := order_once hperm
  have hlast := plain_tail (plain_right hown)
  have hframe := BoundaryFrame.upTo (reports := blockReports s) (clips := s.composite.clips) (tail := .clips :: last)
    (plain_left hown) (openBoundary s)
  have hfaults := upTo_keepsFaults (reports := blockReports s) (clips := s.composite.clips) (tail := .clips :: last)
    (plain_left hown) hne₁ (openBoundary s)
  have hu := levelsOk_upTo (reports := blockReports s) (clips := s.composite.clips) (tail := .clips :: last) (l := first)
    (LevelsOk.opening hs)
  rw [boundaryRun_append, boundaryRun_cons, boundaryAct]
  generalize boundaryUpTo (blockReports s) s.composite.clips (.clips :: last) first (openBoundary s) = u at *
  have hparams : u.params = s.params := by rw [hframe.frame]; rfl
  have hnow : u.now = s.timing.ms + 1 := by rw [hframe.frame]; rfl
  have hclips' : u.params.clipLimit < s.composite.clips := by rw [hparams]; exact hclips
  have hsite' : u.gov.site = .transmitting := hfaults.site.trans hsite
  have htaken := faultTaken_writeSite hu hsite'
  rw [hnow, hparams, ← takeClipCount_fault_gov hclips' hsite'] at htaken
  obtain ⟨hsilent, hvisit⟩ := takeClipCount_silences hclips' hsite'
  have hw := levelsOk_takeClipCount hu s.composite.clips
  exact ⟨htaken.keeps hfaults (run_keepsFaults hlast hne₂ _), hsilent.run hlast hne₂ hw, run_visit_none hlast hw hvisit⟩

end Sys2Proof.Machine

namespace Sys2Proof

open Machine

/-- Settles O15: the clip count's act alone takes the fault, and without one nothing writes the history, the deadlines, the
site state or the lines. -/
theorem boundaryClipFault : Obligations.BoundaryClipFault := by
  intro order s hplain hs
  rw [answers_iff, effect]
  intro now history
  refine ⟨fun hclips hsite => ?_, fun hquiet => ?_⟩
  · obtain ⟨htaken, hsilent, hvisit⟩ := boundary_fault hplain hs hclips hsite
    have hhistory : faultTimes now s.gov.faultHistory = history := rfl
    have hlevels : LevelsOk (blockBoundary order s) := levelsOk_keeps.blockBoundary order hs
    refine ⟨htaken.history, hvisit, htaken.grace, hsilent, fun hless => ?_, fun hthird => ?_⟩
    · obtain ⟨hmuted, hlock, hmute⟩ := htaken.mute hless
      exact ⟨hmuted, hlock, hmute.trans (by cases s.gov.lastMuteEnd <;> rfl)⟩
    · obtain ⟨hlocked, hflag, hmute, hlock⟩ := htaken.lockout hthird
      refine ⟨hlocked, hflag, hmute, hlock, ?_⟩
      rw [LevelsOk.alarm hlevels, alarmOf, hlocked]
      simp
  · obtain ⟨first, last, hcut⟩ := exists_cut hplain
    have hbefore := before_quiet hplain hcut hquiet
    have hafter := boundary_quiet hplain hcut hquiet
    have hu := levelsOk_before first last hs
    have hkeeps : s.gov.KeepsFaults (afterEvaluation first last s).gov := by
      have h := evaluated_keepsFaults last.isEmpty (beforeEvaluation first last s)
      rw [hbefore.gov] at h
      exact h
    have hlines : (afterEvaluation first last s).lines = s.lines := (evaluated_lines hu _).trans (hbefore.lines.trans rfl)
    obtain ⟨hhist, -, hmute, hlock, hgrace, hsite, -⟩ := hkeeps.fields
    rw [hafter.gov, hafter.lines]
    exact ⟨hhist, hsite, hmute, hlock, hgrace, hlines⟩

end Sys2Proof
end
section
/-! PROOFS. Steps that stand inside a block boundary (O17). -/

namespace Sys2Proof.Machine

open Sys2Proof

variable {s t u : State} {i j k : PathIx} {reports : Vector (Option Nat) 12} {clips : Nat} {rest order l : List BoundaryAct}
  {first last : List BoundaryAct}

/-! ### A step behind every act -/

/-- A step does not count among the boundary's own acts. -/
theorem orderOk_step (first last : List BoundaryAct) (b : BoundaryStep) :
    orderOk (first ++ .step b :: last) = orderOk (first ++ last) := by
  simp [orderOk, List.filter_append, BoundaryAct.isOwn]

/-- An act with acts behind it does not see the step that stands last. -/
theorem act_before_step (b : BoundaryStep) {a c : BoundaryAct} (l : List BoundaryAct) (s : State) :
    boundaryAct reports clips (c :: l ++ [.step b]) a s = boundaryAct reports clips (c :: l) a s := by
  cases a with
  | level j => rfl
  | clips => rfl
  | evaluation => rfl
  | bit j => rfl
  | step d =>
    have hsame : (fun i => (c :: l ++ [BoundaryAct.step b]).contains (.bit i)) = fun i => (c :: l).contains (.bit i) := by
      funext i
      simp
    rw [boundaryAct, boundaryAct, hsame]

/-- The last act before the step: an evaluation is completed by the restore that it calls for. -/
theorem last_before_step (b : BoundaryStep) (a : BoundaryAct) (s : State) :
    (a ≠ .evaluation → boundaryAct reports clips [.step b] a s = boundaryAct reports clips [] a s) ∧
    (a = .evaluation → boundaryAct reports clips [.step b] a s = restore (boundaryAct reports clips [] a s)) := by
  refine ⟨fun hne => ?_, fun he => by rw [he]; rfl⟩
  cases a with
  | level j => rfl
  | clips => rfl
  | evaluation => exact absurd rfl hne
  | bit j => rfl
  | step d =>
    have hsame : (fun i => [BoundaryAct.step b].contains (.bit i)) = fun i => ([] : List BoundaryAct).contains (.bit i) := by
      funext i
      simp
    rw [boundaryAct, boundaryAct, hsame]

/-- The acts before a step that stands last: those of the boundary without it, with its last evaluation completed. -/
theorem upTo_step (b : BoundaryStep) (l : List BoundaryAct) (s : State) :
    (l.getLast? ≠ some .evaluation → boundaryUpTo reports clips [.step b] l s = boundaryRun reports clips l s) ∧
    (l.getLast? = some .evaluation → boundaryUpTo reports clips [.step b] l s = restore (boundaryRun reports clips l s)) := by
  induction l generalizing s with
  | nil => exact ⟨fun _ => rfl, fun h => by cases h⟩
  | cons a l ih =>
    cases l with
    | nil =>
      obtain ⟨hother, heval⟩ := last_before_step (reports := reports) (clips := clips) b a s
      exact ⟨fun h => hother fun he => h (by rw [he]; rfl), fun h => heval (Option.some.inj h)⟩
    | cons c l =>
      have hact := act_before_step (reports := reports) (clips := clips) b (a := a) (c := c) l s
      have hlast : (a :: c :: l).getLast? = (c :: l).getLast? := List.getLast?_cons_cons
      rw [hlast, boundaryUpTo, hact, boundaryRun_cons]
      exact ih _

theorem takeStep_last (b : BoundaryStep) (s : State) :
    boundaryRun reports clips [.step b] s = effect (stepCommand b) s :=
  takeStep_eq_effect (.inr fun _ => rfl) s

theorem blockBoundary_step (hok : orderOk order = true) (b : BoundaryStep) (s : State) :
    (order.getLast? ≠ some .evaluation →
      blockBoundary (order ++ [.step b]) s = effect (stepCommand b) (blockBoundary order s)) ∧
    (order.getLast? = some .evaluation →
      blockBoundary (order ++ [.step b]) s = effect (stepCommand b) (restore (blockBoundary order s))) := by
  have hok' : orderOk (order ++ [.step b]) = true := by rw [orderOk_step, List.append_nil, hok]
  obtain ⟨hother, heval⟩ := upTo_step (reports := blockReports s) (clips := s.composite.clips) b order (openBoundary s)
  rw [blockBoundary, blockBoundary, boundaryOrder_of_ok hok, boundaryOrder_of_ok hok', boundaryRun_append, takeStep_last]
  exact ⟨fun h => congrArg _ (hother h), fun h => congrArg _ (heval h)⟩

/-! ### A frame start among the bits (R36) -/

/-- No act of the boundary writes the depth that the builder keeps. -/
theorem act_keptDepth {a : BoundaryAct} (hown : ∀ b, a ≠ .step b) (s : State) :
    ((boundaryAct reports clips rest a s).builderPath i).keptDepth = (s.builderPath i).keptDepth := by
  by_cases h : a = .bit i
  · rw [h, boundaryAct, (handBit_self s i).1]
    rfl
  · rw [(BitStands.act hown h s).builder]

theorem upTo_keptDepth {tail : List BoundaryAct} (hplain : PlainOrder l) (s : State) :
    ((boundaryUpTo reports clips tail l s).builderPath i).keptDepth = (s.builderPath i).keptDepth :=
  boundaryUpTo_keeps (P := fun u => (u.builderPath i).keptDepth = (s.builderPath i).keptDepth) (fun _ ha _ u hu =>
    (act_keptDepth (fun b hb => hplain b (hb ▸ ha)) u).trans hu) rfl

/-- The builder's record of a path after a check under condition c and one bit. -/
def BuilderPath.handed (c : Cond) (b : BuilderPath) : BuilderPath := { b.checked c with bitPosition := b.bitPosition + 1 }

/-- Acts with a path's bit among them hand it once. -/
theorem run_hands_bit (hplain : PlainOrder l) (hnd : l.Nodup) (hmem : .bit i ∈ l) (s : State) :
    ∃ c, (boundaryRun reports clips l s).builderPath i = (s.builderPath i).handed c := by
  obtain ⟨l₁, l₂, rfl⟩ := List.append_of_mem hmem
  obtain ⟨-, hnd₂, hcross⟩ := List.nodup_append.mp hnd
  have hne₁ : .bit i ∉ l₁ := fun h => hcross _ h _ List.mem_cons_self rfl
  have hne₂ := (List.nodup_cons.mp hnd₂).1
  rw [boundaryRun_append, boundaryRun_cons]
  have hbefore := BitStands.upTo (reports := reports) (clips := clips) (tail := .bit i :: l₂) (plain_left hplain) hne₁ s
  have hafter := BitStands.run (reports := reports) (clips := clips) (plain_tail (plain_right hplain)) hne₂
    (handBit i (boundaryUpTo reports clips (.bit i :: l₂) l₁ s))
  refine ⟨((boundaryUpTo reports clips (.bit i :: l₂) l₁ s).path i).cond, hafter.builder.trans ?_⟩
  rw [(handBit_self _ i).1, hbefore.builder]
  rfl

/-- A frame start hands the bits of the paths whose bit is not ahead. -/
theorem frameStartAmong_builder (hdue : 400 ≤ s.builder.frameTimer) (ahead : PathIx → Bool) (i : PathIx) :
    (frameStartAmong ahead s).builderPath i = if ahead i then startFrame s i (s.builderPath i)
      else (startFrame s i (s.builderPath i)).handed (s.path i).cond := by
  have hexpired : frameTimerExpired s = true := decide_eq_true hdue
  have h := forPaths_pointwise (fun u j => ((u.path j).cond, u.builderPath j)) (fun i t => if ahead i then t else handBit i t)
    (fun i x => (x.1, if ahead i then x.2 else x.2.handed x.1))
    (fun j u => by
      split
      · rfl
      · rw [(handBit_self u j).1]
        rfl)
    (fun j k u hk => by
      split
      · rfl
      · rw [(handBit_ne u hk).1]
        rfl) (takeSnapshots s) i
  have hbuilder := congrArg Prod.snd h
  dsimp only at hbuilder
  rw [takeSnapshots_builderPath, takeSnapshots_path] at hbuilder
  rw [frameStartAmong, if_pos hexpired]
  exact hbuilder

theorem frameStartAmong_timer (hdue : 400 ≤ s.builder.frameTimer) (ahead : PathIx → Bool) :
    (frameStartAmong ahead s).builder.frameTimer = s.builder.frameTimer - 400 := by
  have hexpired : frameTimerExpired s = true := decide_eq_true hdue
  have hbits : BoundaryFrame (takeSnapshots s)
      (forPaths (fun i t => if ahead i then t else handBit i t) (takeSnapshots s)) :=
    forPaths_keeps (P := BoundaryFrame (takeSnapshots s)) (fun i u hu => by
      split
      · exact hu
      · exact hu.trans (BoundaryFrame.handBit i u)) (.refl _)
  rw [frameStartAmong, if_pos hexpired, hbits.timer, takeSnapshots_timer]

theorem startFrame_position (s : State) (i : PathIx) (b : BuilderPath) : (startFrame s i b).bitPosition = 0 := by
  rw [startFrame]
  split <;> rfl

/-- A boundary with a frame start among its acts: each path's record is that of the frame started, with its first bit
handed. -/
theorem boundary_frameStart (hfirst : PlainOrder first) (hlast : PlainOrder last) (hok : orderOk (first ++ last) = true)
    (hdue : 399 ≤ s.builder.frameTimer) :
    (blockBoundary (first ++ .step .frameStart :: last) s).builder.frameTimer = s.builder.frameTimer - 399 ∧
    ∀ i, ∃ u c, u.station = s.station ∧ u.carryOf i = s.carryOf i ∧
      (u.builderPath i).keptDepth = (s.builderPath i).keptDepth ∧
      (blockBoundary (first ++ .step .frameStart :: last) s).builderPath i = (startFrame u i (u.builderPath i)).handed c := by
  have hplain : PlainOrder (first ++ last) := fun b hb =>
    (List.mem_append.mp hb).elim (hfirst b) (hlast b)
  have hperm := orderOk_perm hplain hok
  obtain ⟨-, hnd, hcross⟩ := List.nodup_append.mp (hperm.nodup_iff.mpr all_nodup)
  have hframe := BoundaryFrame.upTo (reports := blockReports s) (clips := s.composite.clips) (tail := .step .frameStart :: last)
    hfirst (openBoundary s)
  have hdepth (i : PathIx) := upTo_keptDepth (reports := blockReports s) (clips := s.composite.clips) (i := i)
    (tail := .step .frameStart :: last) hfirst (openBoundary s)
  rw [blockBoundary, boundaryOrder_of_ok ((orderOk_step first last _).trans hok), boundaryRun_append, boundaryRun_cons]
  generalize boundaryUpTo (blockReports s) s.composite.clips (.step .frameStart :: last) first (openBoundary s) = u at *
  have hact : boundaryAct (blockReports s) s.composite.clips last (.step .frameStart) u =
      frameStartAmong (fun i => last.contains (.bit i)) u := rfl
  have htimer : u.builder.frameTimer = s.builder.frameTimer + 1 := hframe.timer
  have hdue' : 400 ≤ u.builder.frameTimer := by omega
  have hstarted (i : PathIx) := frameStartAmong_builder hdue' (fun i => last.contains (.bit i)) i
  have hnext := frameStartAmong_timer hdue' fun i => last.contains (.bit i)
  rw [hact]
  generalize frameStartAmong (fun i => last.contains (.bit i)) u = n at *
  refine ⟨?_, fun i => ?_⟩
  · rw [(BoundaryFrame.run hlast n).timer, hnext, htimer]
    omega
  · have hstation : u.station = s.station := by rw [hframe.frame]; rfl
    have hcarry : u.carryOf i = s.carryOf i := by rw [State.carryOf, hframe.frame]; rfl
    have hi := hstarted i
    by_cases hmem : .bit i ∈ last
    · obtain ⟨c, hc⟩ := run_hands_bit (reports := blockReports s) (clips := s.composite.clips) hlast hnd hmem n
      rw [if_pos (List.contains_iff_mem.mpr hmem)] at hi
      exact ⟨u, c, hstation, hcarry, hdepth i, by rw [hc, hi]⟩
    · rw [if_neg (fun h => hmem (List.contains_iff_mem.mp h))] at hi
      exact ⟨u, _, hstation, hcarry, hdepth i, by rw [(BitStands.run hlast hmem n).builder, hi]⟩

/-! ### A mute that ends before the evaluation (R144) -/

/-- The end of a mute on a site that runs without lockout, with the permit: it transmits, under a cap of 64. -/
theorem muteEnd_transmits {d : Time} (hs : LevelsOk s) (hst : s.station = .running) (hlock : s.gov.lockoutDeadline = none)
    (hmute : s.gov.muteDeadline = some d) (hpermit : s.lines.permit = true) (hdue : reached s.now d = true) :
    (muteEnd s).params = s.params ∧ (muteEnd s).gov.muteDeadline = none ∧ (muteEnd s).gov.lastMuteEnd = some s.now ∧
    (muteEnd s).gov.cap = 64 ∧ (muteEnd s).gov.site = .transmitting ∧ (muteEnd s).gov.graceDeadline = none := by
  have hmuted : s.gov.site = .muted := by
    rw [LevelsOk.site hs, State.derivedSite]
    simp [siteOf, hst, hlock, hmute]
  have hderived : s.muteEnded.derivedSite = .transmitting := by
    rw [derivedSite_running (s := s.muteEnded) hst hlock rfl]
    exact if_pos hpermit
  have hgov : (muteEnd s).gov = (writeSite .transmitting s.muteEnded).gov := by
    have hsite : s.muteEnded.gov.site = .muted := hmuted
    rw [muteEnd_due hmute hdue, rederiveSite_of_ne (by rw [hderived, hsite]; decide), hderived, enterSite_gov]
  have hparams : (muteEnd s).params = s.params := by
    have h := rederiveSite_frame s.muteEnded
    rw [← muteEnd_due hmute hdue] at h
    unfold SiteFrame at h
    rw [h]
    rfl
  rw [hgov]
  exact ⟨hparams, rfl, rfl, rfl, rfl, rfl⟩

/-- The acts of a boundary from any state without a clip fault: the evaluation applies the cap that it meets. -/
theorem run_settles (hplain : PlainOrder order) (hok : orderOk order = true) (hquiet : ClipsQuiet clips s) :
    s.gov.KeepsFaults (boundaryRun reports clips order s).gov ∧
    (boundaryRun reports clips order s).gov.cap = min 256 (s.gov.cap + 8) ∧
    (boundaryRun reports clips order s).gov.backoff ≤ s.gov.cap ∧
    (order.getLast? = some .evaluation → ∀ i, ((boundaryRun reports clips order s).txSide i).pendingSet =
      pendingFor (boundaryRun reports clips order s).gov.backoff ((boundaryRun reports clips order s).path i)) := by
  obtain ⟨first, last, rfl⟩ := order_split (orderOk_perm hplain hok) (a := .evaluation) fun b => by simp
  obtain ⟨hne₁, hne₂⟩ := order_once (orderOk_perm hplain hok)
  have hbefore := QuietStands.upTo (reports := reports) (clips := clips) (tail := .evaluation :: last) (plain_left hplain) hne₁ hquiet
  rw [boundaryRun_append, boundaryRun_cons]
  generalize boundaryUpTo reports clips (.evaluation :: last) first s = u at *
  have hact : boundaryAct reports clips last .evaluation u = evaluated last.isEmpty u := rfl
  rw [hact]
  have hsettled := settled_evaluated last.isEmpty u
  have hcap := evaluated_cap last.isEmpty u
  have hfaults := evaluated_keepsFaults last.isEmpty u
  have hframe := BoundaryFrame.evaluated last.isEmpty u
  rw [hbefore.gov] at hsettled hcap hfaults
  have hquiet' : ClipsQuiet clips (evaluated last.isEmpty u) :=
    hquiet.stands (by rw [hframe.frame]; exact hbefore.params) hfaults.site
  have hafter := QuietStands.run (reports := reports) (plain_tail (plain_right hplain)) hne₂ hquiet'
  refine ⟨by rw [hafter.gov]; exact hfaults, by rw [hafter.gov, hcap], ?_, fun hend i => ?_⟩
  · rw [hafter.gov, hsettled.backoff]
    exact Nat.min_le_right _ _
  · have hnil : last = [] := by
      by_contra hne
      rw [List.getLast?_append, List.getLast?_cons, List.getLast?_eq_some_getLast hne] at hend
      exact hne₂ (Option.some.inj hend ▸ List.getLast_mem hne)
    rw [hnil] at hsettled ⊢
    exact hsettled.pending i

end Sys2Proof.Machine

namespace Sys2Proof

open Machine

/-- Settles O17: what a step stands behind and before is what its command meets and leaves. -/
theorem stepsInsideBoundary : Obligations.StepsInsideBoundary := by
  refine ⟨fun order b s hok => ?_, fun order s hok => ?_, fun reports clips b rest s hbits => ?_,
    fun first last s hfirst hlast hok hdue hstation => ?_, fun order d s hplain hok hs hst hlock hmute hpermit hclips hdue => ?_⟩
  · obtain ⟨hother, heval⟩ := blockBoundary_step hok b s
    refine ⟨blockBoundary order s, rfl, fun h => ?_, fun h => ⟨restore (blockBoundary order s), rfl, ?_⟩⟩
    · rw [exec_eq, exec_eq, effect, hother h]
    · rw [exec_eq, exec_eq, effect, heval h]
  · rw [exec_eq, effect, blockBoundary, boundaryOrder_of_ok hok]
  · refine ⟨effect (stepCommand b) s, exec_eq _ s, ?_⟩
    have hahead : b ≠ .frameStart ∨ ∀ i, rest.contains (.bit i) = false :=
      hbits.imp_right fun h i => by
        rw [← Bool.not_eq_true]
        exact fun hc => h i (List.contains_iff_mem.mp hc)
    rw [boundaryRun_cons, boundaryAct, takeStep_eq_effect hahead]
  · rw [answers_iff, effect]
    obtain ⟨htimer, hbuilder⟩ := boundary_frameStart hfirst hlast hok hdue
    refine ⟨htimer, fun i => ?_⟩
    obtain ⟨u, c, hust, hcarry, hdepth, hrecord⟩ := hbuilder i
    have hlistening : listening u.station = true := by
      rw [hust]
      rcases hstation with h | h <;> rw [h] <;> rfl
    have hposition := startFrame_position u i (u.builderPath i)
    rw [hrecord]
    refine ⟨?_, fun hen => ?_, fun hen => ?_⟩
    · rw [BuilderPath.handed, hposition]
    · have htakes : takesSnapshot u i = true := by rw [takesSnapshot, hlistening, hcarry, hen]; rfl
      rw [startFrame_takes htakes]
      rfl
    · have hidle : takesSnapshot u i = false := by rw [takesSnapshot, hcarry, hen, Bool.and_false]
      rw [startFrame_idle hidle, BuilderPath.handed, (checked_none rfl).1, hdepth]
  · rw [answers_iff, effect]
    have hopen := LevelsOk.opening hs
    obtain ⟨hparams, hmuteOff, hend, hcap, hsite, hgrace⟩ :=
      muteEnd_transmits (s := openBoundary s) hopen hst hlock hmute hpermit hdue
    have hquiet : ClipsQuiet s.composite.clips (muteEnd (openBoundary s)) := .inl (by rw [hparams]; exact hclips)
    obtain ⟨hfaults, hraised, hback, hpending⟩ := run_settles (reports := blockReports s) hplain hok hquiet
    have hok' : orderOk (.step .muteEnd :: order) = true := (orderOk_step [] order .muteEnd).trans hok
    have hrun : blockBoundary (.step .muteEnd :: order) s =
        boundaryRun (blockReports s) s.composite.clips order (muteEnd (openBoundary s)) := by
      rw [blockBoundary, boundaryOrder_of_ok hok']
      rfl
    rw [hrun]
    generalize boundaryRun (blockReports s) s.composite.clips order (muteEnd (openBoundary s)) = t at *
    obtain ⟨-, hlastEnd, hmute', -, hgrace', hsite', -⟩ := hfaults.fields
    rw [hcap] at hraised hback
    refine ⟨hmute'.trans hmuteOff, hlastEnd.trans hend, hraised, hback, hsite'.trans hsite, hgrace'.trans hgrace,
      fun hlast i hfull => ?_⟩
    rw [hpending hlast i, pendingFor_full hfull]
    exact ⟨rfl, rfl⟩

end Sys2Proof
end
